-- ==== Sys2Proof/Word.lean ====
section
/-! DEFINITION. The plainest types of the MG2416: bytes, lane addresses, origin tags and the bounded
numbers (slots, shelves, ports, ranks, hops) that every other file uses. -/

namespace Sys2Proof

/-- One byte of a lane frame (Section 10.1). -/
abbrev Byte := BitVec 8

/-- A 12-bit lane address (Table 0-2, R15). -/
abbrev Address := BitVec 12

/-- A 48-bit origin tag (Table 0-2, R131, R135). -/
abbrev OriginTag := BitVec 48

/-- A candidate slot, C0 to C23 (R18). Slot n is fed by tick input n. -/
abbrev Slot := Fin 24

/-- A shelf, S0 to S15. -/
abbrev ShelfId := Fin 16

/-- A port table index, shelf × 16 + index (Table 0-2). -/
abbrev PortId := Fin 256

/-- A list entry number, E0 to E7 (R77). -/
abbrev EntryId := Fin 8

/-- A receive or transmit map number (R63, R146). -/
abbrev MapId := Fin 4

/-- A rank, 0 best and 15 unusable (Table 0-2, R68). -/
abbrev Rank := Fin 16

/-- A grade code, 0 to 15 (Table 0-2). -/
abbrev Code := Fin 16

/-- A hop count, 0 to 31 (Table 0-2, R68, R132). -/
abbrev Hop := Fin 32

/-- A latch, by its place in the (kind, index) order of Table 8-1: 24 × 4 + 16 × 6 + 3 = 195 (R152). -/
abbrev LatchId := Fin 195

/-- A condition whose presence the Event Unit copies: 24 × 2 + 16 × 2 = 80 (R153). -/
abbrev CondId := Fin 80

/-- An event kind by its code less one, in the order of Table 8-1 (Section 10.4). -/
abbrev EventKind := Fin 13

/-- A lane frame as the bytes that travel, header first and CRC-16 last (Table 10-1). -/
abbrev Frame := List Byte

/-- The two lane ports (Chapter 1): FABRIC faces the shelves, CONTROL faces the node controller. -/
inductive LanePort where
  | fabric
  | control
  deriving DecidableEq, Repr

/-- The hop count one further on, at most 31 (R131, R132). -/
def Hop.succ (h : Hop) : Hop := if h.val + 1 < 32 then Fin.ofNat 32 (h.val + 1) else 31

end Sys2Proof
end

