-- ==== Sys2Proof/Config.lean ====
section
/-! DEFINITION. What the part fixes: queue capacities, oscillator figures and ranges, each with its rule,
and the one value the manual leaves open (how a time read in units of 10 ms is rounded). -/

namespace Sys2Proof.Config

/-- Capacity of each transit queue (R6). -/
def transitCapacity : Nat := 64
/-- Capacity of the local inbound queue (R7). -/
def localInCapacity : Nat := 16
/-- Capacity of the request queue, the head included (R10). -/
def requestCapacity : Nat := 4
/-- Capacity of the FABRIC local outbound queue (R11, Table 1-3). -/
def fabricOutCapacity : Nat := 32
/-- Capacity of the CONTROL local outbound queue (R11, Table 1-3). -/
def controlOutCapacity : Nat := 8

/-- Oscillator periods in one millisecond at the nominal 125,000,000 Hz (Section 1.6, R37). -/
def periodsPerMs : Nat := 125000
/-- Oscillator periods in one second. -/
def periodsPerS : Nat := 125000000
/-- The timebase granularity of 10 ms, in oscillator periods (Section 1.6, R24). -/
def granule : Nat := 1250000
/-- Periods without a tick after which an input is MISSING (R37). -/
def lossSpan : Nat := 125000
/-- Tick intervals of one gate (R39). -/
def ticksPerGate : Nat := 8000
/-- The nominal gate count (R41). -/
def nominalGate : Nat := 125000000
/-- The lowest and highest gate counts in range (R41). -/
def gateLow : Nat := 124993750
def gateHigh : Nat := 125006250
/-- The magnitude at which offsets are clamped and saturated, in ppb (R42, R43). -/
def offsetMax : Int := 50000
/-- EVENT notices of one port in one budget window (R141, R144). -/
def noticeBudget : Nat := 3
/-- The length of a budget window in milliseconds (R144). -/
def windowMs : Nat := 1000
/-- The most entries of one Event Notice (R159). -/
def noticeEntries : Nat := 79
/-- Steps after which the cascade walk ends (R89). -/
def walkSteps : Nat := 16
/-- Where the engine's budget count stops (R83). -/
def countStop : Nat := 8
/-- The part code and the revision (R170). -/
def partCode : Nat := 0x2416
def revision : Nat := 3
/-- The bytes left for records in a READ_TABLE answer (Section 10.6). -/
def recordSpace : Nat := 233

/-- A FREE VALUE (log entry 4). The manual reads running times in units of 10 ms and does not say
how a time that is no whole number of units is rounded. For the remainder, in oscillator periods, this says
whether the read shows the unit above or the unit below; nothing constrains it. -/
opaque roundsUp : Nat → Bool

end Sys2Proof.Config
end

