-- ==== Sys2Proof/Syntax.lean ====
section
/-! DEFINITION. The commands of the MG2416: one constructor per row of spec/opcode_table.json, in the table's
order. The table gives its rows no operands; the operands here are what an outside event carries (a frame's
bytes, the strap pins' levels, the periods since the last event) and the index of the candidate, shelf, port or lane
port concerned (log entry 1). A management request row has no operand: it serves the request that stands at the
head of the request queue. -/

namespace Sys2Proof

inductive Instr where
  /-- POWER_ON (R16), with the strap pins as they are sampled (R15). -/
  | powerOn (straps : Address)
  /-- RESET_LINE_ASSERTED (R16). -/
  | resetLineAsserted
  /-- RESET_LINE_RELEASED (R16), with the strap pins as they are sampled (R15). -/
  | resetLineReleased (straps : Address)
  /-- FRAME_RECEIVED (R1): the frame's bytes, and whether its reception began while the reset line was
  asserted (R16). -/
  | frameReceived (port : LanePort) (bytes : Frame) (begunInReset : Bool)
  /-- TRANSMISSION_END (R14). -/
  | transmissionEnd (port : LanePort)
  /-- DEVICE_RESTART (R17). -/
  | deviceRestart
  /-- RECEIVED_GRADE_NOTICE (R56). -/
  | receivedGradeNotice
  /-- LOCK_REPORT (R115). -/
  | lockReport
  /-- TICK (R39): a tick on input n, `periods` oscillator periods after the event before it. -/
  | tick (n : Slot) (periods : Nat)
  /-- TICK_LOSS (R37). -/
  | tickLoss (n : Slot)
  /-- HEALTH_REPORT (R19). -/
  | healthReport (n : Slot)
  /-- LOCK_FAILED_REMOVAL (R82). -/
  | lockFailedRemoval (n : Slot)
  /-- HOLD_OFF_EXPIRY (R23). -/
  | holdOffExpiry (n : Slot)
  /-- WTR_EXPIRY (R22). -/
  | wtrExpiry (n : Slot)
  /-- NOTICE_TIMER_EXPIRY (R61). -/
  | noticeTimerExpiry (n : Slot)
  /-- TRIPLE_HANDOVER (R70): the Grade Receiver takes shelf k's new triple. -/
  | tripleHandover (k : ShelfId)
  /-- TARGET_GRADE_HANDOVER (R132): the slice of shelf k takes a changed grade of its target. -/
  | targetGradeHandover (k : ShelfId)
  /-- NOTICE_UNIT_HANDOVER (R142): the Notice Unit takes shelf k's triple, target and state. -/
  | noticeUnitHandover (k : ShelfId)
  /-- PERIODIC_TIMER_EXPIRY (R143). -/
  | periodicTimerExpiry (p : PortId)
  /-- BUDGET_WINDOW_START (R144). -/
  | budgetWindowStart
  /-- EVALUATION (R85). -/
  | evaluation
  /-- LOCK_TIMER_EXPIRY (R120). -/
  | lockTimerExpiry (k : ShelfId)
  /-- SETTLE_TIMER_EXPIRY (R121). -/
  | settleTimerExpiry (k : ShelfId)
  /-- REPORT_TIMER_EXPIRY (R122). -/
  | reportTimerExpiry (k : ShelfId)
  /-- HOLDOVER_BUDGET_EXHAUSTED (R134). -/
  | holdoverBudgetExhausted (k : ShelfId)
  /-- SPACING_TIMER_EXPIRY (R159). -/
  | spacingTimerExpiry
  /-- SUMMARY_TIMER_EXPIRY (R160). -/
  | summaryTimerExpiry
  /-- ANSWER_PLACED (R13). -/
  | answerPlaced
  /-- REQUEST_TOO_SHORT (R186). -/
  | requestTooShort
  /-- UNKNOWN_KIND (R166). -/
  | unknownKind
  /-- IDENTIFY (R170). -/
  | identify
  /-- READ_TABLE (R171). -/
  | readTable
  /-- READ_STATUS of a candidate (R33). -/
  | readStatusCandidate
  /-- READ_STATUS of a shelf (R106). -/
  | readStatusShelf
  /-- READ_STATUS of a port (R149). -/
  | readStatusPort
  /-- WRITE_CANDIDATE (R173). -/
  | writeCandidate
  /-- WRITE_LIST_ENTRY (R78). -/
  | writeListEntry
  /-- WRITE_SHELF (R174). -/
  | writeShelf
  /-- WRITE_PORTS (R175). -/
  | writePorts
  /-- WRITE_MAP of a receive map (R63). -/
  | writeReceiveMap
  /-- WRITE_MAP of a transmit map (R146). -/
  | writeTransmitMap
  /-- DETACH_MAP of a receive map (R64). -/
  | detachReceiveMap
  /-- ATTACH_MAP of a receive map (R65). -/
  | attachReceiveMap
  /-- DETACH_MAP of a transmit map (R146). -/
  | detachTransmitMap
  /-- ATTACH_MAP of a transmit map (R147). -/
  | attachTransmitMap
  /-- WRITE_NODE (R177). -/
  | writeNode
  /-- TAKE (R168). -/
  | take
  /-- RELEASE (R168). -/
  | release
  /-- COMMAND with HOLD (R94). -/
  | commandHold
  /-- COMMAND with FORCE (R95). -/
  | commandForce
  /-- COMMAND with MANUAL (R96). -/
  | commandManual
  /-- COMMAND with CLEAR (R97). -/
  | commandClear
  /-- COMMAND with LOCKOUT (R98). -/
  | commandLockout
  /-- SLICE with PARK (R125). -/
  | park
  /-- SLICE with UNPARK (R126). -/
  | unpark
  /-- SLICE with RESET (R127). -/
  | sliceReset
  /-- CLEAR_MARKS (R100). -/
  | clearMarks
  /-- ACK_EVENTS (R158). -/
  | ackEvents
  /-- RESTART (R181). -/
  | restart
  /-- CLEAR_RESTART_RECORD (R180). -/
  | clearRestartRecord
  deriving DecidableEq, Repr

end Sys2Proof
end

