-- ==== Sys2Proof/WellFormed.lean ====
section
/-! DEFINITION. Which commands can be sent at all. Slots, shelves, ports and lane ports are bounded by their
types; what is left to check is that a received frame has a last byte (R1: the part takes a frame when the reception of
its LAST BYTE ends). A frame that is too short, too long or damaged is well formed here: refusing it is the
frame check's work (R2). -/

namespace Sys2Proof

def Instr.wellFormed : Instr → Bool
  | .frameReceived _ bytes _ => !bytes.isEmpty
  | .powerOn _ | .resetLineAsserted | .resetLineReleased _ | .transmissionEnd _ | .deviceRestart
  | .receivedGradeNotice | .lockReport | .tick _ _ | .tickLoss _ | .healthReport _ | .lockFailedRemoval _
  | .holdOffExpiry _ | .wtrExpiry _ | .noticeTimerExpiry _ | .tripleHandover _ | .targetGradeHandover _
  | .noticeUnitHandover _ | .periodicTimerExpiry _ | .budgetWindowStart | .evaluation | .lockTimerExpiry _
  | .settleTimerExpiry _ | .reportTimerExpiry _ | .holdoverBudgetExhausted _ | .spacingTimerExpiry
  | .summaryTimerExpiry | .answerPlaced | .requestTooShort | .unknownKind | .identify | .readTable
  | .readStatusCandidate | .readStatusShelf | .readStatusPort | .writeCandidate | .writeListEntry | .writeShelf
  | .writePorts | .writeReceiveMap | .writeTransmitMap | .detachReceiveMap | .attachReceiveMap
  | .detachTransmitMap | .attachTransmitMap | .writeNode | .take | .release | .commandHold | .commandForce
  | .commandManual | .commandClear | .commandLockout | .park | .unpark | .sliceReset | .clearMarks
  | .ackEvents | .restart | .clearRestartRecord => true

end Sys2Proof
end

