-- ==== Sys2Proof/Decode.lean ====
section
/-! DEFINITION. The decoder over the opcode table's bits. No row of spec/opcode_table.json gives bits (its rows
are events and operations of a block), so no word spells a command. The part's own decoder, from a
management request at the head of the request queue to the row that serves it, is requestRow in
Sys2Proof/Machine/Operands.lean. -/

namespace Sys2Proof

/-- The command a word spells by the opcode table's bits: the table gives no row any bits, so none. -/
def decodeTableWord (_nbits _w : Nat) : Option Instr := none

end Sys2Proof
end

