-- ==== Sys2Proof/Machine/Blocks.lean ====
section
/-! DEFINITION. The state of each block of the MG2416, as plain data, block by block in the manual's order. A
collection that the manual bounds is a Vector or a list; a running timer holds the oscillator count of its
earliest expiry (log entry 3). -/

namespace Sys2Proof.Machine

/-- A timer: none when stopped, else the oscillator count of its earliest expiry (Section 1.6). -/
abbrev Timer := Option Nat

/-! ### The Lane Interface (Chapter 1) -/

/-- The claimant an output arbiter served last (R14). -/
inductive Claimant where
  | transit
  | localQ
  deriving DecidableEq, Repr

/-- A frame of a local outbound queue. The mark tells the answer of a RESTART request, whose end of
transmission is the restart (R17, R181). -/
structure OutFrame where
  bytes : Frame
  isRestartAnswer : Bool
  deriving DecidableEq, Repr

/-- One output port: the transit queue that leads to it, its local outbound queue, the arbiter's record and the
frame in transmission, if any (R1, R14). -/
structure OutPort where
  transitQ : List Frame
  localQ : List OutFrame
  servedLast : Claimant
  sending : Option OutFrame
  deriving DecidableEq, Repr

/-- The Lane Interface (Table 1-1). `fabric` is the FABRIC output port, with the CONTROL-to-FABRIC transit queue;
`control` is the CONTROL output port, with the FABRIC-to-CONTROL transit queue. -/
structure Lane where
  strap : Address
  resetAsserted : Bool
  fabric : OutPort
  control : OutPort
  localIn : List Frame
  requests : List Frame
  deriving DecidableEq, Repr

/-! ### The Candidate Manager (Chapter 2) -/

/-- The kind of a candidate (Table 2-1). -/
inductive Kind where
  | none
  | line
  | station
  | shelf
  deriving DecidableEq, Repr

/-- The state of a candidate (Table 2-4). -/
inductive CandState where
  | idle
  | down
  | restoring
  | available
  | suspect
  deriving DecidableEq, Repr

/-- The candidate's timer in use: none, the hold-off or WTR timer with its earliest expiry, or a paused WTR timer
with the oscillator periods it has left (R24, R25). -/
inductive CandTimer where
  | none
  | holdOff (due : Nat)
  | wtr (due : Nat)
  | wtrPaused (left : Nat)
  deriving DecidableEq, Repr

/-- A candidate at the Candidate Manager: the binding fields (R18) and the dynamic state (R19 to R26). -/
structure Cand where
  kind : Kind
  source : ShelfId
  holdOffMs : Nat
  wtrS : Nat
  maintHold : Bool
  state : CandState
  fresh : Bool
  health : Bool
  timer : CandTimer
  deriving DecidableEq, Repr

/-! ### The Tick Monitor (Chapter 3) -/

/-- A gate in progress: the ticks taken since its opening tick, and the oscillator count at that tick (R39). -/
structure Gate where
  ticks : Nat
  openedAt : Nat
  deriving DecidableEq, Repr

/-- One tick input (Table 3-1). -/
structure TickInput where
  windowLen : Nat
  acceptPpb : Nat
  rejectPpb : Nat
  watched : Bool
  active : Bool
  lastTick : Nat
  gate : Option Gate
  window : List Nat
  lastGate : Option Nat
  offset : Option Int
  beyond : Bool
  qualified : Bool
  deriving DecidableEq, Repr

/-! ### The Grade Receiver (Chapter 4) -/

/-- An origin tag with its PARTIAL flag. -/
structure Origin where
  tag : OriginTag
  isPartial : Bool
  deriving DecidableEq, Repr

/-- The received path block (R58). -/
structure PathBlock where
  origin : Origin
  hop : Hop
  deriving DecidableEq, Repr

/-- The code state of a candidate (R59). -/
inductive CodeState where
  | pending
  | received (code : Code)
  | timedOut
  deriving DecidableEq, Repr

/-- An effective grade (R68, R69): the origin may be absent. -/
structure Grade where
  rank : Rank
  hop : Hop
  origin : Option Origin
  deriving DecidableEq, Repr

/-- The grade settings and grade state of a candidate (Table 4-1). -/
structure GradeSlot where
  rmap : MapId
  floor : Rank
  setRank : Rank
  setRankOn : Bool
  assumedHops : Hop
  timeoutS : Nat
  code : CodeState
  path : Option PathBlock
  mapped : Rank
  held : Bool
  timer : Timer
  eff : Grade
  deriving DecidableEq, Repr

/-- The receive half of a port entry (R53). -/
structure RxPort where
  inUse : Bool
  bound : Option Slot
  absorb : Bool
  deriving DecidableEq, Repr

/-- A receive map, code to rank (R63), or a transmit map, rank to code (R146). -/
structure GradeMap where
  entries : Vector (Fin 16) 16
  attached : Bool
  deriving DecidableEq, Repr

/-! ### The Shelf Slices (Chapters 6 and 7) -/

/-- The timing state of a slice (Table 6-3). -/
inductive Timing where
  | freerun
  | holdover
  | acquiring
  | settling
  | locked
  | parked
  deriving DecidableEq, Repr

/-- The advertised triple (R131). Its origin is always present. -/
structure Triple where
  rank : Rank
  hop : Hop
  origin : Origin
  deriving DecidableEq, Repr

/-- The action of the directive record: TRACK of a tick input, or HOLD with tick input 255 (R111). -/
inductive Action where
  | track (c : Slot)
  | hold
  deriving DecidableEq, Repr

/-- The last accepted report (R115); the module state and the tracked input are recorded as received. -/
structure Report where
  echo : Byte
  moduleState : Byte
  holdoverReady : Bool
  tracked : Byte
  deriving DecidableEq, Repr

/-- The timing settings of a slice (R109, R133). -/
structure SliceSettings where
  module : Address
  lockS : Nat
  reportS : Nat
  settleS : Nat
  holdoverRank : Rank
  freerunRank : Rank
  budgetMin : Nat
  deriving DecidableEq, Repr

/-- A slice (Table 6-1) with its advertised triple (R131). The holdover clock is none when stopped, else the
oscillator count at which HOLDOVER was entered (R123). -/
structure Slice where
  cfg : SliceSettings
  timing : Timing
  target : Option Slot
  seq : Byte
  action : Action
  unsent : Bool
  lastReport : Option Report
  history : Bool
  unreachable : Bool
  lockTimer : Timer
  settleTimer : Timer
  reportTimer : Timer
  holdoverSince : Option Nat
  exhausted : Bool
  triple : Triple
  deriving DecidableEq, Repr

/-! ### The Selection Engine (Chapter 5) -/

/-- A list entry (R77). -/
structure Entry where
  slot : Slot
  priority : Fin 16
  lockout : Bool
  deriving DecidableEq, Repr

/-- The selection mode (R79). -/
inductive Mode where
  | auto
  | priority
  deriving DecidableEq, Repr

/-- The selection settings of a shelf (R79). -/
structure Selection where
  mode : Mode
  revertive : Bool
  minRank : Rank
  hopLimit : Hop
  deriving DecidableEq, Repr

/-- The operator command of a shelf (R93). -/
inductive Command where
  | none
  | hold
  | force (e : EntryId)
  | manual (e : EntryId)
  deriving DecidableEq, Repr

/-- A target record that is not NONE: the slot with its frozen kind and source shelf (R80). -/
structure Target where
  slot : Slot
  kind : Kind
  source : ShelfId
  deriving DecidableEq, Repr

/-- A shelf at the engine (Table 5-1). The lock-failed set is held as its characteristic table, so that no slot
can stand in it twice and it has no order (R99). -/
structure Shelf where
  entries : Vector Entry 8
  sel : Selection
  command : Command
  failed : Vector Bool 24
  target : Option Target
  deriving DecidableEq, Repr

/-- An entry of the evaluation queue, with its mark note if it carries one (R81). -/
structure EvalEntry where
  shelf : ShelfId
  mark : Option Slot
  deriving DecidableEq, Repr

/-- The evaluation queue, the budget count and the engine budget E (R81, R83, R84). -/
structure Engine where
  queue : List EvalEntry
  count : Nat
  budget : Nat
  deriving DecidableEq, Repr

/-! ### The Notice Unit (Chapter 7) -/

/-- The path block of a Transmit Grade Notice (R139). -/
structure SentPath where
  hop : Hop
  origin : Origin
  deriving DecidableEq, Repr

/-- The content of a Transmit Grade Notice (R139). -/
structure Content where
  code : Code
  path : Option SentPath
  deriving DecidableEq, Repr

/-- The transmit half of a port entry (R138), the Notice Unit's copies of the in-use flag and bound candidate, and
the port's dynamic state (R139). The current content is what buildContent gives at each moment. -/
structure TxPort where
  address : Address
  tmap : MapId
  squelch : Rank
  fill : Code
  intervalS : Nat
  pathOn : Bool
  inUse : Bool
  bound : Option Slot
  lastSent : Option Content
  heldCode : Option Code
  periodic : Timer
  count : Nat
  changePending : Bool
  deriving DecidableEq, Repr

/-- The Notice Unit's copy of a slice: triple, current target and timing state (R139). -/
structure NoticeCopy where
  triple : Triple
  target : Option Slot
  timing : Timing
  deriving DecidableEq, Repr

/-! ### The Event Unit (Chapter 8) -/

/-- The state of a latch (R152). -/
inductive Latch where
  | clear
  | set
  | ackedWaiting
  deriving DecidableEq, Repr

/-- The Event Unit (R152 to R160). Bit k of `enables` and `levels` is the kind of code k + 1. -/
structure EventUnit where
  latches : Vector Latch 195
  copies : Vector Bool 80
  enables : BitVec 13
  levels : BitVec 13
  destination : Address
  spacingMs : Nat
  summaryS : Nat
  news : Bool
  resume : Option LatchId
  spacingTimer : Timer
  summaryTimer : Timer
  deriving DecidableEq, Repr

/-! ### The Management Agent (Chapter 9) -/

/-- The restart record (R180). -/
structure RestartRecord where
  powerOn : Bool
  resetLine : Bool
  restartRequest : Bool
  deriving DecidableEq, Repr

/-- What the agent is doing with the request at the head of the request queue (R164, R13, R181). -/
inductive Phase where
  /-- The head, if there is one, is still to be taken. -/
  | ready
  /-- The head is the engine's waiting management operation (R84). -/
  | engineOp
  /-- The head has been applied and its answer waits for a place (R13). -/
  | answerWaiting (answer : OutFrame)
  /-- The RESTART answer has been placed; no request is served before the restart (R181). -/
  | restarting
  deriving DecidableEq, Repr

/-- The Management Agent: the bank semaphores (R167), the restart record and the phase of service. -/
structure Agent where
  sems : Vector (Option Address) 5
  record : RestartRecord
  phase : Phase
  deriving DecidableEq, Repr

/-! ### Hand-overs that are taken later as events of their own -/

/-- The hand-overs that one block has made and the other has not yet taken: health reports (R45, R19), lock-failed
removals (R32, R82), triples to the Grade Receiver (R136, R70), grade changes to the slices that target the slot
(R71, R132) and copies to the Notice Unit (R136, R142). Each list is in the order the hand-overs were made. -/
structure InFlight where
  health : List (Slot × Bool)
  removals : List Slot
  triples : List (ShelfId × Triple)
  grades : List (ShelfId × Slot)
  notices : List (ShelfId × NoticeCopy)
  deriving DecidableEq, Repr

end Sys2Proof.Machine
end

