-- ==== Sys2Proof/Machine/Resets.lean ====
section
/-! DEFINITION. The value each block holds at power-on and when the reset line is released, block by block. -/

namespace Sys2Proof.Machine

/-- A timer of `ms` milliseconds started when the oscillator count is `now` (R24, R119). -/
def startMs (now ms : Nat) : Timer := some (now + ms * Config.periodsPerMs)

/-- The own tag of shelf k under a base tag: its low 4 bits replaced by the shelf number (R88, R135). -/
def ownTag (base : OriginTag) (k : ShelfId) : OriginTag :=
  (base &&& 0xFFFFFFFFFFF0#48) ||| BitVec.ofNat 48 k.val

/-- Both output ports after power-on, the reset line and a restart: queues empty, LOCAL served last (R14, R16). -/
def resetPort : OutPort := { transitQ := [], localQ := [], servedLast := .localQ, sending := none }

/-- The Lane Interface at power-on and when the reset line is released (R16). -/
def resetLane (strap : Address) (asserted : Bool) : Lane :=
  { strap := strap, resetAsserted := asserted, fabric := resetPort, control := resetPort, localIn := [], requests := [] }

/-- A candidate at power-on (R34). -/
def resetCand : Cand :=
  { kind := .none, source := 0, holdOffMs := 300, wtrS := 300, maintHold := false, state := .idle, fresh := true,
    health := false, timer := .none }

/-- A tick input at power-on (R51, R36). -/
def resetInput : TickInput :=
  { windowLen := 8, acceptPpb := 4000, rejectPpb := 6000, watched := false, active := false, lastTick := 0, gate := none,
    window := [], lastGate := none, offset := none, beyond := false, qualified := false }

/-- The effective grade of a candidate of kind NONE (R68, R69). -/
def gradeOfNone : Grade := { rank := 15, hop := 0, origin := none }

/-- A candidate's grade state at power-on (R74, Table 4-2). -/
def resetGrade : GradeSlot :=
  { rmap := 0, floor := 0, setRank := 0, setRankOn := false, assumedHops := 0, timeoutS := 5, code := .pending,
    path := none, mapped := 15, held := false, timer := none, eff := gradeOfNone }

/-- The receive half of a port entry at power-on (R53). -/
def resetRxPort : RxPort := { inUse := false, bound := none, absorb := false }

/-- The identity map, attached (R63, R146). -/
def identityMap : GradeMap := { entries := Vector.ofFn fun i => i, attached := true }

/-- The triple a slice advertises in FREERUN after power-on: rank 12, hop 0, its own tag (R137). -/
def resetTriple (base : OriginTag) (k : ShelfId) : Triple :=
  { rank := 12, hop := 0, origin := { tag := ownTag base k, isPartial := false } }

/-- The timing settings of a slice at power-on (Table 6-2, Table 7-2). -/
def resetSliceSettings : SliceSettings :=
  { module := 0, lockS := 30, reportS := 3, settleS := 5, holdoverRank := 10, freerunRank := 12, budgetMin := 60 }

/-- A slice at power-on, its report timer started (R129). -/
def resetSlice (now : Nat) (k : ShelfId) : Slice :=
  { cfg := resetSliceSettings, timing := .freerun, target := none, seq := 0, action := .hold, unsent := false,
    lastReport := none, history := false, unreachable := false, lockTimer := none, settleTimer := none,
    reportTimer := startMs now (resetSliceSettings.reportS * 1000), holdoverSince := none, exhausted := false,
    triple := resetTriple 0 k }

/-- A list entry at power-on (R77). -/
def resetEntry : Entry := { slot := 0, priority := 0, lockout := false }

/-- A shelf at the engine at power-on (R107, Table 5-2). -/
def resetShelf : Shelf :=
  { entries := Vector.replicate 8 resetEntry,
    sel := { mode := .auto, revertive := false, minRank := 14, hopLimit := 20 },
    command := .none, failed := Vector.replicate 24 false, target := none }

/-- The engine at power-on (R107). -/
def resetEngine : Engine := { queue := [], count := 0, budget := 4 }

/-- A transmit half at power-on (R150, Table 7-3). -/
def resetTxPort : TxPort :=
  { address := 0, tmap := 0, squelch := 15, fill := 15, intervalS := 1, pathOn := false, inUse := false, bound := none,
    lastSent := none, heldCode := none, periodic := none, count := 0, changePending := false }

/-- The Notice Unit's copy of a slice at power-on (R137). -/
def resetCopy (k : ShelfId) : NoticeCopy := { triple := resetTriple 0 k, target := none, timing := .freerun }

/-- The Event Unit at power-on, its summary timer started (R162). -/
def resetEvents (now : Nat) : EventUnit :=
  { latches := Vector.replicate 195 .clear, copies := Vector.replicate 80 false, enables := 0, levels := 0,
    destination := 0, spacingMs := 1000, summaryS := 10, news := false, resume := none, spacingTimer := none,
    summaryTimer := startMs now 10000 }

/-- The agent at power-on and at a reset line release, with the restart record that R180 gives (R182). -/
def resetAgent (record : RestartRecord) : Agent :=
  { sems := Vector.replicate 5 none, record := record, phase := .ready }

/-- No hand-over waits to be taken. -/
def noFlight : InFlight := { health := [], removals := [], triples := [], grades := [], notices := [] }

end Sys2Proof.Machine
end

