-- ==== Sys2Proof/Machine/State.lean ====
section
/-! DEFINITION. The state of the MG2416, whole, with the queue of waiting commands; the reasons a step could
stop; and the state right after power-on. -/

namespace Sys2Proof.Machine

/-- Every piece of state the manual gives the part. Each field has one owning block; `osc`, `flight` and `pending`
are the model's own (log entries 2, 3 and 5). -/
structure State where
  /-- Local oscillator periods counted since power was applied (the model's own; log entry 3). -/
  osc : Nat
  /-- The Lane Interface (Chapter 1). -/
  lane : Lane
  /-- The Candidate Manager's records (Chapter 2). -/
  cands : Vector Cand 24
  /-- The Tick Monitor's inputs (Chapter 3). -/
  inputs : Vector TickInput 24
  /-- The oscillator correction K in ppb (R49). -/
  correction : Int
  /-- The Grade Receiver's candidates (Chapter 4). -/
  grades : Vector GradeSlot 24
  /-- The receive half of the port table (R53). -/
  rxPorts : Vector RxPort 256
  /-- The receive maps (R63). -/
  rmaps : Vector GradeMap 4
  /-- The Grade Receiver's copy of each shelf's triple (R70). -/
  triples : Vector Triple 16
  /-- The Selection Engine's shelves (Chapter 5). -/
  shelves : Vector Shelf 16
  /-- The evaluation queue, budget count and engine budget. -/
  engine : Engine
  /-- The Shelf Slices (Chapter 6). -/
  slices : Vector Slice 16
  /-- The node's origin base tag (R135). -/
  baseTag : OriginTag
  /-- The transmit half of the port table with each port's dynamic state (R138, R139). -/
  txPorts : Vector TxPort 256
  /-- The transmit maps (R146). -/
  tmaps : Vector GradeMap 4
  /-- The Notice Unit's copy of each slice (R139). -/
  copies : Vector NoticeCopy 16
  /-- The oscillator count at which the budget window began (R144). -/
  windowStart : Nat
  /-- The Event Unit (Chapter 8). -/
  events : EventUnit
  /-- The Management Agent (Chapter 9). -/
  agent : Agent
  /-- The hand-overs not yet taken (log entry 5). -/
  flight : InFlight
  /-- The commands that wait, first in, first out. -/
  pending : List Instr
  deriving DecidableEq, Repr

/-- The part has no fault: the manual gives every command an effect in every state, so no constructor stands here
and no step can stop with a fault. -/
inductive Fault
  deriving DecidableEq, Repr

/-- Why the model would turn a command away. -/
inductive Refusal where
  /-- Raised by an arm of exec for a command whose meaning is not modelled yet. Safe: the run stops. No arm raises
  it. -/
  | notModelled (mnemonic : String)
  deriving DecidableEq, Repr

/-- Every block at its power-on values (R16, R34, R51, R74, R107, R129, R137, R150, R162, R182), with the strap
address sampled, the reset line's level and the restart record given. -/
def State.powerOn (now : Nat) (strap : Address) (asserted : Bool) (record : RestartRecord) (pending : List Instr) :
    State :=
  { osc := now
    lane := resetLane strap asserted
    cands := Vector.replicate 24 resetCand
    inputs := Vector.replicate 24 resetInput
    correction := 0
    grades := Vector.replicate 24 resetGrade
    rxPorts := Vector.replicate 256 resetRxPort
    rmaps := Vector.replicate 4 identityMap
    triples := Vector.ofFn (resetTriple 0)
    shelves := Vector.replicate 16 resetShelf
    engine := resetEngine
    slices := Vector.ofFn (resetSlice now)
    baseTag := 0
    txPorts := Vector.replicate 256 resetTxPort
    tmaps := Vector.replicate 4 identityMap
    copies := Vector.ofFn resetCopy
    windowStart := now
    events := resetEvents now
    agent := resetAgent record
    flight := noFlight
    pending := pending }

/-- The part right after power-on. The strap pins are the board's; 0x000 stands here (DESIGN CHOICE, log entry 6). -/
def State.reset : State :=
  State.powerOn 0 0 false { powerOn := true, resetLine := false, restartRequest := false } []

end Sys2Proof.Machine
end

