-- ==== Sys2Proof/Machine/Operands.lean ====
section
/-! DEFINITION. Bytes, frames and request fields: byte order, the CRC-16, the lane header, the fields of every
body (Chapter 10), and the row that a management request at the head of the request queue spells. -/

namespace Sys2Proof.Machine

/-! ### Bytes (Chapter 10, R187) -/

/-- A number in k bytes, most significant byte first (Chapter 10); higher bits are dropped. -/
def beBytes : Nat → Nat → List Byte
  | 0, _ => []
  | k + 1, n => BitVec.ofNat 8 (n / 256 ^ k) :: beBytes k n

/-- The number that bytes spell, most significant byte first. -/
def beNat (l : List Byte) : Nat := l.foldl (fun acc b => acc * 256 + b.toNat) 0

/-- The value of the byte at an offset. -/
def byteAt (l : List Byte) (i : Nat) : Nat := (l.getD i 0).toNat

/-- The k-byte number at an offset. -/
def numAt (l : List Byte) (i k : Nat) : Nat := beNat ((l.drop i).take k)

/-- Bit k of the byte at an offset, counted from the least significant (Chapter 10). -/
def bitAt (l : List Byte) (i k : Nat) : Bool := (l.getD i 0).getLsbD k

/-- The lane address at an offset: the low 12 bits of two bytes (R183, R187). -/
def addressAt (l : List Byte) (i : Nat) : Address := BitVec.ofNat 12 (numAt l i 2)

/-- The signed two-byte number at an offset, in two's complement (R187). -/
def signedAt (l : List Byte) (i : Nat) : Int :=
  if numAt l i 2 < 32768 then (numAt l i 2 : Int) else (numAt l i 2 : Int) - 65536

/-- One byte holding a number. -/
def byteOf (n : Nat) : Byte := BitVec.ofNat 8 n

/-- A signed number in k bytes, two's complement (R187). -/
def signedBytes (k : Nat) (z : Int) : List Byte := beBytes k (z % (256 ^ k : Nat)).toNat

/-- A flags byte: the listed flags in bits 0, 1, 2, …, the other bits zero (R187). -/
def flagsByte (fs : List Bool) : Byte :=
  byteOf (fs.foldr (fun f acc => 2 * acc + f.toNat) 0)

/-- The two bytes of a shelf mask, bit s standing for shelf s (R187). -/
def maskBytes (m : BitVec 16) : List Byte := beBytes 2 m.toNat

/-! ### The lane header and the CRC-16 (Section 10.1, R183) -/

/-- One message bit into the CRC register: when the bit shifted out and the message bit differ, the register is
shifted and combined with 0x1021 (R183). -/
def crcBit (r : BitVec 16) (b : Bool) : BitVec 16 :=
  if xor r.msb b then (r <<< 1) ^^^ 0x1021#16 else r <<< 1

/-- One byte, most significant bit first (R183). -/
def crcByte (r : BitVec 16) (b : Byte) : BitVec 16 :=
  [7, 6, 5, 4, 3, 2, 1, 0].foldl (fun r i => crcBit r (b.getLsbD i)) r

/-- The CRC-16 over bytes in the order they are sent, from 0xFFFF (R183). -/
def crc16 (l : List Byte) : BitVec 16 := l.foldl crcByte 0xFFFF#16

/-- The fields of the lane header (Table 10-1). -/
def frameDest (f : Frame) : Address := addressAt f 0
def frameSource (f : Frame) : Address := addressAt f 2
def frameKind (f : Frame) : Nat := byteAt f 4
def frameBodyLen (f : Frame) : Nat := byteAt f 5
def frameBody (f : Frame) : List Byte := (f.drop 6).take (frameBodyLen f)

/-- The frame check (R2): long enough, body length 240 or less, total length and CRC-16 right. -/
def frameCheck (f : Frame) : Bool :=
  decide (8 ≤ f.length) && decide (frameBodyLen f ≤ 240) && decide (f.length = 6 + frameBodyLen f + 2) &&
    decide (f.drop (6 + frameBodyLen f) = beBytes 2 (crc16 (f.take (6 + frameBodyLen f))).toNat)

/-- A frame the part generates: zero top bits, the given kind, the length of its body, and the CRC-16 computed when
it is built (R11, R183). -/
def buildFrame (dest source : Address) (kind : Nat) (body : List Byte) : Frame :=
  let head := beBytes 2 dest.toNat ++ beBytes 2 source.toNat ++ [byteOf kind, byteOf body.length] ++ body
  head ++ beBytes 2 (crc16 head).toNat

/-! ### Frame kind codes (Table 10-2) -/

def kindReceivedNotice : Nat := 0x31
def kindTransmitNotice : Nat := 0x32
def kindDirective : Nat := 0x41
def kindLockReport : Nat := 0x42
def kindRequest : Nat := 0x51
def kindAnswer : Nat := 0x52
def kindEventNotice : Nat := 0x61

/-! ### Codes (Table 10-8, Table 10-9) -/

/-- The status of a Management Answer (Table 9-1). -/
inductive Status where
  | done
  | doneClamped
  | granted
  | partialDone
  | unknownKind
  | badLength
  | badIndex
  | badValue
  | held
  | notDetached
  | duplicate
  | inConflict
  | preempted
  | notEligible
  | parked
  deriving DecidableEq, Repr

def statusCode : Status → Nat
  | .done => 0x00
  | .doneClamped => 0x01
  | .granted => 0x02
  | .partialDone => 0x03
  | .unknownKind => 0x10
  | .badLength => 0x11
  | .badIndex => 0x12
  | .badValue => 0x13
  | .held => 0x14
  | .notDetached => 0x15
  | .duplicate => 0x16
  | .inConflict => 0x17
  | .preempted => 0x18
  | .notEligible => 0x19
  | .parked => 0x1A

def kindCode : Kind → Nat
  | .none => 0
  | .line => 1
  | .station => 2
  | .shelf => 3

def kindOfCode (n : Nat) : Kind :=
  if n = 1 then .line else if n = 2 then .station else if n = 3 then .shelf else .none

def modeCode : Mode → Nat
  | .auto => 0
  | .priority => 1

def commandCode : Command → Nat
  | .none => 0
  | .hold => 1
  | .force _ => 2
  | .manual _ => 3

/-- The entry number of FORCE or MANUAL, 0 for other commands (Table 10-14). -/
def commandEntry : Command → Nat
  | .none => 0
  | .hold => 0
  | .force e => e.val
  | .manual e => e.val

def candStateCode : CandState → Nat
  | .idle => 0
  | .down => 1
  | .restoring => 2
  | .available => 3
  | .suspect => 4

def timingCode : Timing → Nat
  | .freerun => 0
  | .holdover => 1
  | .acquiring => 2
  | .settling => 3
  | .locked => 4
  | .parked => 5

def latchCode : Latch → Nat
  | .clear => 0
  | .set => 1
  | .ackedWaiting => 2

def codeStateCode : CodeState → Nat
  | .received c => c.val
  | .pending => 0x10
  | .timedOut => 0x11

/-- The action byte of a Directive: TRACK or HOLD (Table 10-4). -/
def actionCode : Action → Nat
  | .track _ => 0x01
  | .hold => 0x02

/-- The tick input byte of a Directive: the slot with TRACK, 255 with HOLD (R111, Table 10-4). -/
def actionInput : Action → Nat
  | .track c => c.val
  | .hold => 255

/-- A slot or target field that can hold none: 0xFF for none (R187). -/
def slotByte : Option Slot → Byte
  | none => 0xFF
  | some n => byteOf n.val

/-! ### Management requests (Section 10.5, Section 10.6) -/

/-- A management request as the agent reads it (R186): the tag and kind code as received, and the request body. -/
structure Request where
  source : Address
  tag : List Byte
  kind : Nat
  body : List Byte
  deriving DecidableEq, Repr

/-- The request a frame carries; none when its body holds fewer than three bytes (R186). -/
def requestOf (f : Frame) : Option Request :=
  if (frameBody f).length < 3 then none
  else some
    { source := frameSource f, tag := (frameBody f).take 2, kind := byteAt (frameBody f) 2, body := (frameBody f).drop 3 }

/-- The row of READ_STATUS by its object code (Table 10-9). -/
def statusRow (object : Nat) : Instr :=
  if object = 1 then .readStatusShelf else if object = 2 then .readStatusPort else .readStatusCandidate

/-- The row of COMMAND by its action code (Table 10-9). -/
def commandRow (action : Nat) : Instr :=
  if action = 2 then .commandForce else if action = 3 then .commandManual else if action = 4 then .commandClear
  else if action = 5 then .commandLockout else .commandHold

/-- The row of SLICE by its action code (Table 10-9). -/
def sliceRow (action : Nat) : Instr :=
  if action = 2 then .unpark else if action = 3 then .sliceReset else .park

/-- The one row of the opcode table that serves a frame at the head of the request queue, by its kind code
(Section 10.5) and, for READ_STATUS, COMMAND, SLICE and the map requests, by the code that tells the family's
rows apart. A request whose telling code is missing or undefined is refused in the same way by every row of the
family; the family's first row serves it (DESIGN CHOICE, log entry 8). -/
def requestRow (f : Frame) : Instr :=
  match requestOf f with
  | none => .requestTooShort
  | some r =>
    match r.kind with
    | 0x01 => .identify
    | 0x02 => .readTable
    | 0x03 => statusRow (byteAt r.body 0)
    | 0x04 => .writeCandidate
    | 0x05 => .writeListEntry
    | 0x06 => .writeShelf
    | 0x07 => .writePorts
    | 0x08 => if byteAt r.body 0 = 1 then .writeTransmitMap else .writeReceiveMap
    | 0x09 => .writeNode
    | 0x0A => if byteAt r.body 0 = 1 then .detachTransmitMap else .detachReceiveMap
    | 0x0B => if byteAt r.body 0 = 1 then .attachTransmitMap else .attachReceiveMap
    | 0x0C => .take
    | 0x0D => .release
    | 0x0E => commandRow (byteAt r.body 1)
    | 0x0F => sliceRow (byteAt r.body 2)
    | 0x10 => .clearMarks
    | 0x11 => .ackEvents
    | 0x12 => .restart
    | 0x13 => .clearRestartRecord
    | _ => .unknownKind

end Sys2Proof.Machine
end

