-- ==== Sys2Proof/Machine/Lane.lean ====
section
/-! DEFINITION. The Lane Interface's queues and output arbiters (R1, R6, R11, R14), and the offering of generated
frames to the local outbound queues (R11, R12). -/

namespace Sys2Proof.Machine

/-- The claimant the arbiter serves when both or one wait: with both waiting, the one that was not served
last (R14). -/
def OutPort.choice (p : OutPort) : Option Claimant :=
  match p.transitQ.isEmpty, p.localQ.isEmpty with
  | true, true => none
  | false, true => some .transit
  | true, false => some .localQ
  | false, false =>
    match p.servedLast with
    | .localQ => some .transit
    | .transit => some .localQ

/-- The arbiter serves a claimant when its port is free and one waits: the head frame begins transmission and leaves
its queue, and the claimant is recorded (R14). While the reset line is asserted (`live` false) nothing is
sent (R16). -/
def OutPort.serve (live : Bool) (p : OutPort) : OutPort :=
  if live && p.sending.isNone then
    match p.choice with
    | none => p
    | some .transit =>
      { p with
        transitQ := p.transitQ.tail
        sending := p.transitQ.head?.map fun f => { bytes := f, isRestartAnswer := false }
        servedLast := .transit }
    | some .localQ =>
      { p with localQ := p.localQ.tail, sending := p.localQ.head?, servedLast := .localQ }
  else p

/-- A frame joins the transit queue, unless it holds 64 frames (R6); the arbiter chooses if the port is
free (R14). -/
def OutPort.joinTransit (live : Bool) (f : Frame) (p : OutPort) : Option OutPort :=
  if p.transitQ.length < Config.transitCapacity then
    some (OutPort.serve live { p with transitQ := p.transitQ ++ [f] })
  else none

/-- A generated frame is offered to the local outbound queue, which takes it if it has a free place (R11, R12). -/
def OutPort.offer (live : Bool) (cap : Nat) (f : OutFrame) (p : OutPort) : Option OutPort :=
  if p.localQ.length < cap then some (OutPort.serve live { p with localQ := p.localQ ++ [f] }) else none

/-- A transmission ends; the arbiter chooses (R14). -/
def OutPort.endTransmission (live : Bool) (p : OutPort) : OutPort := OutPort.serve live { p with sending := none }

/-- Whether the Lane Interface takes and sends frames (R16). -/
def Lane.live (l : Lane) : Bool := !l.resetAsserted

/-- A frame is offered to the FABRIC local outbound queue; the answer says whether the queue took it (R11). -/
def offerFabric (f : Frame) (s : State) : State × Bool :=
  match s.lane.fabric.offer s.lane.live Config.fabricOutCapacity { bytes := f, isRestartAnswer := false } with
  | some p => ({ s with lane := { s.lane with fabric := p } }, true)
  | none => (s, false)

/-- A frame is offered to the CONTROL local outbound queue; the answer says whether the queue took it (R11). -/
def offerControl (f : OutFrame) (s : State) : State × Bool :=
  match s.lane.control.offer s.lane.live Config.controlOutCapacity f with
  | some p => ({ s with lane := { s.lane with control := p } }, true)
  | none => (s, false)

end Sys2Proof.Machine
end

