-- ==== Sys2Proof/Machine/Events.lean ====
section
/-! DEFINITION. The Event Unit: latches, condition copies, acknowledgement and Event Notices (Chapter 8). -/

namespace Sys2Proof.Machine

/-! ### Latches by kind and index (Table 8-1) -/

/-- The latch of a candidate kind: 0 CAND_STATE, 1 CAND_RANK, 2 NOTICE_LOST, 3 FREQ_FAIL. -/
def candLatch (k : Fin 4) (n : Slot) : LatchId := ⟨24 * k.val + n.val, by omega⟩

/-- The latch of a shelf kind: 0 TARGET, 1 TIMING_STATE, 2 LOCK_FAILED, 3 COMMAND_DROPPED, 4 MODULE_SILENT,
5 GROUP. -/
def shelfLatch (k : Fin 6) (h : ShelfId) : LatchId := ⟨96 + 16 * k.val + h.val, by omega⟩

/-- The latch of a device kind: 0 TRANSIT_OVERFLOW, 1 LOCAL_OVERFLOW, 2 REQUEST_OVERFLOW. -/
def deviceLatch (k : Fin 3) : LatchId := ⟨192 + k.val, by omega⟩

/-- The kind of a latch. -/
def latchKind (l : LatchId) : EventKind :=
  if h : l.val < 96 then ⟨l.val / 24, by omega⟩
  else if h2 : l.val < 192 then ⟨4 + (l.val - 96) / 16, by omega⟩
  else ⟨10 + (l.val - 192), by omega⟩

/-- The index of a latch within its kind. -/
def latchIndex (l : LatchId) : Nat :=
  if l.val < 96 then l.val % 24 else if l.val < 192 then (l.val - 96) % 16 else 0

/-- The latch that a (kind code, index) pair names; none outside Table 8-1 (R179). -/
def latchOf (code index : Nat) : Option LatchId :=
  if h : 1 ≤ code ∧ code ≤ 4 ∧ index < 24 then some ⟨24 * (code - 1) + index, by omega⟩
  else if h : 5 ≤ code ∧ code ≤ 10 ∧ index < 16 then some ⟨96 + 16 * (code - 5) + index, by omega⟩
  else if h : 11 ≤ code ∧ code ≤ 13 ∧ index = 0 then some ⟨192 + (code - 11), by omega⟩
  else none

/-- The conditions: NOTICE_LOST and FREQ_FAIL of a candidate, MODULE_SILENT and GROUP of a shelf (R153). -/
def condNoticeLost (n : Slot) : CondId := ⟨n.val, by omega⟩
def condFreqFail (n : Slot) : CondId := ⟨24 + n.val, by omega⟩
def condModuleSilent (h : ShelfId) : CondId := ⟨48 + h.val, by omega⟩
def condGroup (h : ShelfId) : CondId := ⟨64 + h.val, by omega⟩

/-- The latch of a condition. -/
def condLatch (c : CondId) : LatchId :=
  if h : c.val < 48 then ⟨c.val + 48, by omega⟩ else ⟨c.val + 112, by omega⟩

/-- The condition of a latch; none for a latch of an edge kind. -/
def latchCond (l : LatchId) : Option CondId :=
  if h : 48 ≤ l.val ∧ l.val < 96 then some ⟨l.val - 48, by omega⟩
  else if h : 160 ≤ l.val ∧ l.val < 192 then some ⟨l.val - 112, by omega⟩
  else none

/-- Whether a kind is a condition kind (Table 8-1): NOTICE_LOST, FREQ_FAIL, MODULE_SILENT, GROUP. -/
def conditionKinds : BitVec 13 := 0b0001100001100#13

/-! ### One latch (R155 to R158) -/

def EventUnit.enabled (e : EventUnit) (l : LatchId) : Bool := e.enables.getLsbD (latchKind l).val

/-- Whether a latch is a level latch (R157). -/
def EventUnit.isLevel (e : EventUnit) (l : LatchId) : Bool :=
  (latchCond l).isSome && e.levels.getLsbD (latchKind l).val

/-- Whether the condition of a latch is present by the copy (R153); false for a latch of an edge kind. -/
def EventUnit.present (e : EventUnit) (l : LatchId) : Bool :=
  match latchCond l with
  | some c => e.copies[c]
  | none => false

/-- A CLEAR latch of an enabled kind becomes SET, which sets the news flag (R156, R157, R159). -/
def EventUnit.occur (l : LatchId) (e : EventUnit) : EventUnit :=
  if e.enabled l && decide (e.latches[l] = .clear) then { e with latches := e.latches.set l .set, news := true } else e

/-- A condition occurrence: the copy is replaced (R153); a condition that becomes present sets a CLEAR latch; one that
goes absent clears a level latch in ACKED_WAITING (R156, R157). -/
def EventUnit.condition (c : CondId) (present : Bool) (e : EventUnit) : EventUnit :=
  let e1 := { e with copies := e.copies.set c present }
  if present then e1.occur (condLatch c)
  else if e1.enabled (condLatch c) && e1.isLevel (condLatch c) && decide (e1.latches[condLatch c] = .ackedWaiting) then
    { e1 with latches := e1.latches.set (condLatch c) .clear }
  else e1

/-- An acknowledgement of one latch (R156, R157, R158). -/
def EventUnit.ack (l : LatchId) (e : EventUnit) : EventUnit :=
  if e.latches[l] = .set then
    { e with latches := e.latches.set l (if e.isLevel l && e.present l then .ackedWaiting else .clear) }
  else e

/-! ### Event Notices (R159) -/

/-- The standing latches, SET or ACKED_WAITING, in (kind, index) order (R159). -/
def EventUnit.standing (e : EventUnit) : List LatchId :=
  (List.finRange 195).filter fun l => decide (e.latches[l] ≠ .clear)

/-- The three bytes of one entry of an Event Notice (Table 10-6). -/
def noticeEntry (e : EventUnit) (l : LatchId) : List Byte :=
  [byteOf ((latchKind l).val + 1), byteOf (latchIndex l), byteOf (latchCode e.latches[l])]

/-- The body of an Event Notice that lists the given latches (Table 10-6). -/
def noticeBody (e : EventUnit) (more : Bool) (shown : List LatchId) : List Byte :=
  [flagsByte [more], byteOf shown.length] ++ shown.flatMap (noticeEntry e)

/-- The notice that lists the first 79 of the given latches is built and offered to the CONTROL local outbound queue,
and the spacing timer starts. Taken: the resume point becomes the last entry with MORE, else none, and a
fresh notice clears the news flag. Refused: both are left as they are (R159). -/
def sendNotice (fresh : Bool) (latches : List LatchId) (s : State) : State :=
  let shown := latches.take Config.noticeEntries
  let more := decide (Config.noticeEntries < latches.length)
  let r := offerControl
    { bytes := buildFrame s.events.destination s.lane.strap kindEventNotice (noticeBody s.events more shown),
      isRestartAnswer := false } s
  { r.1 with
    events :=
      { s.events with
        spacingTimer := startMs s.osc s.events.spacingMs
        resume := if r.2 then (if more then shown.getLast? else none) else s.events.resume
        news := if r.2 && fresh then false else s.events.news } }

/-- A fresh notice; if no latch is standing, the news flag is cleared and nothing is sent (R159). -/
def freshNotice (s : State) : State :=
  match s.events.standing with
  | [] => { s with events := { s.events with news := false } }
  | l :: ls => sendNotice true (l :: ls) s

/-- The sending decision of R159. -/
def sendDecision (s : State) : State :=
  if decide (s.events.destination = 0) || s.events.spacingTimer.isSome then s
  else
    match s.events.resume with
    | none => if s.events.news then freshNotice s else s
    | some r =>
      match s.events.standing.filter fun l => decide (r < l) with
      | l :: ls => sendNotice false (l :: ls) s
      | [] =>
        let s1 := { s with events := { s.events with resume := none } }
        if s.events.news then freshNotice s1 else s1

/-- One event at the Event Unit: `f` acts on the latches and copies, and if any latch became SET in it (the news flag
was set), the sending decision is taken at its end (R159). -/
def eventStep (f : EventUnit → EventUnit) (s : State) : State :=
  let e := f { s.events with news := false }
  let s1 := { s with events := { e with news := e.news || s.events.news } }
  if e.news then sendDecision s1 else s1

/-- An edge occurrence, taken as one event (R152, R156). -/
def raiseEdge (l : LatchId) (s : State) : State := eventStep (EventUnit.occur l) s

/-- A condition occurrence, taken as one event (R152, R153): handed over when the presence changes. -/
def raiseCondition (c : CondId) (before after : Bool) (s : State) : State :=
  if before = after then s else eventStep (EventUnit.condition c after) s

end Sys2Proof.Machine
end

