-- ==== Sys2Proof/Machine/Flags.lean ====
section
/-! DEFINITION. What the blocks judge from the state they hold: health, FREQ_FAIL, NOTICE_LOST, GROUP, the
effective grade of a candidate, the advertised triple of a slice, and which shelves list a candidate. -/

namespace Sys2Proof.Machine

/-- The health of an input: ACTIVE and qualified (R45). -/
def TickInput.health (i : TickInput) : Bool := i.active && i.qualified

/-- The FREQ_FAIL condition: watched, ACTIVE, an offset held, and not qualified (R46). -/
def TickInput.freqFail (i : TickInput) : Bool := i.watched && i.active && i.offset.isSome && !i.qualified

/-- The NOTICE_LOST condition: the code state is TIMED_OUT (R62). -/
def GradeSlot.noticeLost (g : GradeSlot) : Bool := decide (g.code = .timedOut)

/-- The list holds the slot in an entry with nonzero priority, locked out or not (R31, R71, R80). -/
def Shelf.lists (h : Shelf) (n : Slot) : Bool :=
  (List.finRange 8).any fun e => decide (h.entries[e].priority ≠ 0) && decide (h.entries[e].slot = n)

/-- The list holds the slot in any entry (R154). -/
def Shelf.holds (h : Shelf) (n : Slot) : Bool := (List.finRange 8).any fun e => decide (h.entries[e].slot = n)

/-- The GROUP condition of shelf k: some entry with nonzero priority, not locked out, has a candidate that is not
AVAILABLE (R154). -/
def groupPresent (s : State) (k : ShelfId) : Bool :=
  (List.finRange 8).any fun e =>
    decide (s.shelves[k].entries[e].priority ≠ 0) && !s.shelves[k].entries[e].lockout &&
      decide (s.cands[s.shelves[k].entries[e].slot].state ≠ .available)

/-- The list of shelf k holds, in an entry with nonzero priority, a candidate of kind SHELF (R92). -/
def listsShelfKind (s : State) (k : ShelfId) : Bool :=
  (List.finRange 8).any fun e =>
    decide (s.shelves[k].entries[e].priority ≠ 0) && decide (s.cands[s.shelves[k].entries[e].slot].kind = .shelf)

/-- The base rank of a candidate by its kind (Table 4-3, R68). -/
def baseRank (s : State) (n : Slot) : Rank :=
  match s.cands[n].kind with
  | .line => if s.grades[n].setRankOn then s.grades[n].setRank else s.grades[n].mapped
  | .station => s.grades[n].setRank
  | .shelf => s.triples[s.cands[n].source].rank
  | .none => 15

/-- The effective hop of a candidate by its kind (Table 4-4, R69). -/
def effectiveHop (s : State) (n : Slot) : Hop :=
  match s.cands[n].kind with
  | .line =>
    match s.grades[n].code, s.grades[n].path with
    | .received _, some p => p.hop
    | _, _ => s.grades[n].assumedHops
  | .station => s.grades[n].assumedHops
  | .shelf => s.triples[s.cands[n].source].hop
  | .none => 0

/-- The effective origin of a candidate by its kind (Table 4-4, R69). -/
def effectiveOrigin (s : State) (n : Slot) : Option Origin :=
  match s.cands[n].kind with
  | .line =>
    match s.grades[n].code, s.grades[n].path with
    | .received _, some p => some p.origin
    | _, _ => none
  | .station => none
  | .shelf => some s.triples[s.cands[n].source].origin
  | .none => none

/-- The effective grade: the larger of base rank and rank floor, with the effective hop and origin (R68, R69). A
candidate of kind NONE has rank 15, hop 0 and no origin whatever its floor. -/
def effectiveGrade (s : State) (n : Slot) : Grade :=
  { rank := max (baseRank s n) s.grades[n].floor, hop := effectiveHop s n, origin := effectiveOrigin s n }

/-- The triple of a slice that names its own tag without PARTIAL, at hop 0 (Table 7-1). -/
def ownTriple (s : State) (k : ShelfId) (rank : Rank) : Triple :=
  { rank := rank, hop := 0, origin := { tag := ownTag s.baseTag k, isPartial := false } }

/-- The triple of a LOCKED slice from its target's effective grade, as the Grade Receiver holds it (Table 7-1,
R132). -/
def lockedTriple (s : State) (k : ShelfId) (c : Slot) : Triple :=
  { rank := s.grades[c].eff.rank
    hop := Hop.succ s.grades[c].eff.hop
    origin := s.grades[c].eff.origin.getD { tag := ownTag s.baseTag k, isPartial := true } }

/-- The advertised triple of shelf k, by the first row of Table 7-1 that applies (R131, R134). A LOCKED slice always
has a target (Table 6-3); the row for none is never reached. -/
def sliceTriple (s : State) (k : ShelfId) : Triple :=
  let v := s.slices[k]
  if v.timing = .parked then ownTriple s k 15
  else if v.unreachable then ownTriple s k 15
  else
    match v.timing, v.target with
    | .locked, some c => lockedTriple s k c
    | .locked, none => ownTriple s k v.cfg.freerunRank
    | .acquiring, _ => ownTriple s k (if v.history then v.cfg.holdoverRank else v.cfg.freerunRank)
    | .settling, _ => ownTriple s k (if v.history then v.cfg.holdoverRank else v.cfg.freerunRank)
    | .holdover, _ => ownTriple s k (if v.exhausted then v.cfg.freerunRank else v.cfg.holdoverRank)
    | .freerun, _ => ownTriple s k v.cfg.freerunRank
    | .parked, _ => ownTriple s k 15

/-- A timer of which the earliest expiry has come (Section 1.6). -/
def reached (osc : Nat) (t : Timer) : Bool :=
  match t with
  | some due => decide (due ≤ osc)
  | none => false

/-- A number of oscillator periods in units of 10 ms. Where it is no whole number of units, the free value
Config.roundsUp says which of the two neighbouring units is read (log entry 4). -/
def units10ms (periods : Nat) : Nat :=
  periods / Config.granule +
    (if periods % Config.granule = 0 then 0 else if Config.roundsUp (periods % Config.granule) then 1 else 0)

/-- The time left to a timer's earliest expiry, in units of 10 ms; 0 when it is stopped (R33, R73, R128, R149). -/
def timeLeft (osc : Nat) (t : Timer) : Nat :=
  match t with
  | some due => units10ms (due - osc)
  | none => 0

end Sys2Proof.Machine
end

