-- ==== Sys2Proof/Machine/Ops.lean ====
section
/-! DEFINITION. The operations that more than one command uses: updates of one record, time, evaluation requests,
candidate state changes, effective grade changes, directives, and the closing of a slice event. -/

namespace Sys2Proof.Machine

/-! ### Updates of one record -/

def State.setCand (s : State) (n : Slot) (c : Cand) : State := { s with cands := s.cands.set n c }
def State.setInput (s : State) (n : Slot) (i : TickInput) : State := { s with inputs := s.inputs.set n i }
def State.setGrade (s : State) (n : Slot) (g : GradeSlot) : State := { s with grades := s.grades.set n g }
def State.setShelf (s : State) (k : ShelfId) (h : Shelf) : State := { s with shelves := s.shelves.set k h }
def State.setSlice (s : State) (k : ShelfId) (v : Slice) : State := { s with slices := s.slices.set k v }
def State.setTx (s : State) (p : PortId) (t : TxPort) : State := { s with txPorts := s.txPorts.set p t }
def State.setEngine (s : State) (e : Engine) : State := { s with engine := e }
def State.setAgent (s : State) (a : Agent) : State := { s with agent := a }
def State.setFlight (s : State) (f : InFlight) : State := { s with flight := f }
def State.setLane (s : State) (l : Lane) : State := { s with lane := l }

/-- `f` for every slot in increasing order. -/
def overSlots (f : Slot → State → State) (s : State) : State := (List.finRange 24).foldl (fun t n => f n t) s

/-- `f` for every shelf in increasing order. -/
def overShelves (f : ShelfId → State → State) (s : State) : State := (List.finRange 16).foldl (fun t k => f k t) s

/-- `f` for every port in increasing table index. -/
def overPorts (f : PortId → State → State) (s : State) : State := (List.finRange 256).foldl (fun t p => f p t) s

/-- The part's clock stands at oscillator count `t` or later: an expiry is taken no earlier than its timer allows
(Section 1.6, log entry 3). -/
def State.advanceTo (s : State) (t : Nat) : State := { s with osc := max s.osc t }

/-! ### Hand-overs in flight -/

/-- The oldest hand-over that `p` accepts, and the others in their order. -/
def takeFirst {α : Type} (p : α → Bool) : List α → Option (α × List α)
  | [] => none
  | x :: xs => if p x then some (x, xs) else (takeFirst p xs).map fun r => (r.1, x :: r.2)

/-! ### Evaluation requests (R81) -/

/-- The queue after an evaluation request for shelf k: it joins at the tail, or merges with the entry already there,
whose note a new note replaces (R81). -/
def joinQueue (k : ShelfId) (mark : Option Slot) (q : List EvalEntry) : List EvalEntry :=
  if q.any fun e => decide (e.shelf = k) then
    q.map fun e => if e.shelf = k then { e with mark := mark.or e.mark } else e
  else q ++ [{ shelf := k, mark := mark }]

/-- An evaluation request for shelf k, with its mark note if it carries one (R81). -/
def requestEvaluation (k : ShelfId) (mark : Option Slot) (s : State) : State :=
  s.setEngine { s.engine with queue := joinQueue k mark s.engine.queue }

/-- Evaluation requests without a note for the shelves that `p` picks, in increasing shelf number. -/
def requestWhere (p : ShelfId → Bool) (s : State) : State :=
  overShelves (fun k t => if p k then requestEvaluation k none t else t) s

/-- Evaluation requests for every shelf whose list holds the slot with nonzero priority (R31, R71). -/
def requestListing (n : Slot) (s : State) : State := requestWhere (fun k => s.shelves[k].lists n) s

/-- Evaluation requests for every shelf other than k whose list holds a candidate of kind SHELF (R92). -/
def requestCascade (k : ShelfId) (s : State) : State :=
  requestWhere (fun j => decide (j ≠ k) && listsShelfKind s j) s

/-! ### Candidate state changes (R29 to R32) -/

/-- The Event Unit works GROUP out for shelf k and treats a change of presence as an occurrence (R154). -/
def EventUnit.regroup (s : State) (k : ShelfId) (e : EventUnit) : EventUnit :=
  if e.copies[condGroup k] = groupPresent s k then e else e.condition (condGroup k) (groupPresent s k)

/-- A CAND_STATE occurrence: latched first, then GROUP for every shelf whose list holds the slot (R30, R154). -/
def raiseCandState (n : Slot) (s : State) : State :=
  eventStep (fun e =>
    (List.finRange 16).foldl (fun e k => if s.shelves[k].holds n then e.regroup s k else e)
      (e.occur (candLatch 0 n))) s

/-- The engine hands the Event Unit the changed list of shelf k (R78, R98, R154). -/
def raiseListChange (k : ShelfId) (s : State) : State := eventStep (EventUnit.regroup s k) s

/-- A candidate's new record is stored. A change of state, or a rebinding, hands on CAND_STATE (R30), evaluation
requests (R31) and, when the candidate was AVAILABLE, the lock-failed removal (R32). -/
def commitCand (n : Slot) (new : Cand) (rebound : Bool) (s : State) : State :=
  let old := s.cands[n]
  let s1 := s.setCand n new
  if decide (old.state ≠ new.state) || rebound then
    let s2 := requestListing n (raiseCandState n s1)
    if old.state = .available then s2.setFlight { s2.flight with removals := s2.flight.removals ++ [n] } else s2
  else s1

/-! ### Effective grade changes (R71) -/

/-- The slot is handed to the slices whose current target it is (R71, R132, log entry 5). -/
def handGrade (n : Slot) (s : State) : State :=
  overShelves (fun k t =>
    if s.slices[k].target = some n then t.setFlight { t.flight with grades := t.flight.grades ++ [(k, n)] } else t) s

/-- The effective grade of a slot is recomputed; a change is stored and handed to the Event Unit, the engine and the
slices (R71). -/
def regrade (n : Slot) (s : State) : State :=
  let old := s.grades[n].eff
  let new := effectiveGrade s n
  if new = old then s
  else
    let s1 := s.setGrade n { s.grades[n] with eff := new }
    let s2 := if new.rank = old.rank then s1 else raiseEdge (candLatch 1 n) s1
    handGrade n (requestListing n s2)

/-- A candidate's grade record is stored, its effective grade recomputed (R71) and NOTICE_LOST re-judged (R62). -/
def commitGrade (n : Slot) (new : GradeSlot) (s : State) : State :=
  let old := s.grades[n]
  raiseCondition (condNoticeLost n) old.noticeLost new.noticeLost
    (regrade n (s.setGrade n { new with eff := old.eff }))

/-! ### Directives (R111, R114) -/

/-- The Directive frame of slice k's record, to the module address in force (R111, R185). -/
def directiveFrame (s : State) (k : ShelfId) : Frame :=
  let v := s.slices[k]
  buildFrame v.cfg.module s.lane.strap kindDirective
    [byteOf k.val, v.seq, byteOf (actionCode v.action), byteOf (actionInput v.action)]

/-- The record is sent as it stands: the unsent flag is cleared if the queue takes the frame, set if not (R111). -/
def sendDirective (k : ShelfId) (s : State) : State :=
  let r := offerFabric (directiveFrame s k) s
  r.1.setSlice k { s.slices[k] with unsent := !r.2 }

/-- A new Directive takes the next sequence and is sent (R111). -/
def newDirective (k : ShelfId) (a : Action) (s : State) : State :=
  sendDirective k (s.setSlice k { s.slices[k] with seq := s.slices[k].seq + 1, action := a })

/-! ### The closing of a slice event (R110, R136) -/

/-- The triple is recomputed. A change goes to the Grade Receiver; a change of it, or of the timing state or the current
target (`tell`), goes to the Notice Unit with the target and timing state (R136). -/
def retriple (k : ShelfId) (tell : Bool) (s : State) : State :=
  let v := s.slices[k]
  let t := sliceTriple s k
  let changed := decide (t ≠ v.triple)
  let s1 := s.setSlice k { v with triple := t }
  s1.setFlight
    { s1.flight with
      triples := if changed then s1.flight.triples ++ [(k, t)] else s1.flight.triples
      notices :=
        if changed || tell then s1.flight.notices ++ [(k, { triple := t, target := v.target, timing := v.timing })]
        else s1.flight.notices }

/-- The end of an event at slice k, whose record was `old` before it: TIMING_STATE on a change of timing state,
MODULE_SILENT on a change of the unreachable flag, and the triple recomputed on a change of either, of the
history flag or of the current target (R110, R122). -/
def closeSlice (k : ShelfId) (old : Slice) (s : State) : State :=
  let v := s.slices[k]
  let moved := decide (v.timing ≠ old.timing) || decide (v.target ≠ old.target)
  let s1 := if v.timing = old.timing then s else raiseEdge (shelfLatch 1 k) s
  let s2 := raiseCondition (condModuleSilent k) old.unreachable v.unreachable s1
  if moved || decide (v.unreachable ≠ old.unreachable) || decide (v.history ≠ old.history) then retriple k moved s2 else s2

/-! ### A target change at the slice (R112, R113) -/

/-- Slice k takes a target change naming slot c (R112). -/
def targetToSlot (k : ShelfId) (c : Slot) (s : State) : State :=
  let old := s.slices[k]
  if old.timing = .parked then s
  else
    let s1 := newDirective k (.track c) (s.setSlice k { old with target := some c })
    closeSlice k old
      (s1.setSlice k
        { s1.slices[k] with
          timing := .acquiring
          settleTimer := none
          holdoverSince := none
          exhausted := false
          lockTimer := startMs s.osc (old.cfg.lockS * 1000) })

/-- The slice enters HOLDOVER: its clock starts from zero, and a budget of 0 is exhausted at once (R123, R134). -/
def Slice.enterHoldover (now : Nat) (v : Slice) : Slice :=
  { v with timing := .holdover, holdoverSince := some now, exhausted := decide (v.cfg.budgetMin = 0) }

/-- The slice enters FREERUN: the holdover clock is stopped and its time discarded (R123). -/
def Slice.enterFreerun (v : Slice) : Slice :=
  { v with timing := .freerun, holdoverSince := none, exhausted := false }

/-- Slice k takes a target change naming NONE (R113). -/
def targetToNone (k : ShelfId) (s : State) : State :=
  let old := s.slices[k]
  if old.timing = .parked then s
  else
    let s1 := newDirective k .hold (s.setSlice k { old with target := none })
    let v := { s1.slices[k] with lockTimer := none, settleTimer := none }
    let ready := (old.lastReport.map Report.holdoverReady).getD false
    closeSlice k old (s1.setSlice k (if ready then v.enterHoldover s.osc else v.enterFreerun))

/-- Slice k takes a target change (R92, R112, R113). -/
def takeTarget (k : ShelfId) (t : Option Slot) (s : State) : State :=
  match t with
  | some c => targetToSlot k c s
  | none => targetToNone k s

/-- The engine stores the target record of shelf k and hands on a target change: to the slice, to the Event Unit and to
the other shelves that list a candidate of kind SHELF (R92). -/
def changeTarget (k : ShelfId) (t : Option Target) (s : State) : State :=
  let s1 := s.setShelf k { s.shelves[k] with target := t }
  requestCascade k (raiseEdge (shelfLatch 0 k) (takeTarget k (t.map Target.slot) s1))

end Sys2Proof.Machine
end

