-- ==== Sys2Proof/Machine/Candidates.lean ====
section
/-! DEFINITION. The Candidate Manager (Chapter 2): the candidate state machine, and the commands HEALTH_REPORT,
LOCK_FAILED_REMOVAL, HOLD_OFF_EXPIRY and WTR_EXPIRY. -/

namespace Sys2Proof.Machine

/-- The candidate enters AVAILABLE: no timer, and the fresh flag is cleared (R21, R22, R23, R26). -/
def Cand.enterAvailable (c : Cand) : Cand := { c with state := .available, fresh := false, timer := .none }

/-- The candidate enters DOWN; its timer is cancelled (R22, R23). -/
def Cand.enterDown (c : Cand) : Cand := { c with state := .down, timer := .none }

/-- The WTR timer as it starts: paused, holding its whole duration, when the maintenance hold is set (R21, R25). -/
def Cand.startWtr (now : Nat) (c : Cand) : CandTimer :=
  if c.maintHold then .wtrPaused (c.wtrS * Config.periodsPerS) else .wtr (now + c.wtrS * Config.periodsPerS)

/-- A candidate in DOWN with health true goes on (R21). -/
def Cand.recover (now : Nat) (c : Cand) : Cand :=
  if c.fresh then c.enterAvailable
  else if 0 < c.wtrS || c.maintHold then { c with state := .restoring, timer := c.startWtr now }
  else c.enterAvailable

/-- A candidate in AVAILABLE loses health (R23). -/
def Cand.fail (now : Nat) (c : Cand) : Cand :=
  if 0 < c.holdOffMs then
    { c with state := .suspect, timer := .holdOff (now + c.holdOffMs * Config.periodsPerMs) }
  else c.enterDown

/-- A health report taken by a candidate: the health is stored and the transition applied (R19 to R23). In IDLE the
report is consumed without effect (R19). -/
def Cand.takeHealth (now : Nat) (h : Bool) (c : Cand) : Cand :=
  let c1 := { c with health := h }
  match c.state, h with
  | .idle, _ => c
  | .down, true => c1.recover now
  | .down, false => c1
  | .restoring, true => c1
  | .restoring, false => c1.enterDown
  | .available, true => c1
  | .available, false => c1.fail now
  | .suspect, true => c1.enterAvailable
  | .suspect, false => c1

/-- The Candidate Manager takes the oldest health report of slot n. -/
def takeHealthReport (n : Slot) (s : State) : State :=
  match takeFirst (fun r => decide (r.1 = n)) s.flight.health with
  | none => s
  | some (r, rest) =>
    commitCand n (s.cands[n].takeHealth s.osc r.2) false (s.setFlight { s.flight with health := rest })

/-- HEALTH_REPORT (R19). With no report of the slot in flight there is nothing to take. -/
def execHealthReport (n : Slot) (s : State) : Host.Outcome State Fault Refusal := .next (takeHealthReport n s)

/-- The engine takes a removal of slot n: the slot leaves every lock-failed set (R82). -/
def takeRemoval (n : Slot) (s : State) : State :=
  match takeFirst (fun m => decide (m = n)) s.flight.removals with
  | none => s
  | some (_, rest) =>
    overShelves (fun k t => t.setShelf k { t.shelves[k] with failed := t.shelves[k].failed.set n false })
      (s.setFlight { s.flight with removals := rest })

/-- LOCK_FAILED_REMOVAL (R82). -/
def execLockFailedRemoval (n : Slot) (s : State) : Host.Outcome State Fault Refusal := .next (takeRemoval n s)

/-- The hold-off timer of a SUSPECT candidate expires and it enters DOWN (R23). -/
def expireHoldOff (n : Slot) (s : State) : State :=
  match s.cands[n].state, s.cands[n].timer with
  | .suspect, .holdOff due => commitCand n s.cands[n].enterDown false (s.advanceTo due)
  | _, _ => s

/-- HOLD_OFF_EXPIRY (R23). Without a running hold-off timer there is no expiry. -/
def execHoldOffExpiry (n : Slot) (s : State) : Host.Outcome State Fault Refusal := .next (expireHoldOff n s)

/-- The WTR timer of a RESTORING candidate expires and it enters AVAILABLE (R22). A paused timer does not
expire (R25). -/
def expireWtr (n : Slot) (s : State) : State :=
  match s.cands[n].state, s.cands[n].timer with
  | .restoring, .wtr due => commitCand n s.cands[n].enterAvailable false (s.advanceTo due)
  | _, _ => s

/-- WTR_EXPIRY (R22). -/
def execWtrExpiry (n : Slot) (s : State) : Host.Outcome State Fault Refusal := .next (expireWtr n s)

/-! ### A write of the binding fields (R18, R20, R24, R25, R27, R28) -/

/-- The binding fields of a WRITE_CANDIDATE, after the clamps of R18. -/
structure BindingWrite where
  kind : Kind
  source : ShelfId
  holdOffMs : Nat
  wtrS : Nat
  maintHold : Bool
  deriving DecidableEq, Repr

/-- The record with the fields stored; the source shelf is stored as 0 for any kind but SHELF (R18). -/
def Cand.store (w : BindingWrite) (c : Cand) : Cand :=
  { c with
    kind := w.kind
    source := if w.kind = .shelf then w.source else 0
    holdOffMs := w.holdOffMs
    wtrS := w.wtrS
    maintHold := w.maintHold }

/-- Whether a write is a rebinding: another bound kind, or another source shelf of a SHELF candidate (R27). -/
def Cand.rebinds (w : BindingWrite) (c : Cand) : Bool :=
  decide (c.kind ≠ .none) && decide (w.kind ≠ .none) &&
    (decide (w.kind ≠ c.kind) || (decide (w.kind = .shelf) && decide (w.source ≠ c.source)))

/-- The maintenance hold set or cleared on a candidate in RESTORING (R25). -/
def Cand.applyHold (now : Nat) (was : Bool) (c : Cand) : Cand :=
  match c.state, was, c.maintHold, c.timer with
  | .restoring, false, true, .wtr due => { c with timer := .wtrPaused (due - now) }
  | .restoring, true, false, .wtrPaused left =>
    if left = 0 then c.enterAvailable else { c with timer := .wtr (now + left) }
  | _, _, _, _ => c

/-- The candidate after a write of its binding fields. -/
def Cand.write (now : Nat) (w : BindingWrite) (c : Cand) : Cand :=
  let c1 := c.store w
  if c.kind = .none then
    if w.kind = .none then c1 else { c1 with state := .down, fresh := true, health := false, timer := .none }
  else if w.kind = .none then { c1 with state := .idle, health := false, timer := .none }
  else if c.rebinds w then
    let c2 := { c1 with state := .down, fresh := false, timer := .none }
    if c.health then c2.recover now else c2
  else c1.applyHold now c.maintHold

end Sys2Proof.Machine
end

