-- ==== Sys2Proof/Machine/Monitor.lean ====
section
/-! DEFINITION. The Tick Monitor (Chapter 3): ticks, tick loss, gates, the window, the offset and qualification,
and the commands TICK and TICK_LOSS. -/

namespace Sys2Proof.Machine

/-! ### The offset (R41 to R43) -/

/-- An integer divided by a positive number, rounded to the nearest integer, halves away from zero (R41). -/
def roundDiv (a : Int) (b : Nat) : Int := a.sign * ((2 * a.natAbs + b) / (2 * b) : Nat)

/-- A gate count in range (R41). -/
def inRange (count : Nat) : Bool := decide (Config.gateLow ≤ count) && decide (count ≤ Config.gateHigh)

/-- A value held within −50,000 to +50,000 ppb (R42). -/
def clampOffset (x : Int) : Int := max (-Config.offsetMax) (min Config.offsetMax x)

/-- The raw offset of a window of w counts in range: D × 8 / w, with D = w × 125,000,000 − S (R41). -/
def rawOffset (w : Nat) (counts : List Nat) : Int :=
  roundDiv (((w * Config.nominalGate : Nat) - (counts.sum : Nat) : Int) * 8) w

/-- The most recent count out of range; the newest count stands last (R43). -/
def lastOutOfRange (counts : List Nat) : Option Nat := counts.reverse.find? fun c => !inRange c

/-- The offset and the beyond flag of a full window under the correction K (R41, R42, R43). -/
def windowOffset (k : Int) (w : Nat) (counts : List Nat) : Int × Bool :=
  match lastOutOfRange counts with
  | none => (clampOffset (rawOffset w counts - k), false)
  | some c => (if c < Config.gateLow then Config.offsetMax else -Config.offsetMax, true)

/-- Qualification after an offset is judged, with hysteresis (R44). -/
def judge (qualified : Bool) (accept reject : Nat) (offset : Int) : Bool :=
  if qualified then decide (offset.natAbs ≤ reject) else decide (offset.natAbs ≤ accept)

/-! ### One input -/

/-- The input as it enters MISSING: gate and window discarded, offset absent, beyond flag clear, not qualified
(R37). -/
def TickInput.enterMissing (i : TickInput) : TickInput :=
  { i with
    active := false
    gate := none
    window := []
    lastGate := none
    offset := none
    beyond := false
    qualified := false }

/-- The window with a count joined at the newest end, holding at most w counts (R40). -/
def joinWindow (w : Nat) (counts : List Nat) (count : Nat) : List Nat :=
  (counts ++ [count]).drop (counts.length + 1 - w)

/-- A gate completes with a count (R39): the count joins the window (R40) and, with the window full, the offset is
computed and judged (R41 to R44). -/
def TickInput.completeGate (k : Int) (count : Nat) (i : TickInput) : TickInput :=
  let win := joinWindow i.windowLen i.window count
  let i1 := { i with window := win, lastGate := some count }
  if win.length = i.windowLen then
    let o := windowOffset k i.windowLen win
    { i1 with
      offset := some o.1
      beyond := o.2
      qualified := judge i.qualified i.acceptPpb i.rejectPpb o.1 }
  else i1

/-- A tick on an ACTIVE input: it opens a gate, is counted, or closes the gate and opens the next (R38, R39). -/
def TickInput.countTick (now : Nat) (k : Int) (i : TickInput) : TickInput :=
  match i.gate with
  | none => { i with lastTick := now, gate := some { ticks := 0, openedAt := now } }
  | some g =>
    if g.ticks + 1 < Config.ticksPerGate then
      { i with lastTick := now, gate := some { g with ticks := g.ticks + 1 } }
    else
      { TickInput.completeGate k (now - g.openedAt) i with
        lastTick := now
        gate := some { ticks := 0, openedAt := now } }

/-- A tick on a watched input (R38, R39). -/
def TickInput.takeTick (now : Nat) (k : Int) (i : TickInput) : TickInput :=
  if i.active then i.countTick now k else { i with active := true, lastTick := now }

/-- The input as watching begins and after it stops (R36). -/
def TickInput.watch (watched : Bool) (i : TickInput) : TickInput :=
  { TickInput.enterMissing i with watched := watched, lastTick := 0 }

/-! ### Events at an input -/

/-- An input's new record is stored; a change of health sends a health report (R45) and a change of the FREQ_FAIL
condition is handed to the Event Unit (R46). -/
def commitInput (n : Slot) (new : TickInput) (s : State) : State :=
  let old := s.inputs[n]
  let s1 := s.setInput n new
  let s2 :=
    if new.health = old.health then s1
    else s1.setFlight { s1.flight with health := s1.flight.health ++ [(n, new.health)] }
  raiseCondition (condFreqFail n) old.freqFail new.freqFail s2

/-- Whether 125,000 periods have passed on an ACTIVE input since its most recent tick (R37). -/
def lossDue (osc : Nat) (i : TickInput) : Bool :=
  i.watched && i.active && decide (i.lastTick + Config.lossSpan ≤ osc)

/-- Input n is declared MISSING, at the end of its loss span or later (R37). -/
def loseTicks (n : Slot) (s : State) : State :=
  if s.inputs[n].watched && s.inputs[n].active then
    commitInput n s.inputs[n].enterMissing (s.advanceTo (s.inputs[n].lastTick + Config.lossSpan))
  else s

/-- TICK_LOSS (R37). An input that is MISSING or not watched has no loss to declare. -/
def execTickLoss (n : Slot) (s : State) : Host.Outcome State Fault Refusal := .next (loseTicks n s)

/-- A tick arrives on input n, `periods` oscillator periods after the event before it. Ticks on an input that is not
watched are ignored (R36). When more than 125,000 periods have passed since the input's last tick, its loss
came first (R37). -/
def takeTick (n : Slot) (periods : Nat) (s : State) : State :=
  let s1 := s.advanceTo (s.osc + periods)
  if s1.inputs[n].watched then
    let s2 := if s1.inputs[n].active && decide (s1.inputs[n].lastTick + Config.lossSpan < s1.osc) then loseTicks n s1 else s1
    commitInput n (s2.inputs[n].takeTick s2.osc s2.correction) s2
  else s1

/-- TICK (R38, R39). -/
def execTick (n : Slot) (periods : Nat) (s : State) : Host.Outcome State Fault Refusal := .next (takeTick n periods s)

/-! ### Writes at the Tick Monitor (R36, R47, R48) -/

/-- The frequency settings of a WRITE_CANDIDATE after the clamps of R47 and R48. -/
structure FrequencyWrite where
  windowLen : Nat
  acceptPpb : Nat
  rejectPpb : Nat
  deriving DecidableEq, Repr

/-- The frequency settings are stored; a change of W empties the window of a watched input and keeps the rest
(R47, R48). -/
def TickInput.write (w : FrequencyWrite) (i : TickInput) : TickInput :=
  { i with
    windowLen := w.windowLen
    acceptPpb := w.acceptPpb
    rejectPpb := w.rejectPpb
    window := if w.windowLen = i.windowLen then i.window else [] }

end Sys2Proof.Machine
end

