-- ==== Sys2Proof/Machine/Frames.lean ====
section
/-! DEFINITION. Frames at the lane ports (Chapter 1): the frame check, classification and the form check, the transit
queues with their overflow, and the commands FRAME_RECEIVED, TRANSMISSION_END and RESET_LINE_ASSERTED. -/

namespace Sys2Proof.Machine

/-- A frame joins the FABRIC-to-CONTROL transit queue, or is discarded and TRANSIT_OVERFLOW raised (R6). -/
def joinToControl (f : Frame) (s : State) : State :=
  match s.lane.control.joinTransit s.lane.live f with
  | some p => s.setLane { s.lane with control := p }
  | none => raiseEdge (deviceLatch 0) s

/-- A frame joins the CONTROL-to-FABRIC transit queue, or is discarded and TRANSIT_OVERFLOW raised (R6). -/
def joinToFabric (f : Frame) (s : State) : State :=
  match s.lane.fabric.joinTransit s.lane.live f with
  | some p => s.setLane { s.lane with fabric := p }
  | none => raiseEdge (deviceLatch 0) s

/-- What classification makes of a checked frame (Table 1-2, with the form check of R5). -/
inductive Treatment where
  /-- A Received Grade Notice or Lock Report for the local inbound queue. -/
  | localInbound
  /-- The request queue. -/
  | request
  /-- The transit queue of the other port. -/
  | transit
  /-- Discarded. -/
  | discard
  deriving DecidableEq, Repr

/-- A frame is addressed to the part when its destination is the strap address (R3). -/
def addressed (strap : Address) (f : Frame) : Bool := decide (frameDest f = strap)

/-- The treatment of a checked frame by kind, port and address (R4), a frame bound for the local inbound queue being
given the form check: a failing notice goes to transit and a failing Lock Report is discarded (R5). -/
def classify (strap : Address) (port : LanePort) (f : Frame) : Treatment :=
  match port with
  | .fabric =>
    if frameKind f = kindReceivedNotice then
      if frameBodyLen f = 5 ∨ frameBodyLen f = 13 then .localInbound else .transit
    else if frameKind f = kindLockReport then
      if addressed strap f then (if frameBodyLen f = 5 then .localInbound else .discard) else .transit
    else if frameKind f = kindRequest then
      if addressed strap f then .discard else .transit
    else .transit
  | .control =>
    if frameKind f = kindRequest ∧ addressed strap f then .request else .transit

/-- A frame is passed on as transit, toward the other port (R4). -/
def passOn (port : LanePort) (f : Frame) (s : State) : State :=
  match port with
  | .fabric => joinToControl f s
  | .control => joinToFabric f s

/-- A notice or report joins the local inbound queue; with the queue full LOCAL_OVERFLOW is raised, and a notice goes to
transit while a report is discarded (R7, R8). That LOCAL_OVERFLOW, with an Event Notice it may cause, comes before the notice
joins the transit queue or raises TRANSIT_OVERFLOW is a DESIGN CHOICE (log entry 17). -/
def joinLocal (f : Frame) (s : State) : State :=
  if s.lane.localIn.length < Config.localInCapacity then
    s.setLane { s.lane with localIn := s.lane.localIn ++ [f] }
  else
    let s1 := raiseEdge (deviceLatch 1) s
    if frameKind f = kindReceivedNotice then joinToControl f s1 else s1

/-- A request joins the request queue, or is discarded and REQUEST_OVERFLOW raised (R10). -/
def joinRequests (f : Frame) (s : State) : State :=
  if s.lane.requests.length < Config.requestCapacity then
    s.setLane { s.lane with requests := s.lane.requests ++ [f] }
  else raiseEdge (deviceLatch 2) s

/-- A frame taken on a port: lost while the reset line is asserted or when its reception began then (R16), else
checked (R2) and classified (R4). -/
def receiveFrame (port : LanePort) (f : Frame) (begunInReset : Bool) (s : State) : State :=
  if s.lane.resetAsserted || begunInReset then s
  else if frameCheck f then
    match classify s.lane.strap port f with
    | .localInbound => joinLocal f s
    | .request => joinRequests f s
    | .transit => passOn port f s
    | .discard => s
  else s

/-- FRAME_RECEIVED (R1). -/
def execFrameReceived (port : LanePort) (bytes : Frame) (begunInReset : Bool) (s : State) :
    Host.Outcome State Fault Refusal :=
  .next (receiveFrame port bytes begunInReset s)

/-- RESET_LINE_ASSERTED: the line is low, and a frame in transmission stops at once (R16). -/
def assertReset (s : State) : State :=
  s.setLane
    { s.lane with
      resetAsserted := true
      fabric := { s.lane.fabric with sending := none }
      control := { s.lane.control with sending := none } }

/-- RESET_LINE_ASSERTED (R16). -/
def execResetLineAsserted (s : State) : Host.Outcome State Fault Refusal := .next (assertReset s)

end Sys2Proof.Machine
end

