-- ==== Sys2Proof/Machine/Grades.lean ====
section
/-! DEFINITION. The Grade Receiver (Chapter 4): Received Grade Notices, the notice timer, the copies of the
triples, receive maps, port bindings and grade settings, and the commands RECEIVED_GRADE_NOTICE,
NOTICE_TIMER_EXPIRY and TRIPLE_HANDOVER. -/

namespace Sys2Proof.Machine

/-! ### Received Grade Notices (R56 to R58, R184) -/

/-- The port entry a notice names: its shelf, port and code are each at most 15 and the entry is in use (R56). -/
def lookupNotice (s : State) (f : Frame) : Option PortId :=
  let b := frameBody f
  if h : byteAt b 0 < 16 ∧ byteAt b 1 < 16 ∧ byteAt b 3 < 16 then
    let p : PortId := ⟨byteAt b 0 * 16 + byteAt b 1, by omega⟩
    if s.rxPorts[p].inUse then some p else none
  else none

/-- The path block of a notice: present when the body length is 13; a hop above 31 is taken as 31 (R58, R184). -/
def noticePath (f : Frame) : Option PathBlock :=
  let b := frameBody f
  if frameBodyLen f = 13 then
    some
      { origin := { tag := BitVec.ofNat 48 (numAt b 5 6), isPartial := bitAt b 12 0 }
        hop := Fin.ofNat 32 (min 31 (byteAt b 11)) }
  else none

/-- The grade record after a notice of a LINE candidate (R58, steps 1 to 4). -/
def GradeSlot.hear (now : Nat) (m : GradeMap) (code : Code) (path : Option PathBlock) (g : GradeSlot) : GradeSlot :=
  { g with
    code := .received code
    path := path
    timer := startMs now (g.timeoutS * 1000)
    mapped := if m.attached then m.entries[code] else g.mapped
    held := if m.attached then false else g.held }

/-- A notice applied to the LINE candidate c (R58). -/
def applyNotice (c : Slot) (f : Frame) (s : State) : State :=
  let g := s.grades[c]
  commitGrade c (g.hear s.osc s.rmaps[g.rmap] (Fin.ofNat 16 (byteAt (frameBody f) 3)) (noticePath f)) s

/-- The LINE candidate that an entry binds, if there is one (R57, R58). -/
def boundLine (s : State) (p : PortId) : Option Slot :=
  match s.rxPorts[p].bound with
  | some c => if s.cands[c].kind = .line then some c else none
  | none => none

/-- A notice processed by the Grade Receiver: returned on a failed lookup (R56), applied for a LINE candidate (R58),
and then absorbed or forwarded as the entry says (R57, R58, R9). -/
def processNotice (f : Frame) (s : State) : State :=
  match lookupNotice s f with
  | none => joinToControl f s
  | some p =>
    let s1 := match boundLine s p with
      | some c => applyNotice c f s
      | none => s
    if s.rxPorts[p].absorb then s1 else joinToControl f s1

/-- The Grade Receiver takes the frame at the head of the local inbound queue if it is a notice (R7). -/
def takeNotice (s : State) : State :=
  match s.lane.localIn with
  | f :: rest =>
    if frameKind f = kindReceivedNotice then processNotice f (s.setLane { s.lane with localIn := rest }) else s
  | [] => s

/-- RECEIVED_GRADE_NOTICE (R56). -/
def execReceivedGradeNotice (s : State) : Host.Outcome State Fault Refusal := .next (takeNotice s)

/-! ### The notice timer (R61) -/

/-- The grade record as the notice timer expires (R61). -/
def GradeSlot.timeOut (g : GradeSlot) : GradeSlot := { g with code := .timedOut, mapped := 15, timer := none }

/-- The notice timer of slot n expires (R61). -/
def expireNotice (n : Slot) (s : State) : State :=
  match s.grades[n].timer with
  | some due => commitGrade n s.grades[n].timeOut (s.advanceTo due)
  | none => s

/-- NOTICE_TIMER_EXPIRY (R61). A stopped timer does not expire. -/
def execNoticeTimerExpiry (n : Slot) (s : State) : Host.Outcome State Fault Refusal := .next (expireNotice n s)

/-! ### Triples (R70) -/

/-- The Grade Receiver takes a triple: its copy is replaced, and every SHELF candidate fed from that shelf is
regraded in slot order (R70). -/
def takeTriple (k : ShelfId) (s : State) : State :=
  match takeFirst (fun r => decide (r.1 = k)) s.flight.triples with
  | none => s
  | some (r, rest) =>
    let s1 := { s with triples := s.triples.set k r.2, flight := { s.flight with triples := rest } }
    overSlots (fun n t => if s.cands[n].kind = .shelf ∧ s.cands[n].source = k then regrade n t else t) s1

/-- TRIPLE_HANDOVER (R70). -/
def execTripleHandover (k : ShelfId) (s : State) : Host.Outcome State Fault Refusal := .next (takeTriple k s)

/-! ### Receive maps (R63 to R65) -/

/-- Receive map m is detached, and the candidates that use it are held (R64). -/
def detachReceive (m : MapId) (s : State) : State :=
  if s.rmaps[m].attached then
    overSlots (fun n t => if t.grades[n].rmap = m then t.setGrade n { t.grades[n] with held := true } else t)
      { s with rmaps := s.rmaps.set m { s.rmaps[m] with attached := false } }
  else s

/-- A candidate remapped through an attached map: its held indication is cleared, and a LINE candidate with a received
code takes that code's entry (R65, R66). -/
def GradeSlot.remap (isLine : Bool) (m : GradeMap) (g : GradeSlot) : GradeSlot :=
  match isLine, g.code with
  | true, .received c => { g with held := false, mapped := m.entries[c] }
  | _, _ => { g with held := false }

/-- Receive map m is attached: every candidate that uses it is remapped, and the changes are then handed on in slot
order (R65). -/
def attachReceive (m : MapId) (s : State) : State :=
  if s.rmaps[m].attached then s
  else
    let map := { s.rmaps[m] with attached := true }
    let s1 := overSlots (fun n t =>
        if t.grades[n].rmap = m then t.setGrade n (t.grades[n].remap (decide (s.cands[n].kind = .line)) map) else t)
      { s with rmaps := s.rmaps.set m map }
    overSlots (fun n t => if t.grades[n].rmap = m then regrade n t else t) s1

/-! ### Grade settings and bindings (R55, R66, R67, R72) -/

/-- The grade settings of a WRITE_CANDIDATE after the clamps of R67. -/
structure GradeWrite where
  rmap : MapId
  floor : Rank
  setRank : Rank
  setRankOn : Bool
  assumedHops : Hop
  timeoutS : Nat
  deriving DecidableEq, Repr

/-- The record as it becomes PENDING, its timer stopped (R59). -/
def GradeSlot.clear (g : GradeSlot) : GradeSlot := { g with code := .pending, path := none, mapped := 15, timer := none }

/-- The notice timer as a binding starts it: running for a LINE slot that an in-use port entry binds (R60). -/
def bindTimer (now : Nat) (line bound : Bool) (g : GradeSlot) : Timer :=
  if line && bound then startMs now (g.timeoutS * 1000) else none

/-- The record with the settings stored (R67). -/
def GradeSlot.store (w : GradeWrite) (g : GradeSlot) : GradeSlot :=
  { g with
    rmap := w.rmap
    floor := w.floor
    setRank := w.setRank
    setRankOn := w.setRankOn
    assumedHops := w.assumedHops
    timeoutS := w.timeoutS }

/-- The grade record after a WRITE_CANDIDATE: on a binding change it becomes pending and held follows its map (R72); on
a change of map alone it is remapped or held (R66). `m` is the map that the write names. -/
def GradeSlot.write (now : Nat) (m : GradeMap) (line bound rebinding : Bool) (w : GradeWrite) (g : GradeSlot) :
    GradeSlot :=
  let g1 := g.store w
  if rebinding then { g1.clear with held := !m.attached, timer := bindTimer now line bound g1 }
  else if w.rmap = g.rmap then g1
  else if m.attached then g1.remap line m
  else { g1 with held := true }

/-- The port entry that binds a slot: in use and naming it (R54). -/
def portOf (ports : Vector RxPort 256) (n : Slot) : Option PortId :=
  (List.finRange 256).find? fun p => ports[p].inUse && decide (ports[p].bound = some n)

/-- The slots that in-use entries bind, in table order (R54). -/
def boundSlots (ports : Vector RxPort 256) : List Slot :=
  (List.finRange 256).filterMap fun p => if ports[p].inUse then ports[p].bound else none

/-- A slot whose port binding changed from the entry `before` to the entry `after` (R55). -/
def rebindPort (n : Slot) (before after : Option PortId) (s : State) : State :=
  let g := s.grades[n]
  let line := decide (s.cands[n].kind = .line)
  if before = after then s
  else if before.isSome || line then
    commitGrade n { g.clear with timer := bindTimer s.osc line after.isSome g } s
  else s

/-- The receive halves of a block are written, and each slot whose binding changed becomes pending (R53, R55). The slots are
taken, and hand their grade changes on, in increasing slot order: a DESIGN CHOICE (log entry 27). -/
def writeReceiveHalves (ports : Vector RxPort 256) (s : State) : State :=
  overSlots (fun n t => rebindPort n (portOf s.rxPorts n) (portOf ports n) t) { s with rxPorts := ports }

end Sys2Proof.Machine
end

