-- ==== Sys2Proof/Machine/Slices.lean ====
section
/-! DEFINITION. The Shelf Slices (Chapters 6 and 7): Lock Reports, the slice timers, the holdover budget, park, unpark
and slice reset, and the commands LOCK_REPORT, TARGET_GRADE_HANDOVER, LOCK_TIMER_EXPIRY, SETTLE_TIMER_EXPIRY,
REPORT_TIMER_EXPIRY and HOLDOVER_BUDGET_EXHAUSTED. -/

namespace Sys2Proof.Machine

/-! ### Lock Reports (R115 to R118, R185) -/

/-- The report a Lock Report frame carries (R185). -/
def reportOf (f : Frame) : Report :=
  let b := frameBody f
  { echo := b.getD 1 0, moduleState := b.getD 2 0, holdoverReady := bitAt b 3 0, tracked := b.getD 4 0 }

/-- The report shows lock to slot c: module state LOCKED and tracked input c (R117). -/
def Report.showsLock (r : Report) (c : Slot) : Bool :=
  decide (r.moduleState = 0x02#8) && decide (r.tracked.toNat = c.val)

/-- The settle timer as it starts, a stored 0 acting as 1 s (R109, R121). -/
def Slice.startSettle (now : Nat) (v : Slice) : Timer := startMs now (max 1 v.cfg.settleS * 1000)

/-- The common effects of an accepted report (R115). -/
def Slice.hearReport (now : Nat) (r : Report) (v : Slice) : Slice :=
  { v with reportTimer := startMs now (v.cfg.reportS * 1000), unreachable := false, lastReport := some r }

/-- A current report under TRACK, judged against the current target (R117, Table 6-4). -/
def Slice.trackReport (now : Nat) (lock : Bool) (v : Slice) : Slice :=
  match v.timing, lock with
  | .acquiring, true => { v with timing := .settling, lockTimer := none, settleTimer := v.startSettle now }
  | .settling, false =>
    { v with timing := .acquiring, settleTimer := none, lockTimer := startMs now (v.cfg.lockS * 1000) }
  | .locked, false => { v with timing := .acquiring, lockTimer := startMs now (v.cfg.lockS * 1000) }
  | _, _ => v

/-- A current report under HOLD (R118). -/
def Slice.holdReport (now : Nat) (ready : Bool) (v : Slice) : Slice :=
  match v.timing, ready with
  | .freerun, true => v.enterHoldover now
  | .holdover, false => v.enterFreerun
  | _, _ => v

/-- Whether an accepted report shows lock to the current target (R117); with no target it shows none. -/
def Slice.seesLock (r : Report) (v : Slice) : Bool :=
  match v.target with
  | some c => r.showsLock c
  | none => false

/-- A current report, under the action of the directive record (R117, R118). -/
def Slice.currentReport (now : Nat) (r : Report) (v : Slice) : Slice :=
  match v.action with
  | .track _ => v.trackReport now (v.seesLock r)
  | .hold => v.holdReport now r.holdoverReady

/-- An accepted report is stale when it echoes another sequence or the unsent flag is set (R116). -/
def Slice.stale (r : Report) (v : Slice) : Bool := decide (r.echo ≠ v.seq) || v.unsent

/-- Slice k takes a Lock Report: accepted from its module's address when it is not PARKED (R115), then answered by a
resend when stale (R116), else judged (R117, R118). -/
def takeReport (k : ShelfId) (f : Frame) (s : State) : State :=
  let old := s.slices[k]
  let r := reportOf f
  if decide (frameSource f = old.cfg.module) && decide (old.timing ≠ .parked) then
    let v := old.hearReport s.osc r
    if old.stale r then closeSlice k old (sendDirective k (s.setSlice k v))
    else closeSlice k old (s.setSlice k (v.currentReport s.osc r))
  else s

/-- The Lock Report at the head of the local inbound queue is taken by the slice of the shelf it names, or consumed
without effect when it names a shelf above 15 (R7). -/
def takeLockReport (s : State) : State :=
  match s.lane.localIn with
  | f :: rest =>
    if frameKind f = kindLockReport then
      let s1 := s.setLane { s.lane with localIn := rest }
      if h : byteAt (frameBody f) 0 < 16 then takeReport ⟨byteAt (frameBody f) 0, h⟩ f s1 else s1
    else s
  | [] => s

/-- LOCK_REPORT (R115). -/
def execLockReport (s : State) : Host.Outcome State Fault Refusal := .next (takeLockReport s)

/-! ### Timers (R120 to R122, R134) -/

/-- The lock timer expires in ACQUIRING: an evaluation request with a mark note, and LOCK_FAILED (R120). -/
def expireLock (k : ShelfId) (s : State) : State :=
  let v := s.slices[k]
  match v.timing, v.lockTimer with
  | .acquiring, some due =>
    raiseEdge (shelfLatch 2 k)
      (requestEvaluation k v.target ((s.advanceTo due).setSlice k { v with lockTimer := none }))
  | _, _ => s

/-- LOCK_TIMER_EXPIRY (R120). -/
def execLockTimerExpiry (k : ShelfId) (s : State) : Host.Outcome State Fault Refusal := .next (expireLock k s)

/-- The settle timer expires in SETTLING: LOCKED, and the history flag is set (R121). -/
def expireSettle (k : ShelfId) (s : State) : State :=
  let v := s.slices[k]
  match v.timing, v.settleTimer with
  | .settling, some due =>
    closeSlice k v ((s.advanceTo due).setSlice k { v with timing := .locked, history := true, settleTimer := none })
  | _, _ => s

/-- SETTLE_TIMER_EXPIRY (R121). -/
def execSettleTimerExpiry (k : ShelfId) (s : State) : Host.Outcome State Fault Refusal := .next (expireSettle k s)

/-- The report timer expires: the unreachable flag is set and the timer stays stopped (R122). -/
def expireReport (k : ShelfId) (s : State) : State :=
  let v := s.slices[k]
  match v.reportTimer with
  | some due => closeSlice k v ((s.advanceTo due).setSlice k { v with unreachable := true, reportTimer := none })
  | none => s

/-- REPORT_TIMER_EXPIRY (R122). -/
def execReportTimerExpiry (k : ShelfId) (s : State) : Host.Outcome State Fault Refusal := .next (expireReport k s)

/-- The oscillator count at which the holdover clock of a slice reaches its budget; none when there is no exhaustion to
come: no clock, or exhausted already (R134). -/
def Slice.exhaustionDue (v : Slice) : Timer :=
  match v.timing, v.holdoverSince, v.exhausted with
  | .holdover, some since, false => startMs since (v.cfg.budgetMin * 60000)
  | _, _, _ => none

/-- The holdover clock reaches the budget: the triple takes the freerun rank (R134). -/
def exhaustBudget (k : ShelfId) (s : State) : State :=
  match s.slices[k].exhaustionDue with
  | some due => retriple k false ((s.advanceTo due).setSlice k { s.slices[k] with exhausted := true })
  | none => s

/-- HOLDOVER_BUDGET_EXHAUSTED (R134). -/
def execHoldoverBudgetExhausted (k : ShelfId) (s : State) : Host.Outcome State Fault Refusal := .next (exhaustBudget k s)

/-! ### Grade hand-overs (R132) -/

/-- Slice k takes a hand-over of a changed grade and recomputes its triple when the slot is its current target
(R132). -/
def takeTargetGrade (k : ShelfId) (s : State) : State :=
  match takeFirst (fun r => decide (r.1 = k)) s.flight.grades with
  | none => s
  | some (r, rest) =>
    let s1 := s.setFlight { s.flight with grades := rest }
    if s.slices[k].target = some r.2 then retriple k false s1 else s1

/-- TARGET_GRADE_HANDOVER (R132). -/
def execTargetGradeHandover (k : ShelfId) (s : State) : Host.Outcome State Fault Refusal := .next (takeTargetGrade k s)

/-! ### Settings (R109, R124, R133, R134) -/

/-- Whether the holdover clock has reached the budget (R134). -/
def Slice.budgetReached (now : Nat) (v : Slice) : Bool :=
  match v.timing, v.holdoverSince with
  | .holdover, some since => decide (since + v.cfg.budgetMin * 60 * Config.periodsPerS ≤ now)
  | _, _ => false

/-- The slice with its timing settings stored; a new budget is compared with a running holdover clock (R109, R134). -/
def Slice.writeSettings (now : Nat) (w : SliceSettings) (v : Slice) : Slice :=
  let v1 := { v with cfg := w }
  if w.budgetMin = v.cfg.budgetMin then v1 else { v1 with exhausted := v1.budgetReached now }

/-- Slice k takes its timing settings: a new module address resends the record unless PARKED (R124), and a change of a
triple setting recomputes the triple (R133). -/
def writeSlice (k : ShelfId) (w : SliceSettings) (s : State) : State :=
  let old := s.slices[k]
  let s1 := s.setSlice k (old.writeSettings s.osc w)
  let s2 := if decide (w.module ≠ old.cfg.module) && decide (old.timing ≠ .parked) then sendDirective k s1 else s1
  if decide (w.holdoverRank ≠ old.cfg.holdoverRank) || decide (w.freerunRank ≠ old.cfg.freerunRank) ||
      decide (w.budgetMin ≠ old.cfg.budgetMin)
  then retriple k false s2
  else s2

/-! ### Park, unpark and slice reset: the slice half (R125 to R127) -/

/-- The slice with its lock and settle timers and its holdover clock stopped (R125, R127, R130). -/
def Slice.stopTimers (v : Slice) : Slice :=
  { v with lockTimer := none, settleTimer := none, holdoverSince := none, exhausted := false }

/-- The slice half of PARK (R125). -/
def parkSlice (k : ShelfId) (s : State) : State :=
  let old := s.slices[k]
  if old.timing = .parked then s
  else
    closeSlice k old
      (s.setSlice k
        { old.stopTimers with
          timing := .parked
          target := none
          reportTimer := none
          unreachable := false
          unsent := false })

/-- The slice half of UNPARK (R126). -/
def unparkSlice (k : ShelfId) (s : State) : State :=
  let old := s.slices[k]
  if old.timing = .parked then
    let v := { old with timing := .freerun, unreachable := false, reportTimer := startMs s.osc (old.cfg.reportS * 1000) }
    requestEvaluation k none (closeSlice k old (newDirective k .hold (s.setSlice k v)))
  else s

/-- The slice half of a slice reset (R127). -/
def resetSliceHalf (k : ShelfId) (s : State) : State :=
  let old := s.slices[k]
  if old.timing = .parked then
    requestEvaluation k none (closeSlice k old (s.setSlice k { old with history := false, lastReport := none }))
  else
    let v :=
      { old.stopTimers with
        timing := .freerun
        target := none
        reportTimer := startMs s.osc (old.cfg.reportS * 1000)
        history := false
        unreachable := false
        lastReport := none }
    requestEvaluation k none (closeSlice k old (newDirective k .hold (s.setSlice k v)))

end Sys2Proof.Machine
end

