-- ==== Sys2Proof/Machine/Notices.lean ====
section
/-! DEFINITION. The Notice Unit (Chapter 7): the content of a port, Transmit Grade Notices, the notice budget and the
transmit maps, and the commands NOTICE_UNIT_HANDOVER, PERIODIC_TIMER_EXPIRY and BUDGET_WINDOW_START. -/

namespace Sys2Proof.Machine

/-- The shelf and the index of a port (Table 0-2). -/
def portShelf (p : PortId) : ShelfId := ⟨p.val / 16, by omega⟩
def portIndex (p : PortId) : Fin 16 := ⟨p.val % 16, by omega⟩

/-- A timing state in which the target's own port is filled (R140). -/
def Timing.tracks : Timing → Bool
  | .acquiring | .settling | .locked => true
  | .freerun | .holdover | .parked => false

/-- The port's bound candidate is its shelf's current target while the shelf tracks it (R140, step 1). -/
def towardSource (s : State) (p : PortId) : Bool :=
  s.txPorts[p].bound.isSome && decide (s.txPorts[p].bound = s.copies[portShelf p].target) &&
    s.copies[portShelf p].timing.tracks

/-- The advertised rank is above the port's squelch threshold (R140, step 2). -/
def squelched (s : State) (p : PortId) : Bool :=
  decide (s.txPorts[p].squelch < s.copies[portShelf p].triple.rank)

/-- The code of a port (R140). -/
def portCode (s : State) (p : PortId) : Code :=
  let t := s.txPorts[p]
  if towardSource s p || squelched s p then t.fill
  else if s.tmaps[t.tmap].attached then s.tmaps[t.tmap].entries[s.copies[portShelf p].triple.rank]
  else t.heldCode.getD t.fill

/-- The held code after the port's code is chosen: the mapped code when step 3 takes it from an attached map, else as it
was (R139, R140). -/
def portHeld (s : State) (p : PortId) : Option Code :=
  let t := s.txPorts[p]
  if towardSource s p || squelched s p then t.heldCode
  else if s.tmaps[t.tmap].attached then some s.tmaps[t.tmap].entries[s.copies[portShelf p].triple.rank]
  else t.heldCode

/-- The content of a port as a notice sent now would carry it (R139, R140). -/
def portContent (s : State) (p : PortId) : Content :=
  { code := portCode s p
    path :=
      if s.txPorts[p].pathOn then
        some { hop := s.copies[portShelf p].triple.hop, origin := s.copies[portShelf p].triple.origin }
      else none }

/-- The type byte of a grade notice (Table 10-3). -/
inductive NoticeType where
  | periodic
  | event
  deriving DecidableEq, Repr

def noticeTypeCode : NoticeType → Nat
  | .periodic => 0x00
  | .event => 0x01

/-- The body of a Transmit Grade Notice (Table 10-3, R184). -/
def transmitBody (p : PortId) (ty : NoticeType) (c : Content) : List Byte :=
  [byteOf (portShelf p).val, byteOf (portIndex p).val, byteOf (noticeTypeCode ty), byteOf c.code.val,
    flagsByte [c.path.isSome]] ++
  match c.path with
  | none => []
  | some q => beBytes 6 q.origin.tag.toNat ++ [byteOf q.hop.val, flagsByte [q.origin.isPartial]]

/-- A Transmit Grade Notice to the port's line card (R148, R184). -/
def transmitFrame (s : State) (p : PortId) (ty : NoticeType) (c : Content) : Frame :=
  buildFrame s.txPorts[p].address s.lane.strap kindTransmitNotice (transmitBody p ty c)

/-- The port's record after a notice with content c was offered: taken, it is the last sent content and the change is no
longer pending, and an EVENT notice is counted (R141, R143); refused, the flag is set when the content differs from the
last sent (R145). -/
def TxPort.afterOffer (ty : NoticeType) (c : Content) (taken : Bool) (t : TxPort) : TxPort :=
  if taken then
    { t with
      lastSent := some c
      changePending := false
      count := if ty = .event then t.count + 1 else t.count }
  else { t with changePending := decide (t.lastSent ≠ some c) }

/-- A notice of port p carrying content c is offered to the FABRIC local outbound queue (R141, R143, R145). -/
def offerNotice (p : PortId) (ty : NoticeType) (c : Content) (s : State) : State :=
  let r := offerFabric (transmitFrame s p ty c) s
  r.1.setTx p (s.txPorts[p].afterOffer ty c r.2)

/-- The content of port p is recomputed and compared with the last sent content: equal, the flag is cleared; different,
an EVENT notice is offered within the budget, else the flag is set (R141). -/
def recomputePort (p : PortId) (s : State) : State :=
  let c := portContent s p
  let t : TxPort := { s.txPorts[p] with heldCode := portHeld s p }
  if t.lastSent = some c then s.setTx p { t with changePending := false }
  else if t.count < Config.noticeBudget then offerNotice p .event c (s.setTx p t)
  else s.setTx p { t with changePending := true }

/-- The Notice Unit takes a hand-over: its copy is replaced, and every in-use port of the shelf is recomputed (R142). -/
def takeNoticeCopy (k : ShelfId) (s : State) : State :=
  match takeFirst (fun r => decide (r.1 = k)) s.flight.notices with
  | none => s
  | some (r, rest) =>
    let s1 := { s with copies := s.copies.set k r.2, flight := { s.flight with notices := rest } }
    overPorts (fun p t => if portShelf p = k && t.txPorts[p].inUse then recomputePort p t else t) s1

/-- NOTICE_UNIT_HANDOVER (R142). -/
def execNoticeUnitHandover (k : ShelfId) (s : State) : Host.Outcome State Fault Refusal := .next (takeNoticeCopy k s)

/-- The periodic timer of port p expires: a PERIODIC notice with the current content is offered, and the timer starts
again (R143). -/
def expirePeriodic (p : PortId) (s : State) : State :=
  match s.txPorts[p].periodic with
  | none => s
  | some due =>
    let s1 := s.advanceTo due
    let t := s.txPorts[p]
    offerNotice p .periodic (portContent s p)
      (s1.setTx p { t with heldCode := portHeld s p, periodic := startMs s1.osc (t.intervalS * 1000) })

/-- PERIODIC_TIMER_EXPIRY (R143). -/
def execPeriodicTimerExpiry (p : PortId) (s : State) : Host.Outcome State Fault Refusal := .next (expirePeriodic p s)

/-- A window start at one in-use port: the count becomes 0, and a held change is compared and sent (R144). -/
def startWindow (p : PortId) (s : State) : State :=
  let s1 := s.setTx p { s.txPorts[p] with count := 0 }
  if s.txPorts[p].changePending then recomputePort p s1 else s1

/-- A new budget window begins, 1 s after the one before or later (R144). -/
def startBudgetWindow (s : State) : State :=
  let s1 := s.advanceTo (s.windowStart + Config.windowMs * Config.periodsPerMs)
  overPorts (fun p t => if t.txPorts[p].inUse then startWindow p t else t) { s1 with windowStart := s1.osc }

/-- BUDGET_WINDOW_START (R144). -/
def execBudgetWindowStart (s : State) : Host.Outcome State Fault Refusal := .next (startBudgetWindow s)

/-! ### Transmit maps (R146, R147) -/

/-- Transmit map m is detached (R146). -/
def detachTransmit (m : MapId) (s : State) : State :=
  { s with tmaps := s.tmaps.set m { s.tmaps[m] with attached := false } }

/-- Transmit map m is attached, and every in-use port that uses it is recomputed (R147). -/
def attachTransmit (m : MapId) (s : State) : State :=
  if s.tmaps[m].attached then s
  else
    overPorts (fun p t => if t.txPorts[p].inUse && decide (t.txPorts[p].tmap = m) then recomputePort p t else t)
      { s with tmaps := s.tmaps.set m { s.tmaps[m] with attached := true } }

/-! ### Transmit halves of a WRITE_PORTS (R138, R148) -/

/-- The transmit fields of a written port entry after the clamps of R138. -/
structure TxWrite where
  address : Address
  tmap : MapId
  squelch : Rank
  fill : Code
  intervalS : Nat
  pathOn : Bool
  deriving DecidableEq, Repr

/-- The fields stored, with the copies of the in-use flag and the bound candidate (R138). -/
def TxPort.store (w : TxWrite) (rx : RxPort) (t : TxPort) : TxPort :=
  { t with
    address := w.address
    tmap := w.tmap
    squelch := w.squelch
    fill := w.fill
    intervalS := w.intervalS
    pathOn := w.pathOn
    inUse := rx.inUse
    bound := rx.bound }

/-- The dynamic state of a port cleared, with the periodic timer given (R148, R150, R151). -/
def TxPort.clear (periodic : Timer) (t : TxPort) : TxPort :=
  { t with lastSent := none, heldCode := none, periodic := periodic, count := 0, changePending := false }

/-- The Notice Unit applies the transmit half of entry p, after the receive half has been stored (R148). -/
def writeTransmitHalf (p : PortId) (w : TxWrite) (s : State) : State :=
  let old := s.txPorts[p]
  let t := old.store w s.rxPorts[p]
  match old.inUse, t.inUse with
  | false, true => recomputePort p (s.setTx p (t.clear (startMs s.osc (w.intervalS * 1000))))
  | true, false => s.setTx p (t.clear none)
  | true, true => recomputePort p (s.setTx p t)
  | false, false => s.setTx p t

end Sys2Proof.Machine
end

