-- ==== Sys2Proof/Machine/Selection.lean ====
section
/-! DEFINITION. The Selection Engine (Chapter 5): eligibility, loop exclusion, selection keys, the command EVALUATION,
list entry writes, settings, operator commands, marks, and the engine halves of park and slice reset. -/

namespace Sys2Proof.Machine

/-! ### Loop exclusion (R88, R89) -/

/-- The walk over the target records from shelf k reaches shelf s within the given number of steps (R89). -/
def walkReaches (st : State) (s : ShelfId) : Nat → ShelfId → Bool
  | 0, _ => false
  | fuel + 1, k =>
    match st.shelves[k].target with
    | none => false
    | some t =>
      if t.kind = .shelf then if t.source = s then true else walkReaches st s fuel t.source else false

/-- Loop-excluded by origin: the effective origin is present, not PARTIAL, and equals s's own tag (R88). -/
def excludedByOrigin (st : State) (s : ShelfId) (c : Slot) : Bool :=
  match st.grades[c].eff.origin with
  | some o => !o.isPartial && decide (o.tag = ownTag st.baseTag s)
  | none => false

/-- Loop-excluded by cascade: of kind SHELF with source shelf k, where k is s or the walk from k reaches s (R89). -/
def excludedByCascade (st : State) (s : ShelfId) (c : Slot) : Bool :=
  decide (st.cands[c].kind = .shelf) &&
    (decide (st.cands[c].source = s) || walkReaches st s Config.walkSteps st.cands[c].source)

/-- Loop-excluded for shelf s (R88, R89). -/
def loopExcluded (st : State) (s : ShelfId) (c : Slot) : Bool := excludedByOrigin st s c || excludedByCascade st s c

/-! ### Eligibility and keys (R87, R90) -/

/-- The slot of shelf k's target record. -/
def targetSlot (s : State) (k : ShelfId) : Option Slot := s.shelves[k].target.map Target.slot

/-- The rank test of eligibility, by mode (R87). -/
def rankAdmits (sel : Selection) (rank : Rank) : Bool :=
  match sel.mode with
  | .auto => decide (rank ≤ sel.minRank)
  | .priority => decide (rank < 15)

/-- Entry e of shelf k is eligible (R87). -/
def eligible (s : State) (k : ShelfId) (e : EntryId) : Bool :=
  let h := s.shelves[k]
  let c := h.entries[e].slot
  decide (h.entries[e].priority ≠ 0) && !h.entries[e].lockout &&
    (decide (s.cands[c].state = .available) || (decide (s.cands[c].state = .suspect) && decide (targetSlot s k = some c))) &&
    !h.failed[c] && rankAdmits h.sel s.grades[c].eff.rank && decide (s.grades[c].eff.hop ≤ h.sel.hopLimit) &&
    !loopExcluded s k c

/-- The selection key of entry e: rank, hop, priority, slot in AUTO; priority, slot in PRIORITY (R90). -/
def selectionKey (s : State) (k : ShelfId) (e : EntryId) : List Nat :=
  let h := s.shelves[k]
  let c := h.entries[e].slot
  match h.sel.mode with
  | .auto => [s.grades[c].eff.rank.val, s.grades[c].eff.hop.val, h.entries[e].priority.val, c.val]
  | .priority => [h.entries[e].priority.val, c.val]

/-- Keys compare element by element; the lower key comes first (R90). -/
def keyLt : List Nat → List Nat → Bool
  | [], [] => false
  | [], _ :: _ => true
  | _ :: _, [] => false
  | a :: as, b :: bs => decide (a < b) || (decide (a = b) && keyLt as bs)

/-- The eligible entries of shelf k, in entry order. -/
def eligibleEntries (s : State) (k : ShelfId) : List EntryId := (List.finRange 8).filter (eligible s k)

/-- The better of two entries by key. -/
def betterEntry (s : State) (k : ShelfId) (best : Option EntryId) (e : EntryId) : Option EntryId :=
  match best with
  | none => some e
  | some b => if keyLt (selectionKey s k e) (selectionKey s k b) then some e else some b

/-- The eligible entry with the lowest key (R90). -/
def bestEntry (s : State) (k : ShelfId) : Option EntryId := (eligibleEntries s k).foldl (betterEntry s k) none

/-- The candidate of the best eligible key; NONE when no entry is eligible. -/
def bestSlot (s : State) (k : ShelfId) : Option Slot := (bestEntry s k).map fun e => s.shelves[k].entries[e].slot

/-- Some eligible entry of shelf k has an effective rank strictly lower than `rank`. -/
def strictlyBetter (s : State) (k : ShelfId) (rank : Rank) : Bool :=
  (eligibleEntries s k).any fun e => decide (s.grades[s.shelves[k].entries[e].slot].eff.rank < rank)

/-- In AUTO mode some eligible entry is strictly better in rank than candidate c (R91, R93, R96). -/
def outranked (s : State) (k : ShelfId) (c : Slot) : Bool :=
  decide (s.shelves[k].sel.mode = .auto) && strictlyBetter s k s.grades[c].eff.rank

/-- The target of shelf k stands in an eligible entry. -/
def targetEligible (s : State) (k : ShelfId) (c : Slot) : Bool :=
  (eligibleEntries s k).any fun e => decide (s.shelves[k].entries[e].slot = c)

/-- The automatic target (R91). -/
def autoTarget (s : State) (k : ShelfId) : Option Slot :=
  if s.shelves[k].sel.revertive then bestSlot s k
  else
    match targetSlot s k with
    | some c => if targetEligible s k c && !outranked s k c then some c else bestSlot s k
    | none => bestSlot s k

/-! ### Commands in an evaluation (R94 to R96) -/

/-- FORCE e can be honoured (R93, R95). -/
def forceAdmits (s : State) (k : ShelfId) (e : EntryId) : Bool :=
  let h := s.shelves[k]
  let c := h.entries[e].slot
  decide (h.entries[e].priority ≠ 0) && !h.entries[e].lockout &&
    (decide (s.cands[c].state = .available) || decide (s.cands[c].state = .suspect)) && !loopExcluded s k c

/-- MANUAL e can be honoured (R93, R96). -/
def manualAdmits (s : State) (k : ShelfId) (e : EntryId) : Bool :=
  eligible s k e && !outranked s k s.shelves[k].entries[e].slot

/-- Whether the evaluation of shelf k drops its MANUAL command (R96). -/
def dropsManual (s : State) (k : ShelfId) : Bool :=
  match s.shelves[k].command with
  | .manual e => !manualAdmits s k e
  | _ => false

/-- The target that an evaluation of shelf k computes (R91, R94, R95, R96). -/
def computeTarget (s : State) (k : ShelfId) : Option Slot :=
  match s.shelves[k].command with
  | .none => autoTarget s k
  | .hold => none
  | .force e => if forceAdmits s k e then some s.shelves[k].entries[e].slot else none
  | .manual e => if manualAdmits s k e then some s.shelves[k].entries[e].slot else autoTarget s k

/-- The computed target with the candidate's current kind and source shelf (R92). The source shelf of a record of
another kind than SHELF is stored as 0 (R80). -/
def freezeTarget (s : State) (c : Slot) : Target :=
  { slot := c, kind := s.cands[c].kind, source := if s.cands[c].kind = .shelf then s.cands[c].source else 0 }

/-- The computed target compared with the record and applied (R92). -/
def applyTarget (k : ShelfId) (t : Option Slot) (s : State) : State :=
  let new := t.map (freezeTarget s)
  if new = s.shelves[k].target then s
  else if t = targetSlot s k then requestCascade k (s.setShelf k { s.shelves[k] with target := new })
  else changeTarget k new s

/-! ### Evaluation (R85, R86) -/

/-- The mark note is applied: its slot is the target and the slice is not SETTLING or LOCKED (R86). -/
def applyMark (k : ShelfId) (mark : Option Slot) (s : State) : State :=
  match mark with
  | none => s
  | some c =>
    if targetSlot s k = some c ∧ s.slices[k].timing ≠ .settling ∧ s.slices[k].timing ≠ .locked then
      s.setShelf k { s.shelves[k] with failed := s.shelves[k].failed.set c true }
    else s

/-- MANUAL is dropped: the command becomes NONE and COMMAND_DROPPED is raised (R96). -/
def dropManual (k : ShelfId) (s : State) : State :=
  raiseEdge (shelfLatch 3 k) (s.setShelf k { s.shelves[k] with command := .none })

/-- The evaluation of shelf k with its mark note (R85 to R96). -/
def evaluate (k : ShelfId) (mark : Option Slot) (s : State) : State :=
  if s.slices[k].timing = .parked then s
  else
    let s1 := applyMark k mark s
    let t := computeTarget s1 k
    let s2 := if dropsManual s1 k then dropManual k s1 else s1
    applyTarget k t s2

/-- The waiting management operation is to be served next: the count has reached E, or the queue is empty (R83). -/
def operationTurn (s : State) : Bool := decide (s.engine.budget ≤ s.engine.count) || s.engine.queue.isEmpty

/-- The engine arbiter serves the head of the evaluation queue, unless a waiting management operation is to be served
first; the count rises by one, stopping at 8 (R83). -/
def serveEvaluation (s : State) : State :=
  match s.engine.queue with
  | [] => s
  | e :: rest =>
    if decide (s.agent.phase = .engineOp) && operationTurn s then s
    else
      evaluate e.shelf e.mark
        (s.setEngine { s.engine with queue := rest, count := min Config.countStop (s.engine.count + 1) })

/-- EVALUATION (R83, R85). -/
def execEvaluation (s : State) : Host.Outcome State Fault Refusal := .next (serveEvaluation s)

/-! ### List entry writes (R78) -/

/-- Another entry of shelf k than e holds the slot with nonzero priority (R78). -/
def duplicates (h : Shelf) (e : EntryId) (w : Entry) : Bool :=
  decide (w.priority ≠ 0) &&
    (List.finRange 8).any fun j =>
      decide (j ≠ e) && decide (h.entries[j].priority ≠ 0) && decide (h.entries[j].slot = w.slot)

/-- The command after a write of entry e: dropped when it names the entry and the write changes its slot or priority or
sets its lockout (R78). -/
def commandAfterWrite (c : Command) (e : EntryId) (old new : Entry) : Command :=
  if (c = .force e ∨ c = .manual e) ∧ (new.slot ≠ old.slot ∨ new.priority ≠ old.priority ∨ (new.lockout ∧ ¬old.lockout))
  then .none else c

/-- The lock-failed set with every slot removed that the list no longer lists (R78). -/
def pruneFailed (h : Shelf) : Vector Bool 24 := Vector.ofFn fun n => h.failed[n] && h.lists n

/-- The write of one entry of shelf k, when it is not refused (R78). -/
def writeEntry (k : ShelfId) (e : EntryId) (w : Entry) (s : State) : State :=
  let old := s.shelves[k].entries[e]
  if w = old then s
  else
    let s1 := s.setShelf k { s.shelves[k] with entries := s.shelves[k].entries.set e w }
    let s2 :=
      if old.priority ≠ 0 ∧ targetSlot s k = some old.slot ∧ (w.slot ≠ old.slot ∨ w.priority = 0) then
        changeTarget k none s1
      else s1
    let h := { s2.shelves[k] with command := commandAfterWrite s2.shelves[k].command e old w }
    requestEvaluation k none (raiseListChange k (s2.setShelf k { h with failed := pruneFailed h }))

/-! ### Settings, commands and marks (R79, R93 to R100, R105) -/

/-- The selection settings of shelf k are stored, and the shelf is queued if they changed (R79). -/
def writeSelection (k : ShelfId) (w : Selection) (s : State) : State :=
  if w = s.shelves[k].sel then s
  else requestEvaluation k none (s.setShelf k { s.shelves[k] with sel := w })

/-- The precedence of a command (Table 5-3). -/
def precedence : Command → Nat
  | .none => 1
  | .manual _ => 2
  | .force _ => 3
  | .hold => 4

/-- The command of shelf k becomes `c`; the shelf is queued if it changed (R93, R97). -/
def setCommand (k : ShelfId) (c : Command) (s : State) : State :=
  if c = s.shelves[k].command then s
  else requestEvaluation k none (s.setShelf k { s.shelves[k] with command := c })

/-- The refusal that HOLD, FORCE or MANUAL meets, by the checks of R93 in their order. -/
def commandRefusal (k : ShelfId) (c : Command) (s : State) : Option Status :=
  if s.slices[k].timing = .parked then some .parked
  else if precedence c < precedence s.shelves[k].command then some .preempted
  else
    match c with
    | .force e => if forceAdmits s k e then none else some .notEligible
    | .manual e => if manualAdmits s k e then none else some .notEligible
    | .none => none
    | .hold => none

/-- LOCKOUT e on or off (R98). -/
def setLockout (k : ShelfId) (e : EntryId) (on : Bool) (s : State) : State :=
  let h := s.shelves[k]
  if h.entries[e].lockout = on then s
  else
    let command := if h.command = .force e ∨ h.command = .manual e then .none else h.command
    requestEvaluation k none
      (raiseListChange k
        (s.setShelf k { h with entries := h.entries.set e { h.entries[e] with lockout := on }, command := command }))

/-- The lock-failed set of shelf k is emptied, and the shelf queued if it held any slot (R100). -/
def clearMarks (k : ShelfId) (s : State) : State :=
  if (List.finRange 24).any fun n => s.shelves[k].failed[n] then
    requestEvaluation k none (s.setShelf k { s.shelves[k] with failed := Vector.replicate 24 false })
  else s

/-- The target record of shelf k becomes NONE without a target change to the slice: TARGET and the requests to the other
shelves follow when it was not NONE (R102, R104). -/
def withdrawTarget (k : ShelfId) (s : State) : State :=
  match s.shelves[k].target with
  | none => s
  | some _ => requestCascade k (raiseEdge (shelfLatch 0 k) (s.setShelf k { s.shelves[k] with target := none }))

/-- The engine half of PARK (R102). -/
def parkEngine (k : ShelfId) (s : State) : State := if s.slices[k].timing = .parked then s else withdrawTarget k s

/-- The engine half of a slice reset (R104). -/
def resetEngineHalf (k : ShelfId) (s : State) : State :=
  let s1 := withdrawTarget k s
  s1.setShelf k { s1.shelves[k] with command := .none, failed := Vector.replicate 24 false }

end Sys2Proof.Machine
end

