-- ==== Sys2Proof/Machine/Agent.lean ====
section
/-! DEFINITION. The Management Agent's service of the head request (Chapter 9): checks, answers, semaphores, and the
commands ANSWER_PLACED, REQUEST_TOO_SHORT and UNKNOWN_KIND. -/

namespace Sys2Proof.Machine

/-! ### Answers (R164, R165, R186) -/

/-- The Management Answer to a request (R165, R186, Table 10-7). -/
def answerFrame (s : State) (r : Request) (st : Status) (body : List Byte) : Frame :=
  buildFrame r.source s.lane.strap kindAnswer (r.tag ++ [byteOf r.kind, byteOf (statusCode st)] ++ body)

/-- The head request leaves the request queue, and the agent takes up the phase given. -/
def dequeueRequest (phase : Phase) (s : State) : State :=
  (s.setLane { s.lane with requests := s.lane.requests.tail }).setAgent { s.agent with phase := phase }

/-- An answer is offered to the CONTROL local outbound queue: taken, its request leaves the request queue (R10, R164),
and after the RESTART answer no request is served (R181); refused, the answer waits (R13). -/
def placeAnswer (a : OutFrame) (s : State) : State :=
  let r := offerControl a s
  if r.2 then dequeueRequest (if a.isRestartAnswer then .restarting else .ready) r.1
  else s.setAgent { s.agent with phase := .answerWaiting a }

/-- What serving a request leaves: the state, the answer's status and the answer's body. -/
structure Served where
  state : State
  status : Status
  body : List Byte
  deriving DecidableEq, Repr

/-- The request is answered (R164, R165). -/
def answer (r : Request) (o : Served) : State :=
  placeAnswer { bytes := answerFrame o.state r o.status o.body, isRestartAnswer := false } o.state

/-- DONE_CLAMPED when a value was clamped, otherwise DONE (R166). -/
def doneStatus (clamped : Bool) : Status := if clamped then .doneClamped else .done

/-! ### The checks of R166 -/

/-- Checks 2 to 4: length, index and value, the first that fails deciding (R166). -/
def checkBody (length index value : Bool) : Option Status :=
  if !length then some .badLength else if !index then some .badIndex else if !value then some .badValue else none

/-- The holder of a bank's semaphore, when it is another address than the request's source (R169). -/
def otherHolder (bank : Fin 5) (r : Request) (s : State) : Option Address :=
  match s.agent.sems[bank] with
  | some a => if a = r.source then none else some a
  | none => none

/-- A refusal: its status and its body (R165). -/
abbrev RefusalAnswer := Status × List Byte

/-- The checks of a request that is subject to no semaphore. -/
def unguarded (c : Option Status) : Option RefusalAnswer := c.map fun st => (st, [])

/-- The checks of a request subject to the semaphore of a bank: HELD, with the holder's address, comes after the length,
index and value checks (R166, R169). -/
def guarded (bank : Fin 5) (c : Option Status) (r : Request) (s : State) : Option RefusalAnswer :=
  match c with
  | some st => some (st, [])
  | none => (otherHolder bank r s).map fun a => (.held, beBytes 2 a.toNat)

/-- The banks (Table 10-9). -/
def bankCandidates : Fin 5 := 0
def bankShelves : Fin 5 := 1
def bankPorts : Fin 5 := 2
def bankMaps : Fin 5 := 3
def bankNode : Fin 5 := 4

/-! ### Service by the agent and by the engine (R164, R83, R84) -/

/-- The agent takes the head request when it spells `row`: refused by a check, it is answered at once; else `run` serves
it and the answer is offered (R164). -/
def serveAgent (row : Instr) (check : Request → State → Option RefusalAnswer) (run : Request → State → Served)
    (s : State) : State :=
  match s.agent.phase, s.lane.requests with
  | .ready, f :: _ =>
    if requestRow f = row then
      match requestOf f with
      | none => s
      | some r =>
        match check r s with
        | some q => answer r { state := s, status := q.1, body := q.2 }
        | none => answer r (run r s)
    else s
  | _, _ => s

/-- The engine serves the waiting operation: the budget count becomes 0 (R83), and the answer is offered (R84). -/
def runOperation (run : Request → State → Served) (r : Request) (s : State) : State :=
  answer r (run r (s.setEngine { s.engine with count := 0 }))

/-- A request that is an engine management operation. When the agent takes it, the checks are made and it becomes the
engine's waiting operation (R164, R84); the engine serves it as soon as the arbiter's turn is its own (R83), in the
event that takes it or after the evaluations that come first. -/
def serveEngine (row : Instr) (check : Request → State → Option RefusalAnswer) (run : Request → State → Served)
    (s : State) : State :=
  match s.lane.requests with
  | [] => s
  | f :: _ =>
    if requestRow f = row then
      match requestOf f, s.agent.phase with
      | some r, .ready =>
        match check r s with
        | some q => answer r { state := s, status := q.1, body := q.2 }
        | none =>
          if operationTurn s then runOperation run r s else s.setAgent { s.agent with phase := .engineOp }
      | some r, .engineOp => if operationTurn s then runOperation run r s else s
      | _, _ => s
    else s

/-! ### ANSWER_PLACED, REQUEST_TOO_SHORT, UNKNOWN_KIND -/

/-- A waiting answer takes a freed place (R13). -/
def placeWaiting (s : State) : State :=
  match s.agent.phase with
  | .answerWaiting a => placeAnswer a s
  | _ => s

/-- ANSWER_PLACED (R13). With no answer waiting, or no place free, nothing is placed. -/
def execAnswerPlaced (s : State) : Host.Outcome State Fault Refusal := .next (placeWaiting s)

/-- A head request of fewer than three body bytes is consumed without an answer (R186). -/
def dropShortRequest (s : State) : State :=
  match s.agent.phase, s.lane.requests with
  | .ready, f :: _ => if requestRow f = .requestTooShort then dequeueRequest .ready s else s
  | _, _ => s

/-- REQUEST_TOO_SHORT (R186). -/
def execRequestTooShort (s : State) : Host.Outcome State Fault Refusal := .next (dropShortRequest s)

/-- UNKNOWN_KIND (R166, check 1). -/
def execUnknownKind (s : State) : Host.Outcome State Fault Refusal :=
  .next (serveAgent .unknownKind (fun _ _ => some (.unknownKind, [])) (fun _ t => ⟨t, .done, []⟩) s)

end Sys2Proof.Machine
end

