-- ==== Sys2Proof/Machine/Reads.lean ====
section
/-! DEFINITION. Identification, table reads and status reads (R33, R50, R73, R106, R128, R149, R161, R170 to R172), laid
out as Section 10.6 gives, and the commands IDENTIFY, READ_TABLE and READ_STATUS of a candidate, a shelf and a port. -/

namespace Sys2Proof.Machine

/-! ### IDENTIFY (R170) -/

/-- The body of the IDENTIFY answer (Table 10-11). -/
def identifyBody (s : State) : List Byte :=
  beBytes 2 Config.partCode ++ [byteOf Config.revision] ++ beBytes 2 s.lane.strap.toNat ++
    [flagsByte [s.agent.record.powerOn, s.agent.record.resetLine, s.agent.record.restartRequest]]

/-- IDENTIFY (R170). -/
def execIdentify (s : State) : Host.Outcome State Fault Refusal :=
  .next (serveAgent .identify (fun r _ => unguarded (checkBody (decide (r.body.length = 0)) true true))
    (fun _ t => ⟨t, .done, identifyBody t⟩) s)

/-! ### Table records (Table 10-12) -/

/-- A CANDIDATES record. -/
def candidateRecord (s : State) (n : Slot) : List Byte :=
  let c := s.cands[n]
  let g := s.grades[n]
  let i := s.inputs[n]
  [byteOf (kindCode c.kind), byteOf c.source.val] ++ beBytes 2 c.holdOffMs ++ beBytes 2 c.wtrS ++
    [flagsByte [c.maintHold, g.setRankOn], byteOf g.rmap.val, byteOf g.floor.val, byteOf g.setRank.val,
      byteOf g.assumedHops.val, byteOf g.timeoutS, byteOf i.windowLen] ++
    beBytes 2 i.acceptPpb ++ beBytes 2 i.rejectPpb

/-- A list entry in a SHELVES record. -/
def entryBytes (e : Entry) : List Byte := [byteOf e.slot.val, byteOf e.priority.val, flagsByte [e.lockout]]

/-- A SHELVES record: the eight entries, then bytes 2 to 14 of a WRITE_SHELF body. -/
def shelfRecord (s : State) (k : ShelfId) : List Byte :=
  let h := s.shelves[k]
  let c := s.slices[k].cfg
  (List.finRange 8).flatMap (fun e => entryBytes h.entries[e]) ++
    [byteOf (modeCode h.sel.mode), flagsByte [h.sel.revertive], byteOf h.sel.minRank.val, byteOf h.sel.hopLimit.val] ++
    beBytes 2 c.module.toNat ++
    [byteOf c.lockS, byteOf c.reportS, byteOf c.settleS, byteOf c.holdoverRank.val, byteOf c.freerunRank.val] ++
    beBytes 2 c.budgetMin

/-- A PORTS record. -/
def portRecord (s : State) (p : PortId) : List Byte :=
  let r := s.rxPorts[p]
  let t := s.txPorts[p]
  [flagsByte [r.inUse, r.absorb, t.pathOn], slotByte r.bound] ++ beBytes 2 t.address.toNat ++
    [byteOf t.tmap.val, byteOf t.squelch.val, byteOf t.fill.val, byteOf t.intervalS]

/-- A MAPS record. -/
def mapRecord (m : GradeMap) : List Byte :=
  flagsByte [m.attached] :: (List.finRange 16).map fun i => byteOf m.entries[i].val

/-- The NODE record: the settings as stored, the device latches, the news flag and the resume point (R161). -/
def nodeRecord (s : State) : List Byte :=
  let e := s.events
  beBytes 6 s.baseTag.toNat ++ signedBytes 2 s.correction ++ [byteOf s.engine.budget] ++ beBytes 2 e.destination.toNat ++
    beBytes 2 e.enables.toNat ++ beBytes 2 e.levels.toNat ++ beBytes 2 e.spacingMs ++ [byteOf e.summaryS] ++
    ((List.finRange 3).map fun k => byteOf (latchCode e.latches[deviceLatch k])) ++
    [flagsByte [e.news]] ++
    (match e.resume with
    | some l => [byteOf ((latchKind l).val + 1), byteOf (latchIndex l)]
    | none => [0, 0])

/-- How many records a table holds (Table 9-4); none for an undefined table code. -/
def tableSize (table : Nat) : Option Nat :=
  match table with
  | 0 => some 24
  | 1 => some 16
  | 2 => some 256
  | 3 => some 8
  | 4 => some 1
  | _ => none

/-- The length of one record of a table (Table 10-12). -/
def recordLength (table : Nat) : Nat :=
  match table with
  | 0 => 17
  | 1 => 37
  | 2 => 8
  | 3 => 17
  | _ => 24

/-- Record i of a table. -/
def tableRecord (s : State) (table i : Nat) : List Byte :=
  match table with
  | 0 => candidateRecord s (Fin.ofNat 24 i)
  | 1 => shelfRecord s (Fin.ofNat 16 i)
  | 2 => portRecord s (Fin.ofNat 256 i)
  | 3 => if i < 4 then mapRecord s.rmaps[Fin.ofNat 4 i] else mapRecord s.tmaps[Fin.ofNat 4 (i - 4)]
  | _ => nodeRecord s

/-- How many records an answer returns: as many as asked for, as the table holds from the start index, and as fit whole
(R171). -/
def recordCount (table start count : Nat) : Nat :=
  min count (min ((tableSize table).getD 0 - start) (Config.recordSpace / recordLength table))

/-- The checks of READ_TABLE: an index outside the table, then an undefined table or a count of 0 or above 16 (R171). -/
def checkReadTable (r : Request) : Option Status :=
  checkBody (decide (r.body.length = 3))
    (match tableSize (byteAt r.body 0) with
      | some n => decide (byteAt r.body 1 < n)
      | none => true)
    ((tableSize (byteAt r.body 0)).isSome && decide (1 ≤ byteAt r.body 2) && decide (byteAt r.body 2 ≤ 16))

/-- The body of the READ_TABLE answer (R171, Table 10-11). -/
def readTableBody (s : State) (table start count : Nat) : List Byte :=
  let n := recordCount table start count
  [byteOf table, byteOf start, byteOf n] ++ (List.range n).flatMap fun i => tableRecord s table (start + i)

/-- READ_TABLE (R171). -/
def execReadTable (s : State) : Host.Outcome State Fault Refusal :=
  .next (serveAgent .readTable (fun r _ => unguarded (checkReadTable r))
    (fun r t => ⟨t, .done, readTableBody t (byteAt r.body 0) (byteAt r.body 1) (byteAt r.body 2)⟩) s)

/-! ### Status of a candidate (Table 10-13) -/

/-- The timer in use, its remaining time in units of 10 ms and the paused indication (R33). -/
def candTimerFields (s : State) (n : Slot) : Nat × Nat × Bool :=
  match s.cands[n].timer with
  | .none => (0, 0, false)
  | .holdOff due => (1, units10ms (due - s.osc), false)
  | .wtr due => (2, units10ms (due - s.osc), false)
  | .wtrPaused left => (2, units10ms left, true)

/-- The six bytes of an origin tag; zeros when it is absent (R187). -/
def originBytes : Option Origin → List Byte
  | some o => beBytes 6 o.tag.toNat
  | none => beBytes 6 0

/-- The index of the port entry that binds a slot; 0xFFFF for none (R187). -/
def portBytes : Option PortId → List Byte
  | some p => beBytes 2 p.val
  | none => beBytes 2 0xFFFF

/-- The candidate status fields from offset 2 (R33, R50, R73, R161). -/
def candidateStatus (s : State) (n : Slot) : List Byte :=
  let c := s.cands[n]
  let i := s.inputs[n]
  let g := s.grades[n]
  let t := candTimerFields s n
  [byteOf (candStateCode c.state), flagsByte [c.fresh, c.health, c.maintHold, t.2.2], byteOf t.1] ++ beBytes 4 t.2.1 ++
    [flagsByte [i.watched, i.active, i.offset.isSome, i.beyond, i.qualified, i.health, i.lastGate.isSome],
      byteOf i.window.length, byteOf i.windowLen] ++
    beBytes 4 (i.lastGate.getD 0) ++ signedBytes 4 (i.offset.getD 0) ++
    [byteOf (codeStateCode g.code),
      flagsByte
        [g.path.isSome, (g.path.map fun q => q.origin.isPartial).getD false, g.held, g.setRankOn, g.eff.origin.isSome,
          (g.eff.origin.map Origin.isPartial).getD false, g.timer.isSome]] ++
    originBytes (g.path.map PathBlock.origin) ++
    [byteOf ((g.path.map fun q => q.hop.val).getD 0), byteOf g.mapped.val, byteOf g.setRank.val, byteOf g.floor.val,
      byteOf g.eff.rank.val, byteOf g.eff.hop.val] ++
    originBytes g.eff.origin ++ beBytes 2 (timeLeft s.osc g.timer) ++ portBytes (portOf s.rxPorts n) ++
    ((List.finRange 4).map fun k => byteOf (latchCode s.events.latches[candLatch k n])) ++
    [flagsByte [s.events.copies[condNoticeLost n], s.events.copies[condFreqFail n]]]

/-! ### Status of a shelf (Table 10-14) -/

/-- The lock-failed slots in increasing order (R106). -/
def failedSlots (h : Shelf) : List Slot := (List.finRange 24).filter fun n => h.failed[n]

/-- Eight bytes of lock-failed slots, 0xFF in each unused place. -/
def failedBytes (h : Shelf) : List Byte :=
  ((failedSlots h).map (fun n => byteOf n.val) ++ List.replicate 8 (0xFF#8)).take 8

/-- The evaluation queue's entry for shelf k, if it stands there (R106). -/
def queueEntry (s : State) (k : ShelfId) : Option EvalEntry := s.engine.queue.find? fun e => decide (e.shelf = k)

/-- The last accepted report as bytes 1 to 4 of the Lock Report body; zeros when there is none (R187). -/
def reportBytes : Option Report → List Byte
  | some r => [r.echo, r.moduleState, flagsByte [r.holdoverReady], r.tracked]
  | none => [0, 0, 0, 0]

/-- The holdover clock in units of 10 ms, 0xFFFFFFFF once it passes that count; 0 when stopped (Table 10-14). -/
def holdoverUnits (s : State) (k : ShelfId) : Nat :=
  match s.slices[k].holdoverSince with
  | some since => min 0xFFFFFFFF (units10ms (s.osc - since))
  | none => 0

/-- The shelf status fields from offset 2 (R106, R128, R149, R161). -/
def shelfStatus (s : State) (k : ShelfId) : List Byte :=
  let h := s.shelves[k]
  let v := s.slices[k]
  let q := queueEntry s k
  let mark := q.bind EvalEntry.mark
  [slotByte (targetSlot s k), byteOf ((h.target.map fun t => kindCode t.kind).getD 0),
      byteOf ((h.target.map fun t => t.source.val).getD 0), byteOf (commandCode h.command), byteOf (commandEntry h.command),
      byteOf (failedSlots h).length] ++
    failedBytes h ++
    [flagsByte [q.isSome, mark.isSome], byteOf ((mark.map Fin.val).getD 0), byteOf (timingCode v.timing), slotByte v.target,
      v.seq, byteOf (actionCode v.action), byteOf (actionInput v.action),
      flagsByte
        [v.unsent, v.history, v.unreachable, v.lastReport.isSome, v.lockTimer.isSome, v.settleTimer.isSome,
          v.reportTimer.isSome, v.holdoverSince.isSome]] ++
    reportBytes v.lastReport ++ beBytes 2 (timeLeft s.osc v.lockTimer) ++ beBytes 2 (timeLeft s.osc v.settleTimer) ++
    beBytes 2 (timeLeft s.osc v.reportTimer) ++ beBytes 4 (holdoverUnits s k) ++
    [byteOf v.triple.rank.val, byteOf v.triple.hop.val] ++ beBytes 6 v.triple.origin.tag.toNat ++
    [flagsByte [v.triple.origin.isPartial, v.exhausted]] ++
    ((List.finRange 6).map fun j => byteOf (latchCode s.events.latches[shelfLatch j k])) ++
    [flagsByte [s.events.copies[condModuleSilent k], s.events.copies[condGroup k]]]

/-! ### Status of a port (Table 10-15) -/

/-- Nine bytes of a content: flags, code, hop and origin; zeros when there is none (Table 10-15, R187). -/
def contentBytes : Option Content → List Byte
  | none => flagsByte [false] :: List.replicate 8 (0x00#8)
  | some c =>
    match c.path with
    | none => [flagsByte [true], byteOf c.code.val, 0] ++ beBytes 6 0
    | some q =>
      [flagsByte [true, true, q.origin.isPartial], byteOf c.code.val, byteOf q.hop.val] ++ beBytes 6 q.origin.tag.toNat

/-- The code state of the bound slot; 0xFF when no slot is bound (Table 10-15, R73). -/
def boundCode (s : State) (p : PortId) : Byte :=
  match s.rxPorts[p].bound with
  | some c => byteOf (codeStateCode s.grades[c].code)
  | none => 0xFF

/-- The current content of a port: what R140 builds now for a port in use, none for one out of use (R149). -/
def currentContent (s : State) (p : PortId) : Option Content :=
  if s.txPorts[p].inUse then some (portContent s p) else none

/-- The port status fields from offset 2 (R73, R149). -/
def portStatus (s : State) (p : PortId) : List Byte :=
  let r := s.rxPorts[p]
  let t := s.txPorts[p]
  [flagsByte [r.inUse, r.absorb], slotByte r.bound, boundCode s p] ++ contentBytes (currentContent s p) ++
    contentBytes t.lastSent ++
    [(match t.heldCode with
      | some c => byteOf c.val
      | none => 0xFF), flagsByte [t.periodic.isSome, t.changePending]] ++
    beBytes 2 (timeLeft s.osc t.periodic) ++ [byteOf t.count]

/-! ### READ_STATUS (R172) -/

/-- The checks of READ_STATUS: the index in the object's range, then the object code (R172). -/
def checkReadStatus (r : Request) : Option Status :=
  let object := byteAt r.body 0
  checkBody (decide (r.body.length = 2))
    (if object = 0 then decide (byteAt r.body 1 < 24) else if object = 1 then decide (byteAt r.body 1 < 16) else true)
    (decide (object < 3))

/-- The service of a READ_STATUS row: the object, the index and the fields (Table 10-11). -/
def serveStatus (row : Instr) (fields : State → Nat → List Byte) (s : State) : State :=
  serveAgent row (fun r _ => unguarded (checkReadStatus r))
    (fun r t => ⟨t, .done, [byteOf (byteAt r.body 0), byteOf (byteAt r.body 1)] ++ fields t (byteAt r.body 1)⟩) s

/-- READ_STATUS of a candidate (R33, R172). -/
def execReadStatusCandidate (s : State) : Host.Outcome State Fault Refusal :=
  .next (serveStatus .readStatusCandidate (fun t i => candidateStatus t (Fin.ofNat 24 i)) s)

/-- READ_STATUS of a shelf (R106, R172). -/
def execReadStatusShelf (s : State) : Host.Outcome State Fault Refusal :=
  .next (serveStatus .readStatusShelf (fun t i => shelfStatus t (Fin.ofNat 16 i)) s)

/-- READ_STATUS of a port (R149, R172). -/
def execReadStatusPort (s : State) : Host.Outcome State Fault Refusal :=
  .next (serveStatus .readStatusPort (fun t i => portStatus t (Fin.ofNat 256 i)) s)

end Sys2Proof.Machine
end

