-- ==== Sys2Proof/Machine/Writes.lean ====
section
/-! DEFINITION. Table writes (R173 to R177): WRITE_CANDIDATE, WRITE_LIST_ENTRY, WRITE_SHELF, WRITE_PORTS, WRITE_MAP,
DETACH_MAP, ATTACH_MAP and WRITE_NODE, with the clamps of Table 9-2. -/

namespace Sys2Proof.Machine

/-! ### WRITE_CANDIDATE (R173) -/

/-- The hold-off as stored: at most 2,550 ms, on the 10 ms step (R18). -/
def storedHoldOff (n : Nat) : Nat := min n 2550 / 10 * 10

/-- The window W as stored (R47). -/
def storedWindow (n : Nat) : Nat := max 1 (min n 16)

/-- A frequency limit as stored (R48). -/
def storedLimit (n : Nat) : Nat := min n 20000

/-- The notice timeout as stored (R67). -/
def storedTimeout (n : Nat) : Nat := max 2 (min n 30)

/-- The binding fields of a WRITE_CANDIDATE body (Table 10-10), stored under R18. -/
def bindingOf (b : List Byte) : BindingWrite :=
  { kind := kindOfCode (byteAt b 1)
    source := Fin.ofNat 16 (byteAt b 2)
    holdOffMs := storedHoldOff (numAt b 3 2)
    wtrS := min (numAt b 5 2) 1200
    maintHold := bitAt b 7 0 }

/-- The grade settings of a WRITE_CANDIDATE body, stored under R67. -/
def gradeOf (b : List Byte) : GradeWrite :=
  { rmap := Fin.ofNat 4 (byteAt b 8)
    floor := Fin.ofNat 16 (byteAt b 9)
    setRank := Fin.ofNat 16 (byteAt b 10)
    setRankOn := bitAt b 7 1
    assumedHops := Fin.ofNat 32 (min (byteAt b 11) 31)
    timeoutS := storedTimeout (byteAt b 12) }

/-- The frequency settings of a WRITE_CANDIDATE body, stored under R47 and R48. -/
def frequencyOf (b : List Byte) : FrequencyWrite :=
  { windowLen := storedWindow (byteAt b 13)
    acceptPpb := storedLimit (numAt b 14 2)
    rejectPpb := max (storedLimit (numAt b 14 2)) (storedLimit (numAt b 16 2)) }

/-- Whether a WRITE_CANDIDATE stores any value clamped (Table 9-2). -/
def candidateClamped (b : List Byte) : Bool :=
  decide ((bindingOf b).holdOffMs ≠ numAt b 3 2) || decide ((bindingOf b).wtrS ≠ numAt b 5 2) ||
    decide (31 < byteAt b 11) || decide ((gradeOf b).timeoutS ≠ byteAt b 12) ||
    decide ((frequencyOf b).windowLen ≠ byteAt b 13) || decide ((frequencyOf b).acceptPpb ≠ numAt b 14 2) ||
    decide ((frequencyOf b).rejectPpb ≠ numAt b 16 2)

/-- The checks of WRITE_CANDIDATE (R166, R18, R67). -/
def checkWriteCandidate (r : Request) : Option Status :=
  let b := r.body
  checkBody (decide (b.length = 18))
    (decide (byteAt b 0 < 24) && decide (byteAt b 2 < 16) && decide (byteAt b 8 < 4))
    (decide (byteAt b 1 < 4) && decide (byteAt b 9 < 16) && decide (byteAt b 10 < 16))

/-- The health reports of slot n that are still in flight are consumed without effect: the write that binds the slot to NONE
was taken before them, so each finds the candidate IDLE (R19). That they are consumed in the write itself, and so cannot
reach a later binding of the slot, is DEDUCED (log entry 26). -/
def consumeReports (n : Slot) (s : State) : State :=
  s.setFlight { s.flight with health := s.flight.health.filter fun r => decide (r.1 ≠ n) }

/-- Watching begins when a slot is bound from NONE and stops when it is bound to NONE; FREQ_FAIL goes absent, no health
report is sent, and at a stop those in flight are consumed (R19, R36, R46). -/
def watchInput (n : Slot) (was now : Bool) (s : State) : State :=
  if was = now then s
  else
    raiseCondition (condFreqFail n) s.inputs[n].freqFail false
      ((if now then s else consumeReports n s).setInput n (s.inputs[n].watch now))

/-- The Candidate Manager's part of a WRITE_CANDIDATE, with the start or stop of watching (R18 to R28, R36). At a binding
to NONE the CAND_STATE occurrence, with the Event Notice that it may send, comes before FREQ_FAIL goes absent; R30, R46
and R152 give these two no order, which is a DESIGN CHOICE (log entry 17). -/
def writeBinding (n : Slot) (w : BindingWrite) (s : State) : State :=
  let c := s.cands[n]
  watchInput n (decide (c.kind ≠ .none)) (decide (w.kind ≠ .none)) (commitCand n (c.write s.osc w) (c.rebinds w) s)

/-- The Grade Receiver's part of a WRITE_CANDIDATE; `rebinding` says whether the write changed the kind or the source
shelf (R66, R67, R72). -/
def writeGrade (n : Slot) (w : GradeWrite) (rebinding : Bool) (s : State) : State :=
  commitGrade n
    (s.grades[n].write s.osc s.rmaps[w.rmap] (decide (s.cands[n].kind = .line)) (portOf s.rxPorts n).isSome rebinding w) s

/-- A WRITE_CANDIDATE applied by its three owners (R173). The order among them is a DESIGN CHOICE (log entry 10). -/
def writeCandidate (n : Slot) (bw : BindingWrite) (gw : GradeWrite) (fw : FrequencyWrite) (s : State) : State :=
  let c := s.cands[n]
  let s1 := writeGrade n gw (decide (c.kind ≠ bw.kind) || c.rebinds bw) (writeBinding n bw s)
  s1.setInput n (s1.inputs[n].write fw)

/-- WRITE_CANDIDATE (R173). -/
def execWriteCandidate (s : State) : Host.Outcome State Fault Refusal :=
  .next (serveAgent .writeCandidate (fun r t => guarded bankCandidates (checkWriteCandidate r) r t)
    (fun r t =>
      { state := writeCandidate (Fin.ofNat 24 (byteAt r.body 0)) (bindingOf r.body) (gradeOf r.body) (frequencyOf r.body) t
        status := doneStatus (candidateClamped r.body)
        body := [byteOf (byteAt r.body 0)] }) s)

/-! ### Shelf-masked requests (R174) -/

/-- The shelf mask at the head of a request body (R187). -/
def maskOf (b : List Byte) : BitVec 16 := BitVec.ofNat 16 (numAt b 0 2)

/-- `f` for every masked shelf in increasing shelf number (R174). -/
def overMask (m : BitVec 16) (f : ShelfId → State → State) (s : State) : State :=
  overShelves (fun k t => if m.getLsbD k.val then f k t else t) s

/-- The body of a shelf-masked answer: masks of shelves applied and refused, and the reason (Table 10-11). -/
def maskBody (applied refused : BitVec 16) (reason : Nat) : List Byte :=
  maskBytes applied ++ maskBytes refused ++ [byteOf reason]

/-! ### WRITE_LIST_ENTRY (R78, R174) -/

/-- The entry that a WRITE_LIST_ENTRY carries (Table 10-10). -/
def entryOf (b : List Byte) : Entry :=
  { slot := Fin.ofNat 24 (byteAt b 3), priority := Fin.ofNat 16 (byteAt b 4), lockout := bitAt b 5 0 }

/-- The checks of WRITE_LIST_ENTRY (R78, R166). -/
def checkWriteListEntry (r : Request) : Option Status :=
  let b := r.body
  checkBody (decide (b.length = 6)) (decide (byteAt b 2 < 8) && decide (byteAt b 3 < 24)) (decide (byteAt b 4 < 16))

/-- The masked shelves that refuse the write with DUPLICATE, as a mask. A write to one shelf changes no other shelf's
list, so each shelf's check reads its own list as it stood (R78). -/
def refusedMask (m : BitVec 16) (e : EntryId) (w : Entry) (s : State) : BitVec 16 :=
  (List.finRange 16).foldl
    (fun acc k => if m.getLsbD k.val && duplicates s.shelves[k] e w then acc ||| BitVec.twoPow 16 k.val else acc) 0

/-- The status of a WRITE_LIST_ENTRY by the shelves masked and refused (R174). -/
def listWriteStatus (m refused : BitVec 16) : Status :=
  if refused = 0 then .done else if refused = m then .duplicate else .partialDone

/-- The engine serves a WRITE_LIST_ENTRY (R78, R174). -/
def runWriteListEntry (r : Request) (s : State) : Served :=
  let m := maskOf r.body
  let e : EntryId := Fin.ofNat 8 (byteAt r.body 2)
  let w := entryOf r.body
  let refused := refusedMask m e w s
  { state := overMask (m &&& ~~~refused) (fun k t => writeEntry k e w t) s
    status := listWriteStatus m refused
    body := maskBody (m &&& ~~~refused) refused (if refused = 0 then 0 else statusCode .duplicate) }

/-- WRITE_LIST_ENTRY (R78). -/
def execWriteListEntry (s : State) : Host.Outcome State Fault Refusal :=
  .next (serveEngine .writeListEntry (fun r t => guarded bankShelves (checkWriteListEntry r) r t) runWriteListEntry s)

/-! ### WRITE_SHELF (R79, R109, R133, R174) -/

/-- The minimum acceptable rank as stored: 15 is stored as 14; a byte above 15 is stored as 14 too (R79, log entry
13). -/
def storedMinRank (n : Nat) : Rank := Fin.ofNat 16 (min n 14)

/-- The selection settings of a WRITE_SHELF body (R79). -/
def selectionOf (b : List Byte) : Selection :=
  { mode := if byteAt b 2 = 1 then .priority else .auto
    revertive := bitAt b 3 0
    minRank := storedMinRank (byteAt b 4)
    hopLimit := Fin.ofNat 32 (max 1 (min (byteAt b 5) 31)) }

/-- The slice timing settings of a WRITE_SHELF body, the freerun rank never below the holdover rank (R109, R133). -/
def sliceSettingsOf (b : List Byte) : SliceSettings :=
  { module := addressAt b 6
    lockS := max 1 (byteAt b 8)
    reportS := max 1 (min (byteAt b 9) 30)
    settleS := byteAt b 10
    holdoverRank := Fin.ofNat 16 (byteAt b 11)
    freerunRank := Fin.ofNat 16 (max (byteAt b 11) (byteAt b 12))
    budgetMin := numAt b 13 2 }

/-- Whether a WRITE_SHELF stores any value clamped (Table 9-2). -/
def shelfClamped (b : List Byte) : Bool :=
  decide (14 < byteAt b 4) || decide (byteAt b 5 = 0) || decide (31 < byteAt b 5) || decide (byteAt b 8 = 0) ||
    decide (byteAt b 9 = 0) || decide (30 < byteAt b 9) || decide (byteAt b 12 < byteAt b 11)

/-- The checks of WRITE_SHELF (R79, R133, R166). -/
def checkWriteShelf (r : Request) : Option Status :=
  let b := r.body
  checkBody (decide (b.length = 15)) true
    (decide (byteAt b 2 < 2) && decide (byteAt b 11 < 16) && decide (byteAt b 12 < 16) && decide (numAt b 13 2 ≤ 1440))

/-- The engine serves a WRITE_SHELF: for each masked shelf its selection settings, then its slice settings. A mask with no
shelf set stores nothing, clamped or not, and is answered DONE (R174). -/
def runWriteShelf (r : Request) (s : State) : Served :=
  { state :=
      overMask (maskOf r.body)
        (fun k t => writeSlice k (sliceSettingsOf r.body) (writeSelection k (selectionOf r.body) t)) s
    status := doneStatus (shelfClamped r.body && decide (maskOf r.body ≠ 0))
    body := maskBody (maskOf r.body) 0 0 }

/-- WRITE_SHELF (R174). -/
def execWriteShelf (s : State) : Host.Outcome State Fault Refusal :=
  .next (serveEngine .writeShelf (fun r t => guarded bankShelves (checkWriteShelf r) r t) runWriteShelf s)

/-! ### WRITE_PORTS (R53, R54, R138, R175) -/

/-- The block length of a WRITE_PORTS body. -/
def blockLength (b : List Byte) : Nat := byteAt b 1

/-- The effective start: the start index rounded down to a multiple of the block length (R175). -/
def effectiveStart (b : List Byte) : Nat := byteAt b 0 / blockLength b * blockLength b

/-- The eight bytes of entry i of a WRITE_PORTS body (Table 10-10). -/
def portEntryBytes (b : List Byte) (i : Nat) : List Byte := (b.drop (2 + 8 * i)).take 8

/-- Whether a port lies in the block that starts at the effective start (R175). -/
def inBlock (b : List Byte) (p : PortId) : Bool :=
  decide (effectiveStart b ≤ p.val) && decide (p.val < effectiveStart b + blockLength b)

/-- The eight bytes written to port p. -/
def entryFor (b : List Byte) (p : PortId) : List Byte := portEntryBytes b (p.val - effectiveStart b)

/-- The receive half of a port entry: an entry not in use binds none (R53). -/
def rxOf (e : List Byte) : RxPort :=
  { inUse := bitAt e 0 0
    bound := if bitAt e 0 0 && decide (byteAt e 1 < 24) then some (Fin.ofNat 24 (byteAt e 1)) else none
    absorb := bitAt e 0 1 }

/-- The notice interval as stored (R138). -/
def storedInterval (n : Nat) : Nat := max 1 (min n 10)

/-- The transmit half of a port entry (R138). -/
def txOf (e : List Byte) : TxWrite :=
  { address := addressAt e 2
    tmap := Fin.ofNat 4 (byteAt e 4)
    squelch := Fin.ofNat 16 (byteAt e 5)
    fill := Fin.ofNat 16 (byteAt e 6)
    intervalS := storedInterval (byteAt e 7)
    pathOn := bitAt e 0 2 }

/-- The indexes of a port entry are in range: the bound candidate of an entry in use, and the transmit map (R53,
R138). -/
def entryIndexOk (e : List Byte) : Bool :=
  (!bitAt e 0 0 || decide (byteAt e 1 < 24) || decide (byteAt e 1 = 0xFF)) && decide (byteAt e 4 < 4)

/-- The values of a port entry are in range (R138). -/
def entryValueOk (e : List Byte) : Bool := decide (byteAt e 5 < 16) && decide (byteAt e 6 < 16)

/-- The checks of WRITE_PORTS (R166, R175). -/
def checkWritePorts (r : Request) : Option Status :=
  let b := r.body
  let len := blockLength b
  checkBody
    (decide (len = 1 ∨ len = 4 ∨ len = 16) && decide (b.length = 2 + 8 * len))
    ((List.range len).all fun i => entryIndexOk (portEntryBytes b i))
    ((List.range len).all fun i => entryValueOk (portEntryBytes b i))

/-- The receive halves as they stand once the block is written (R54). -/
def writtenPorts (b : List Byte) (ports : Vector RxPort 256) : Vector RxPort 256 :=
  Vector.ofFn fun p : PortId => if inBlock b p then rxOf (entryFor b p) else ports[p]

/-- Whether a notice interval of the block is stored clamped (R175). -/
def portsClamped (b : List Byte) : Bool :=
  (List.range (blockLength b)).any fun i =>
    decide (storedInterval (byteAt (portEntryBytes b i) 7) ≠ byteAt (portEntryBytes b i) 7)

/-- The block applied: the receive halves first, then the transmit halves in table order (R175). -/
def applyPorts (b : List Byte) (s : State) : State :=
  overPorts (fun p t => if inBlock b p then writeTransmitHalf p (txOf (entryFor b p)) t else t)
    (writeReceiveHalves (writtenPorts b s.rxPorts) s)

/-- The agent serves a WRITE_PORTS: refused with IN_CONFLICT when two in-use entries would name one slot (R54). -/
def runWritePorts (r : Request) (s : State) : Served :=
  if (boundSlots (writtenPorts r.body s.rxPorts)).Nodup then
    { state := applyPorts r.body s
      status := doneStatus (portsClamped r.body)
      body := [byteOf (effectiveStart r.body)] }
  else { state := s, status := .inConflict, body := [] }

/-- WRITE_PORTS (R175). -/
def execWritePorts (s : State) : Host.Outcome State Fault Refusal :=
  .next (serveAgent .writePorts (fun r t => guarded bankPorts (checkWritePorts r) r t) runWritePorts s)

/-! ### Maps (R63 to R65, R146, R147, R176) -/

/-- The map number of a map request. -/
def mapOf (b : List Byte) : MapId := Fin.ofNat 4 (byteAt b 1)

/-- The 16 entries of a WRITE_MAP body (Table 10-10). -/
def mapEntries (b : List Byte) : Vector (Fin 16) 16 := Vector.ofFn fun i => Fin.ofNat 16 (byteAt b (2 + i.val))

/-- The checks of WRITE_MAP (R166, R176). -/
def checkWriteMap (r : Request) : Option Status :=
  let b := r.body
  checkBody (decide (b.length = 18)) (decide (byteAt b 1 < 4))
    (decide (byteAt b 0 < 2) && (List.range 16).all fun i => decide (byteAt b (2 + i) < 16))

/-- The checks of DETACH_MAP and ATTACH_MAP (R166, R176). -/
def checkMap (r : Request) : Option Status :=
  checkBody (decide (r.body.length = 2)) (decide (byteAt r.body 1 < 4)) (decide (byteAt r.body 0 < 2))

/-- The answer body of a map request: direction and map number (R176). -/
def mapBody (b : List Byte) : List Byte := [byteOf (byteAt b 0), byteOf (byteAt b 1)]

/-- WRITE_MAP of a receive map: refused while attached, else the entries are stored (R63). -/
def runWriteReceiveMap (r : Request) (s : State) : Served :=
  let m := mapOf r.body
  if s.rmaps[m].attached then { state := s, status := .notDetached, body := [] }
  else
    { state := { s with rmaps := s.rmaps.set m { s.rmaps[m] with entries := mapEntries r.body } }
      status := .done
      body := mapBody r.body }

/-- WRITE_MAP of a transmit map: refused while attached, else the entries are stored (R146). -/
def runWriteTransmitMap (r : Request) (s : State) : Served :=
  let m := mapOf r.body
  if s.tmaps[m].attached then { state := s, status := .notDetached, body := [] }
  else
    { state := { s with tmaps := s.tmaps.set m { s.tmaps[m] with entries := mapEntries r.body } }
      status := .done
      body := mapBody r.body }

/-- WRITE_MAP with direction receive (R63, R176). -/
def execWriteReceiveMap (s : State) : Host.Outcome State Fault Refusal :=
  .next (serveAgent .writeReceiveMap (fun r t => guarded bankMaps (checkWriteMap r) r t) runWriteReceiveMap s)

/-- WRITE_MAP with direction transmit (R146, R176). -/
def execWriteTransmitMap (s : State) : Host.Outcome State Fault Refusal :=
  .next (serveAgent .writeTransmitMap (fun r t => guarded bankMaps (checkWriteMap r) r t) runWriteTransmitMap s)

/-- The service of a DETACH_MAP or ATTACH_MAP row: answered DONE whatever the map's state was (R176). -/
def serveMap (row : Instr) (act : MapId → State → State) (s : State) : State :=
  serveAgent row (fun r t => guarded bankMaps (checkMap r) r t)
    (fun r t => { state := act (mapOf r.body) t, status := .done, body := mapBody r.body }) s

/-- DETACH_MAP with direction receive (R64). -/
def execDetachReceiveMap (s : State) : Host.Outcome State Fault Refusal :=
  .next (serveMap .detachReceiveMap detachReceive s)

/-- ATTACH_MAP with direction receive (R65). -/
def execAttachReceiveMap (s : State) : Host.Outcome State Fault Refusal :=
  .next (serveMap .attachReceiveMap attachReceive s)

/-- DETACH_MAP with direction transmit (R146). -/
def execDetachTransmitMap (s : State) : Host.Outcome State Fault Refusal :=
  .next (serveMap .detachTransmitMap detachTransmit s)

/-- ATTACH_MAP with direction transmit (R147). -/
def execAttachTransmitMap (s : State) : Host.Outcome State Fault Refusal :=
  .next (serveMap .attachTransmitMap attachTransmit s)

/-! ### WRITE_NODE (R177) -/

/-- The node settings of a WRITE_NODE body, after the clamps of R49, R84, R135 and R160. -/
structure NodeWrite where
  baseTag : OriginTag
  correction : Int
  budget : Nat
  destination : Address
  enables : BitVec 13
  levels : BitVec 13
  spacingMs : Nat
  summaryS : Nat
  deriving DecidableEq, Repr

/-- The oscillator correction as stored (R49). -/
def storedCorrection (x : Int) : Int := max (-10000) (min 10000 x)

/-- The engine budget as stored (R84). -/
def storedBudget (n : Nat) : Nat := max 1 (min n 8)

/-- The notice spacing as stored: within 100 ms to 10 s, on the 10 ms step (R160). -/
def storedSpacing (n : Nat) : Nat := max 100 (min n 10000) / 10 * 10

/-- The fields of a WRITE_NODE body (Table 10-10); a mode bit of an edge kind is stored as EDGE (R155), and the base tag's
low 4 bits as zero (R135). -/
def nodeOf (b : List Byte) : NodeWrite :=
  { baseTag := BitVec.ofNat 48 (numAt b 0 6) &&& 0xFFFFFFFFFFF0#48
    correction := storedCorrection (signedAt b 6)
    budget := storedBudget (byteAt b 8)
    destination := addressAt b 9
    enables := BitVec.ofNat 13 (numAt b 11 2)
    levels := BitVec.ofNat 13 (numAt b 13 2) &&& conditionKinds
    spacingMs := storedSpacing (numAt b 15 2)
    summaryS := min (byteAt b 17) 60 }

/-- Whether a WRITE_NODE stores any value clamped, the low bits of the base tag apart (R177). -/
def nodeClamped (b : List Byte) : Bool :=
  decide ((nodeOf b).correction ≠ signedAt b 6) || decide ((nodeOf b).budget ≠ byteAt b 8) ||
    decide ((nodeOf b).spacingMs ≠ numAt b 15 2) || decide ((nodeOf b).summaryS ≠ byteAt b 17)

/-- The checks of WRITE_NODE: every range is clamped, so the length alone is checked (R166, R177). -/
def checkWriteNode (r : Request) : Option Status := checkBody (decide (r.body.length = 18)) true true

/-- Whether a write of enables and modes makes a latch SET: its kind becomes enabled in LEVEL mode, or stays enabled and
becomes LEVEL, with the condition present (R155). `old` holds the settings before the write and `new` those after. -/
def latchArms (old new : EventUnit) (l : LatchId) : Bool :=
  new.enabled l && new.isLevel l && new.present l && (!old.enabled l || !old.isLevel l)

/-- A latch after a write of enables and modes (R155). -/
def latchAfterWrite (old new : EventUnit) (l : LatchId) : Latch :=
  if latchArms old new l then .set
  else if new.enabled l && old.enabled l && decide (new.isLevel l = old.isLevel l) then old.latches[l]
  else .clear

/-- The Event Unit's part of a WRITE_NODE (R155, R160): every setting is stored, then the latch effects, the effect of a
changed destination and of a changed summary interval. -/
def EventUnit.write (now : Nat) (w : NodeWrite) (e : EventUnit) : EventUnit :=
  let e1 :=
    { e with
      enables := w.enables
      levels := w.levels
      destination := w.destination
      spacingMs := w.spacingMs
      summaryS := w.summaryS }
  let e2 :=
    { e1 with
      latches := Vector.ofFn (latchAfterWrite e e1)
      news := e.news || (List.finRange 195).any (latchArms e e1) }
  let e3 :=
    if w.destination = e.destination then e2
    else { e2 with resume := none, news := e2.news || !e2.standing.isEmpty }
  if w.summaryS = e.summaryS then e3
  else { e3 with summaryTimer := if w.summaryS = 0 then none else startMs now (w.summaryS * 1000) }

/-- A new origin base tag: every shelf is queued for evaluation in increasing order (R105), and every slice recomputes its
triple (R135). -/
def writeBaseTag (tag : OriginTag) (s : State) : State :=
  if tag = s.baseTag then s
  else
    overShelves (fun k t => retriple k false t)
      (overShelves (fun k t => requestEvaluation k none t) { s with baseTag := tag })

/-- A WRITE_NODE applied by its owners (R177): K, then E and the base tag at the engine and the slices, then the Event
Unit with its one sending decision (R160). The order among them is a DESIGN CHOICE (log entry 10). -/
def writeNode (w : NodeWrite) (s : State) : State :=
  let s1 := { s with correction := w.correction, engine := { s.engine with budget := w.budget } }
  let s2 := writeBaseTag w.baseTag s1
  sendDecision { s2 with events := s2.events.write s2.osc w }

/-- WRITE_NODE (R177). -/
def execWriteNode (s : State) : Host.Outcome State Fault Refusal :=
  .next (serveAgent .writeNode (fun r t => guarded bankNode (checkWriteNode r) r t)
    (fun r t => { state := writeNode (nodeOf r.body) t, status := doneStatus (nodeClamped r.body), body := [] }) s)

end Sys2Proof.Machine
end

