-- ==== Sys2Proof/Machine/Operations.lean ====
section
/-! DEFINITION. Semaphores, operator commands, SLICE, CLEAR_MARKS, ACK_EVENTS, RESTART and CLEAR_RESTART_RECORD (R168,
R178 to R181), and the Event Unit's timers: SPACING_TIMER_EXPIRY and SUMMARY_TIMER_EXPIRY (R159, R160). -/

namespace Sys2Proof.Machine

/-! ### Semaphores (R167, R168) -/

/-- The checks of TAKE and RELEASE (R166). -/
def checkBank (r : Request) : Option Status :=
  checkBody (decide (r.body.length = 1)) true (decide (byteAt r.body 0 < 5))

/-- TAKE: a FREE semaphore becomes HELD by the requester; a HELD one answers HELD with its holder (R168). -/
def runTake (r : Request) (s : State) : Served :=
  let bank : Fin 5 := Fin.ofNat 5 (byteAt r.body 0)
  match s.agent.sems[bank] with
  | none =>
    { state := s.setAgent { s.agent with sems := s.agent.sems.set bank (some r.source) }, status := .granted, body := [] }
  | some a => { state := s, status := .held, body := beBytes 2 a.toNat }

/-- RELEASE: the semaphore becomes FREE, whoever holds it (R168). -/
def runRelease (r : Request) (s : State) : Served :=
  { state := s.setAgent { s.agent with sems := s.agent.sems.set (Fin.ofNat 5 (byteAt r.body 0) : Fin 5) none }
    status := .done
    body := [] }

/-- TAKE (R168). -/
def execTake (s : State) : Host.Outcome State Fault Refusal :=
  .next (serveAgent .take (fun r _ => unguarded (checkBank r)) runTake s)

/-- RELEASE (R168). -/
def execRelease (s : State) : Host.Outcome State Fault Refusal :=
  .next (serveAgent .release (fun r _ => unguarded (checkBank r)) runRelease s)

/-! ### COMMAND (R93 to R98, R178) -/

/-- The shelf and the entry number of a COMMAND body (Table 10-10). -/
def commandShelf (r : Request) : ShelfId := Fin.ofNat 16 (byteAt r.body 0)
def commandEntryOf (r : Request) : EntryId := Fin.ofNat 8 (byteAt r.body 2)

/-- The checks of COMMAND that the agent makes: the entry number is checked whatever the action (R166, R178). -/
def checkCommand (r : Request) : Option Status :=
  checkBody (decide (r.body.length = 4)) (decide (byteAt r.body 0 < 16) && decide (byteAt r.body 2 < 8))
    (decide (1 ≤ byteAt r.body 1) && decide (byteAt r.body 1 ≤ 5))

/-- HOLD, FORCE or MANUAL as the engine serves it: refused by a check of R93, or replacing the present command. -/
def runCommand (c : Request → Command) (r : Request) (s : State) : Served :=
  match commandRefusal (commandShelf r) (c r) s with
  | some st => { state := s, status := st, body := [] }
  | none => { state := setCommand (commandShelf r) (c r) s, status := .done, body := [] }

/-- CLEAR or LOCKOUT as the engine serves it: refused on a parked shelf, else applied (R93, R97, R98). -/
def runUnranked (act : Request → State → State) (r : Request) (s : State) : Served :=
  if s.slices[commandShelf r].timing = .parked then { state := s, status := .parked, body := [] }
  else { state := act r s, status := .done, body := [] }

/-- COMMAND HOLD (R94). -/
def execCommandHold (s : State) : Host.Outcome State Fault Refusal :=
  .next (serveEngine .commandHold (fun r _ => unguarded (checkCommand r)) (runCommand fun _ => .hold) s)

/-- COMMAND FORCE e (R95). -/
def execCommandForce (s : State) : Host.Outcome State Fault Refusal :=
  .next (serveEngine .commandForce (fun r _ => unguarded (checkCommand r)) (runCommand fun r => .force (commandEntryOf r)) s)

/-- COMMAND MANUAL e (R96). -/
def execCommandManual (s : State) : Host.Outcome State Fault Refusal :=
  .next (serveEngine .commandManual (fun r _ => unguarded (checkCommand r)) (runCommand fun r => .manual (commandEntryOf r)) s)

/-- COMMAND CLEAR (R97). -/
def execCommandClear (s : State) : Host.Outcome State Fault Refusal :=
  .next (serveEngine .commandClear (fun r _ => unguarded (checkCommand r))
    (runUnranked fun r t => setCommand (commandShelf r) .none t) s)

/-- COMMAND LOCKOUT e on or off (R98). -/
def execCommandLockout (s : State) : Host.Outcome State Fault Refusal :=
  .next (serveEngine .commandLockout (fun r _ => unguarded (checkCommand r))
    (runUnranked fun r t => setLockout (commandShelf r) (commandEntryOf r) (bitAt r.body 3 0) t) s)

/-! ### SLICE and CLEAR_MARKS (R100, R102 to R104, R125 to R127, R178) -/

/-- The checks of SLICE (R166). -/
def checkSlice (r : Request) : Option Status :=
  checkBody (decide (r.body.length = 3)) true (decide (1 ≤ byteAt r.body 2) && decide (byteAt r.body 2 ≤ 3))

/-- A shelf-masked operation that refuses no shelf (R178). -/
def runMasked (act : ShelfId → State → State) (r : Request) (s : State) : Served :=
  { state := overMask (maskOf r.body) act s, status := .done, body := maskBody (maskOf r.body) 0 0 }

/-- SLICE PARK: for each masked shelf the engine half, then the slice half (R102, R125). -/
def execPark (s : State) : Host.Outcome State Fault Refusal :=
  .next (serveEngine .park (fun r _ => unguarded (checkSlice r)) (runMasked fun k t => parkSlice k (parkEngine k t)) s)

/-- SLICE UNPARK (R103, R126). -/
def execUnpark (s : State) : Host.Outcome State Fault Refusal :=
  .next (serveEngine .unpark (fun r _ => unguarded (checkSlice r)) (runMasked unparkSlice) s)

/-- SLICE RESET: for each masked shelf the engine half, then the slice half (R104, R127). -/
def execSliceReset (s : State) : Host.Outcome State Fault Refusal :=
  .next (serveEngine .sliceReset (fun r _ => unguarded (checkSlice r))
    (runMasked fun k t => resetSliceHalf k (resetEngineHalf k t)) s)

/-- The checks of CLEAR_MARKS (R166). -/
def checkClearMarks (r : Request) : Option Status := checkBody (decide (r.body.length = 2)) true true

/-- CLEAR_MARKS (R100). -/
def execClearMarks (s : State) : Host.Outcome State Fault Refusal :=
  .next (serveEngine .clearMarks (fun r _ => unguarded (checkClearMarks r)) (runMasked clearMarks) s)

/-! ### ACK_EVENTS (R158, R179) -/

/-- The (kind code, index) pairs of an ACK_EVENTS body (Table 10-10). -/
def ackPairs (b : List Byte) : List (Nat × Nat) :=
  (List.range (byteAt b 0)).map fun i => (byteAt b (1 + 2 * i), byteAt b (2 + 2 * i))

/-- A pair with a defined kind code whose index lies outside the kind's range (R179). -/
def pairIndexBad (q : Nat × Nat) : Bool := decide (1 ≤ q.1) && decide (q.1 ≤ 13) && (latchOf q.1 q.2).isNone

/-- A pair with an undefined kind code (R179). -/
def pairKindBad (q : Nat × Nat) : Bool := decide (q.1 = 0) || decide (13 < q.1)

/-- The checks of ACK_EVENTS: the length against the count, a count of 80 or more (R187), then the pairs' indexes and kind
codes in the order of R166 (R179). -/
def checkAckEvents (r : Request) : Option Status :=
  let b := r.body
  if b.length ≠ 1 + 2 * byteAt b 0 then some .badLength
  else if 80 ≤ byteAt b 0 then some .badValue
  else checkBody true (!(ackPairs b).any pairIndexBad) (!(ackPairs b).any pairKindBad)

/-- The latches an ACK_EVENTS acknowledges: all of them for a count of 0, else the pairs in their order (R158, R179). -/
def ackLatches (b : List Byte) : List LatchId :=
  if byteAt b 0 = 0 then List.finRange 195 else (ackPairs b).filterMap fun q => latchOf q.1 q.2

/-- The acknowledgement of latches in their order (R158). -/
def ackAll (ls : List LatchId) (s : State) : State :=
  { s with events := ls.foldl (fun e l => e.ack l) s.events }

/-- ACK_EVENTS (R158). -/
def execAckEvents (s : State) : Host.Outcome State Fault Refusal :=
  .next (serveAgent .ackEvents (fun r _ => unguarded (checkAckEvents r))
    (fun r t => { state := ackAll (ackLatches r.body) t, status := .done, body := [] }) s)

/-! ### RESTART and CLEAR_RESTART_RECORD (R180, R181) -/

/-- The checks of RESTART and CLEAR_RESTART_RECORD (R166). -/
def checkEmpty (r : Request) : Option Status := checkBody (decide (r.body.length = 0)) true true

/-- The agent serves a RESTART: the answer DONE, marked as the one whose end of transmission is the restart, is
offered, or waits when the queue is full (R181). -/
def serveRestart (s : State) : State :=
  match s.agent.phase, s.lane.requests with
  | .ready, f :: _ =>
    if requestRow f = .restart then
      match requestOf f with
      | none => s
      | some r =>
        match guarded bankNode (checkEmpty r) r s with
        | some q => answer r { state := s, status := q.1, body := q.2 }
        | none => placeAnswer { bytes := answerFrame s r .done [], isRestartAnswer := true } s
    else s
  | _, _ => s

/-- RESTART (R181). -/
def execRestart (s : State) : Host.Outcome State Fault Refusal := .next (serveRestart s)

/-- CLEAR_RESTART_RECORD (R180). -/
def execClearRestartRecord (s : State) : Host.Outcome State Fault Refusal :=
  .next (serveAgent .clearRestartRecord (fun r t => guarded bankNode (checkEmpty r) r t)
    (fun _ t =>
      { state := t.setAgent { t.agent with record := { powerOn := false, resetLine := false, restartRequest := false } }
        status := .done
        body := [] }) s)

/-! ### The Event Unit's timers (R159, R160) -/

/-- The spacing timer expires: it stops, and the sending decision is taken (R159). -/
def expireSpacing (s : State) : State :=
  match s.events.spacingTimer with
  | some due =>
    let s1 := s.advanceTo due
    sendDecision { s1 with events := { s1.events with spacingTimer := none } }
  | none => s

/-- SPACING_TIMER_EXPIRY (R159). -/
def execSpacingTimerExpiry (s : State) : Host.Outcome State Fault Refusal := .next (expireSpacing s)

/-- The summary timer expires and starts again; with a latch standing the news flag is set and the sending decision taken
(R160). -/
def expireSummary (s : State) : State :=
  match s.events.summaryTimer with
  | some due =>
    let s1 := s.advanceTo due
    let e := { s1.events with summaryTimer := startMs s1.osc (s1.events.summaryS * 1000) }
    if e.standing.isEmpty then { s1 with events := e } else sendDecision { s1 with events := { e with news := true } }
  | none => s

/-- SUMMARY_TIMER_EXPIRY (R160). -/
def execSummaryTimerExpiry (s : State) : Host.Outcome State Fault Refusal := .next (expireSummary s)

end Sys2Proof.Machine
end

