-- ==== Sys2Proof/Machine/Restart.lean ====
section
/-! DEFINITION. Power-on, the release of the reset line, and the restart (R16, R17, R35, R52, R76, R108, R130, R137, R151,
R163, R182), with the commands POWER_ON, RESET_LINE_RELEASED, TRANSMISSION_END and DEVICE_RESTART. -/

namespace Sys2Proof.Machine

/-! ### POWER_ON and RESET_LINE_RELEASED -/

/-- Power is applied with the straps given: every block takes its power-on values, and the restart record shows POWER_ON
(R16, R180). -/
def powerUp (straps : Address) (s : State) : State :=
  State.powerOn s.osc straps s.lane.resetAsserted { powerOn := true, resetLine := false, restartRequest := false } s.pending

/-- POWER_ON (R16). -/
def execPowerOn (straps : Address) (s : State) : Host.Outcome State Fault Refusal := .next (powerUp straps s)

/-- The reset line is released: the straps are sampled, every block takes its reset-line values, and the restart record
gains RESET_LINE (R15, R16, R180). -/
def releaseReset (straps : Address) (s : State) : State :=
  if s.lane.resetAsserted then
    State.powerOn s.osc straps false { s.agent.record with resetLine := true } s.pending
  else s

/-- RESET_LINE_RELEASED (R16). A line that is not asserted is not released. -/
def execResetLineReleased (straps : Address) (s : State) : Host.Outcome State Fault Refusal :=
  .next (releaseReset straps s)

/-! ### The restart, block by block -/

/-- The Candidate Manager's restart: a bound slot is DOWN, fresh and unhealthy with no timer; a NONE slot stays IDLE and
fresh (R35). -/
def Cand.restart (c : Cand) : Cand :=
  { c with state := if c.kind = .none then .idle else .down, fresh := true, health := false, timer := .none }

/-- The Tick Monitor's restart (R52). -/
def TickInput.restart (i : TickInput) : TickInput := i.enterMissing

/-- The Grade Receiver's restart of one candidate, before its effective grade is recomputed (R76). -/
def GradeSlot.restart (now : Nat) (line bound : Bool) (g : GradeSlot) : GradeSlot :=
  { g.clear with held := false, timer := bindTimer now line bound g }

/-- The slice's restart, before its HOLD Directive is made (R130). -/
def Slice.restart (now : Nat) (v : Slice) : Slice :=
  { v.stopTimers with
    timing := if v.timing = .parked then .parked else .freerun
    target := none
    history := false
    unreachable := false
    lastReport := none
    seq := 0
    action := .hold
    unsent := false
    reportTimer := if v.timing = .parked then none else startMs now (v.cfg.reportS * 1000) }

/-- The triple of a restarted slice: rank 15 when PARKED, else the freerun rank, hop 0 and own tag (R137). -/
def restartTriple (base : OriginTag) (k : ShelfId) (v : Slice) : Triple :=
  { rank := if v.timing = .parked then 15 else v.cfg.freerunRank
    hop := 0
    origin := { tag := ownTag base k, isPartial := false } }

/-- The engine's restart of one shelf: list and settings kept (R108). -/
def Shelf.restart (h : Shelf) : Shelf :=
  { h with command := .none, failed := Vector.replicate 24 false, target := none }

/-- The Notice Unit's restart of one port (R151). -/
def TxPort.restart (now : Nat) (t : TxPort) : TxPort :=
  t.clear (if t.inUse then startMs now (t.intervalS * 1000) else none)

/-- The Lane Interface's restart: all six queues empty, LOCAL served last on both ports, the strap address kept; a frame
in transmission on FABRIC runs on, and the RESTART answer's transmission has ended (R17). -/
def Lane.restart (l : Lane) : Lane :=
  { l with
    fabric := { resetPort with sending := l.fabric.sending }
    control := resetPort
    localIn := []
    requests := [] }

/-- The Event Unit's restart: settings kept, latches and notice state cleared, the summary timer restarted, and the GROUP
copies worked out (R163). -/
def EventUnit.restart (now : Nat) (group : ShelfId → Bool) (e : EventUnit) : EventUnit :=
  { e with
    latches := Vector.replicate 195 .clear
    copies := Vector.ofFn fun c : CondId => if h : 64 ≤ c.val then group ⟨c.val - 64, by omega⟩ else false
    news := false
    resume := none
    spacingTimer := none
    summaryTimer := if e.summaryS = 0 then none else startMs now (e.summaryS * 1000) }

/-- The evaluation queue after a restart: every shelf whose slice is not PARKED, in increasing order (R108). -/
def restartQueue (slices : Vector Slice 16) : List EvalEntry :=
  ((List.finRange 16).filter fun k => decide (slices[k].timing ≠ .parked)).map fun k => { shelf := k, mark := none }

/-- Every block at its restart values, before the slices send their HOLD Directives and the effective grades are
recomputed. -/
def restartBlocks (s : State) : State :=
  { s with
    lane := s.lane.restart
    cands := s.cands.map Cand.restart
    inputs := s.inputs.map TickInput.restart
    grades := Vector.ofFn fun n : Slot =>
      s.grades[n].restart s.osc (decide (s.cands[n].kind = .line)) (portOf s.rxPorts n).isSome
    rmaps := s.rmaps.map fun m => { m with attached := true }
    triples := Vector.ofFn fun k : ShelfId => restartTriple s.baseTag k s.slices[k]
    shelves := s.shelves.map Shelf.restart
    engine := { s.engine with queue := restartQueue s.slices, count := 0 }
    slices := Vector.ofFn fun k : ShelfId =>
      { s.slices[k].restart s.osc with triple := restartTriple s.baseTag k s.slices[k] }
    txPorts := s.txPorts.map (TxPort.restart s.osc)
    tmaps := s.tmaps.map fun m => { m with attached := true }
    copies := Vector.ofFn fun k : ShelfId =>
      { triple := restartTriple s.baseTag k s.slices[k], target := none,
        timing := (s.slices[k].restart s.osc).timing }
    windowStart := s.osc
    agent := resetAgent { s.agent.record with restartRequest := true }
    flight := noFlight }

/-- Every effective grade recomputed from the restarted state, with nothing handed on (R76). -/
def regradeSilently (s : State) : State :=
  { s with grades := Vector.ofFn fun n : Slot => { s.grades[n] with eff := effectiveGrade s n } }

/-- The Event Unit's restart over the restarted lists and candidate states (R163). -/
def restartEvents (s : State) : State := { s with events := s.events.restart s.osc (groupPresent s) }

/-- The restart (R17): every block takes its restart values, and each unparked slice sends HOLD with sequence 1 (R130). The
Directives are placed in increasing shelf number: a DESIGN CHOICE (log entry 28). -/
def deviceRestart (s : State) : State :=
  overShelves (fun k t => if t.slices[k].timing = .parked then t else newDirective k .hold t)
    (restartEvents (regradeSilently (restartBlocks s)))

/-- Whether the CONTROL port is sending the answer of a RESTART request (R17, R181). -/
def sendingRestartAnswer (s : State) : Bool := (s.lane.control.sending.map OutFrame.isRestartAnswer).getD false

/-- DEVICE_RESTART (R17): the transmission of the RESTART answer ends. While the CONTROL port sends no such answer it does
not happen (R181). -/
def endRestartAnswer (s : State) : State := if sendingRestartAnswer s then deviceRestart s else s

/-- DEVICE_RESTART (R17). -/
def execDeviceRestart (s : State) : Host.Outcome State Fault Refusal := .next (endRestartAnswer s)

/-! ### TRANSMISSION_END (R14) -/

/-- A frame's transmission ends on a port, and the arbiter chooses (R14). The end of the RESTART answer's transmission is
the restart (R17). A port that sends nothing has no transmission to end. -/
def endTransmission (port : LanePort) (s : State) : State :=
  match port with
  | .fabric =>
    if s.lane.fabric.sending.isSome then s.setLane { s.lane with fabric := s.lane.fabric.endTransmission s.lane.live } else s
  | .control =>
    if sendingRestartAnswer s then deviceRestart s
    else if s.lane.control.sending.isSome then
      s.setLane { s.lane with control := s.lane.control.endTransmission s.lane.live }
    else s

/-- TRANSMISSION_END (R14). -/
def execTransmissionEnd (port : LanePort) (s : State) : Host.Outcome State Fault Refusal :=
  .next (endTransmission port s)

end Sys2Proof.Machine
end

