-- ==== Sys2Proof/Machine/Dispatch.lean ====
section
/-! DEFINITION. One arm per command: each calls its meaning. -/

namespace Sys2Proof.Machine

def exec (i : Instr) (s : State) : Host.Outcome State Fault Refusal :=
  match i with
  | .powerOn straps => Sys2Proof.Machine.execPowerOn straps s
  | .resetLineAsserted => Sys2Proof.Machine.execResetLineAsserted s
  | .resetLineReleased straps => Sys2Proof.Machine.execResetLineReleased straps s
  | .frameReceived port bytes begunInReset => Sys2Proof.Machine.execFrameReceived port bytes begunInReset s
  | .transmissionEnd port => Sys2Proof.Machine.execTransmissionEnd port s
  | .deviceRestart => Sys2Proof.Machine.execDeviceRestart s
  | .receivedGradeNotice => Sys2Proof.Machine.execReceivedGradeNotice s
  | .lockReport => Sys2Proof.Machine.execLockReport s
  | .tick n periods => Sys2Proof.Machine.execTick n periods s
  | .tickLoss n => Sys2Proof.Machine.execTickLoss n s
  | .healthReport n => Sys2Proof.Machine.execHealthReport n s
  | .lockFailedRemoval n => Sys2Proof.Machine.execLockFailedRemoval n s
  | .holdOffExpiry n => Sys2Proof.Machine.execHoldOffExpiry n s
  | .wtrExpiry n => Sys2Proof.Machine.execWtrExpiry n s
  | .noticeTimerExpiry n => Sys2Proof.Machine.execNoticeTimerExpiry n s
  | .tripleHandover k => Sys2Proof.Machine.execTripleHandover k s
  | .targetGradeHandover k => Sys2Proof.Machine.execTargetGradeHandover k s
  | .noticeUnitHandover k => Sys2Proof.Machine.execNoticeUnitHandover k s
  | .periodicTimerExpiry p => Sys2Proof.Machine.execPeriodicTimerExpiry p s
  | .budgetWindowStart => Sys2Proof.Machine.execBudgetWindowStart s
  | .evaluation => Sys2Proof.Machine.execEvaluation s
  | .lockTimerExpiry k => Sys2Proof.Machine.execLockTimerExpiry k s
  | .settleTimerExpiry k => Sys2Proof.Machine.execSettleTimerExpiry k s
  | .reportTimerExpiry k => Sys2Proof.Machine.execReportTimerExpiry k s
  | .holdoverBudgetExhausted k => Sys2Proof.Machine.execHoldoverBudgetExhausted k s
  | .spacingTimerExpiry => Sys2Proof.Machine.execSpacingTimerExpiry s
  | .summaryTimerExpiry => Sys2Proof.Machine.execSummaryTimerExpiry s
  | .answerPlaced => Sys2Proof.Machine.execAnswerPlaced s
  | .requestTooShort => Sys2Proof.Machine.execRequestTooShort s
  | .unknownKind => Sys2Proof.Machine.execUnknownKind s
  | .identify => Sys2Proof.Machine.execIdentify s
  | .readTable => Sys2Proof.Machine.execReadTable s
  | .readStatusCandidate => Sys2Proof.Machine.execReadStatusCandidate s
  | .readStatusShelf => Sys2Proof.Machine.execReadStatusShelf s
  | .readStatusPort => Sys2Proof.Machine.execReadStatusPort s
  | .writeCandidate => Sys2Proof.Machine.execWriteCandidate s
  | .writeListEntry => Sys2Proof.Machine.execWriteListEntry s
  | .writeShelf => Sys2Proof.Machine.execWriteShelf s
  | .writePorts => Sys2Proof.Machine.execWritePorts s
  | .writeReceiveMap => Sys2Proof.Machine.execWriteReceiveMap s
  | .writeTransmitMap => Sys2Proof.Machine.execWriteTransmitMap s
  | .detachReceiveMap => Sys2Proof.Machine.execDetachReceiveMap s
  | .attachReceiveMap => Sys2Proof.Machine.execAttachReceiveMap s
  | .detachTransmitMap => Sys2Proof.Machine.execDetachTransmitMap s
  | .attachTransmitMap => Sys2Proof.Machine.execAttachTransmitMap s
  | .writeNode => Sys2Proof.Machine.execWriteNode s
  | .take => Sys2Proof.Machine.execTake s
  | .release => Sys2Proof.Machine.execRelease s
  | .commandHold => Sys2Proof.Machine.execCommandHold s
  | .commandForce => Sys2Proof.Machine.execCommandForce s
  | .commandManual => Sys2Proof.Machine.execCommandManual s
  | .commandClear => Sys2Proof.Machine.execCommandClear s
  | .commandLockout => Sys2Proof.Machine.execCommandLockout s
  | .park => Sys2Proof.Machine.execPark s
  | .unpark => Sys2Proof.Machine.execUnpark s
  | .sliceReset => Sys2Proof.Machine.execSliceReset s
  | .clearMarks => Sys2Proof.Machine.execClearMarks s
  | .ackEvents => Sys2Proof.Machine.execAckEvents s
  | .restart => Sys2Proof.Machine.execRestart s
  | .clearRestartRecord => Sys2Proof.Machine.execClearRestartRecord s

end Sys2Proof.Machine
end

