-- ==== Sys2Proof/Machine/Step.lean ====
section
/-! DEFINITION. One step: the command at the front of the queue takes effect; with an empty queue the part
idles (log entry 2). -/

namespace Sys2Proof.Machine

/-- The front command is taken from the queue and takes effect on the rest of the state. Every event of the part, the ones
driven by time among them, is a command of its own, so that with no command waiting nothing happens. -/
def step (s : State) : Host.Outcome State Fault Refusal :=
  match s.pending with
  | c :: rest => exec c { s with pending := rest }
  | [] => .next s

/-- The state with the command that a table word spells put at the front of the queue; unchanged where the word spells
none. The opcode table gives no row bits, so no word spells a command (log entry 1). -/
def State.withFetchWord (s : State) (nbits w : Nat) : State :=
  match decodeTableWord nbits w with
  | some c => { s with pending := c :: s.pending }
  | none => s

end Sys2Proof.Machine
end

