-- ==== Sys2Proof/Safety.lean ====
section
/-! DEFINITION. The terms that statements use: the parts of the state, for frames ("nothing else changes"), and the
invariants that every step keeps. -/

namespace Sys2Proof.Machine

/-! ### The parts of the state, for frames -/

/-- The pieces into which frames cut the state: each field of State, with the Lane Interface, the engine, the Event
Unit, the agent and the hand-overs cut further. -/
inductive Part where
  | osc
  | strap
  | resetLevel
  | fabric
  | control
  | localIn
  | requests
  | cands
  | inputs
  | correction
  | grades
  | rxPorts
  | rmaps
  | triples
  | shelves
  | queue
  | count
  | budget
  | slices
  | baseTag
  | txPorts
  | tmaps
  | copies
  | windowStart
  | latches
  | conditions
  | eventSettings
  | noticeState
  | semaphores
  | record
  | phase
  | healthReports
  | removals
  | tripleHandovers
  | gradeHandovers
  | noticeHandovers
  | pending
  deriving DecidableEq, Repr

/-- The part p reads the same in s and t. -/
def Part.same (p : Part) (s t : State) : Prop :=
  match p with
  | .osc => t.osc = s.osc
  | .strap => t.lane.strap = s.lane.strap
  | .resetLevel => t.lane.resetAsserted = s.lane.resetAsserted
  | .fabric => t.lane.fabric = s.lane.fabric
  | .control => t.lane.control = s.lane.control
  | .localIn => t.lane.localIn = s.lane.localIn
  | .requests => t.lane.requests = s.lane.requests
  | .cands => t.cands = s.cands
  | .inputs => t.inputs = s.inputs
  | .correction => t.correction = s.correction
  | .grades => t.grades = s.grades
  | .rxPorts => t.rxPorts = s.rxPorts
  | .rmaps => t.rmaps = s.rmaps
  | .triples => t.triples = s.triples
  | .shelves => t.shelves = s.shelves
  | .queue => t.engine.queue = s.engine.queue
  | .count => t.engine.count = s.engine.count
  | .budget => t.engine.budget = s.engine.budget
  | .slices => t.slices = s.slices
  | .baseTag => t.baseTag = s.baseTag
  | .txPorts => t.txPorts = s.txPorts
  | .tmaps => t.tmaps = s.tmaps
  | .copies => t.copies = s.copies
  | .windowStart => t.windowStart = s.windowStart
  | .latches => t.events.latches = s.events.latches
  | .conditions => t.events.copies = s.events.copies
  | .eventSettings =>
    t.events.enables = s.events.enables ∧ t.events.levels = s.events.levels ∧
      t.events.destination = s.events.destination ∧ t.events.spacingMs = s.events.spacingMs ∧
      t.events.summaryS = s.events.summaryS
  | .noticeState =>
    t.events.news = s.events.news ∧ t.events.resume = s.events.resume ∧
      t.events.spacingTimer = s.events.spacingTimer ∧ t.events.summaryTimer = s.events.summaryTimer
  | .semaphores => t.agent.sems = s.agent.sems
  | .record => t.agent.record = s.agent.record
  | .phase => t.agent.phase = s.agent.phase
  | .healthReports => t.flight.health = s.flight.health
  | .removals => t.flight.removals = s.flight.removals
  | .tripleHandovers => t.flight.triples = s.flight.triples
  | .gradeHandovers => t.flight.grades = s.flight.grades
  | .noticeHandovers => t.flight.notices = s.flight.notices
  | .pending => t.pending = s.pending

/-- Every part outside the list reads the same in s and t. -/
def sameBut (ps : List Part) (s t : State) : Prop := ∀ p : Part, p ∉ ps → p.same s t

/-- The parts that an event at a slice can change: the slice, the FABRIC port when a Directive is sent, the Event Unit
with the CONTROL port when an Event Notice is sent, and the hand-overs of the triple. -/
def sliceParts : List Part :=
  [.slices, .fabric, .latches, .conditions, .noticeState, .control, .tripleHandovers, .noticeHandovers]

/-- The parts that the answering of a request can change. -/
def answerParts : List Part := [.requests, .control, .phase]

/-! ### Terms of the statements about requests, events and time -/

/-- The agent is free and the request r stands at the head of the request queue, as a frame that `row` serves (R10,
R164). -/
def Taken (row : Instr) (r : Request) (s : State) : Prop :=
  s.agent.phase = .ready ∧ ∃ f rest, s.lane.requests = f :: rest ∧ requestRow f = row ∧ requestOf f = some r

/-- The request r stands at the head of the request queue, as a frame that `row` serves, newly come or waiting at the
engine, and it is the operation's turn: the budget count has reached E, or no evaluation waits (R83, R84). -/
def EngineTaken (row : Instr) (r : Request) (s : State) : Prop :=
  (s.agent.phase = .ready ∨ s.agent.phase = .engineOp) ∧
    (∃ f rest, s.lane.requests = f :: rest ∧ requestRow f = row ∧ requestOf f = some r) ∧
    (s.engine.budget ≤ s.engine.count ∨ s.engine.queue = [])

/-- The head of the evaluation queue is served before an operation that waits: none waits, or the budget count has not
reached E (R83). -/
def EvaluationTurn (s : State) : Prop := s.agent.phase = .engineOp → s.engine.count < s.engine.budget

/-- The Lane Interface and the agent as they start: the straps sampled, all six queues empty, LOCAL served last and
nothing in transmission on both ports (R16); every semaphore FREE and no request in service (R167, R182). -/
def startsLaneAndAgent (a : Address) (t : State) : Prop :=
  t.lane.strap = a ∧ t.lane.fabric = { transitQ := [], localQ := [], servedLast := .localQ, sending := none } ∧
    t.lane.control = { transitQ := [], localQ := [], servedLast := .localQ, sending := none } ∧ t.lane.localIn = [] ∧
    t.lane.requests = [] ∧ (∀ b : Fin 5, t.agent.sems[b] = none) ∧ t.agent.phase = .ready

/-- The bank's semaphore is FREE or held by the request's source (R169). -/
def Unheld (bank : Fin 5) (r : Request) (s : State) : Prop :=
  s.agent.sems[bank] = none ∨ s.agent.sems[bank] = some r.source

/-- From u, where the request r has been served, to t: the answer with the given status and body joins the CONTROL local
outbound queue, which holds up to 8 frames, and r leaves the request queue (R10, R11, R164); or, with the queue full,
the answer waits and r stays at the head (R13). Nothing else changes. -/
def Answered (r : Request) (st : Status) (body : List Byte) (u t : State) : Prop :=
  let a : OutFrame := { bytes := answerFrame u r st body, isRestartAnswer := false }
  if u.lane.control.localQ.length < 8 then
    t.lane.control = OutPort.serve u.lane.live { u.lane.control with localQ := u.lane.control.localQ ++ [a] } ∧
      t.lane.requests = u.lane.requests.tail ∧ t.agent.phase = .ready ∧ sameBut [.control, .requests, .phase] u t
  else t.agent.phase = .answerWaiting a ∧ sameBut [.phase] u t

/-- The limits of the request kinds that have any, row by row: the length its body must have, an index out of range, and
a value out of range that is not clamped, by the layouts of Table 10-10 (R53, R166, R171, R175, R179, R187). -/
def requestLimits : List (Instr × (List Byte → Prop) × (List Byte → Prop) × (List Byte → Prop)) :=
  [(.readTable, fun b => b.length = 3,
      fun b => byteAt b 0 = 0 ∧ 24 ≤ byteAt b 1 ∨ byteAt b 0 = 1 ∧ 16 ≤ byteAt b 1 ∨ byteAt b 0 = 3 ∧ 8 ≤ byteAt b 1 ∨
        byteAt b 0 = 4 ∧ 1 ≤ byteAt b 1,
      fun b => 5 ≤ byteAt b 0 ∨ byteAt b 2 = 0 ∨ 16 < byteAt b 2),
    (.readStatusCandidate, fun b => b.length = 2,
      fun b => byteAt b 0 = 0 ∧ 24 ≤ byteAt b 1 ∨ byteAt b 0 = 1 ∧ 16 ≤ byteAt b 1, fun b => 3 ≤ byteAt b 0),
    (.readStatusShelf, fun b => b.length = 2,
      fun b => byteAt b 0 = 0 ∧ 24 ≤ byteAt b 1 ∨ byteAt b 0 = 1 ∧ 16 ≤ byteAt b 1, fun b => 3 ≤ byteAt b 0),
    (.readStatusPort, fun b => b.length = 2,
      fun b => byteAt b 0 = 0 ∧ 24 ≤ byteAt b 1 ∨ byteAt b 0 = 1 ∧ 16 ≤ byteAt b 1, fun b => 3 ≤ byteAt b 0),
    (.writeCandidate, fun b => b.length = 18, fun b => 24 ≤ byteAt b 0 ∨ 16 ≤ byteAt b 2 ∨ 4 ≤ byteAt b 8,
      fun b => 4 ≤ byteAt b 1 ∨ 16 ≤ byteAt b 9 ∨ 16 ≤ byteAt b 10),
    (.writeListEntry, fun b => b.length = 6, fun b => 8 ≤ byteAt b 2 ∨ 24 ≤ byteAt b 3, fun b => 16 ≤ byteAt b 4),
    (.writeShelf, fun b => b.length = 15, fun _ => False,
      fun b => 2 ≤ byteAt b 2 ∨ 16 ≤ byteAt b 11 ∨ 16 ≤ byteAt b 12 ∨ 1440 < numAt b 13 2),
    (.writePorts,
      fun b => (byteAt b 1 = 1 ∨ byteAt b 1 = 4 ∨ byteAt b 1 = 16) ∧ b.length = 2 + 8 * byteAt b 1,
      fun b => ∃ i, i < byteAt b 1 ∧
        (bitAt (portEntryBytes b i) 0 0 = true ∧ 24 ≤ byteAt (portEntryBytes b i) 1 ∧
            byteAt (portEntryBytes b i) 1 ≠ 0xFF ∨ 4 ≤ byteAt (portEntryBytes b i) 4),
      fun b => ∃ i, i < byteAt b 1 ∧ (16 ≤ byteAt (portEntryBytes b i) 5 ∨ 16 ≤ byteAt (portEntryBytes b i) 6)),
    (.writeReceiveMap, fun b => b.length = 18, fun b => 4 ≤ byteAt b 1,
      fun b => 2 ≤ byteAt b 0 ∨ ∃ i, i < 16 ∧ 16 ≤ byteAt b (2 + i)),
    (.writeTransmitMap, fun b => b.length = 18, fun b => 4 ≤ byteAt b 1,
      fun b => 2 ≤ byteAt b 0 ∨ ∃ i, i < 16 ∧ 16 ≤ byteAt b (2 + i)),
    (.detachReceiveMap, fun b => b.length = 2, fun b => 4 ≤ byteAt b 1, fun b => 2 ≤ byteAt b 0),
    (.attachReceiveMap, fun b => b.length = 2, fun b => 4 ≤ byteAt b 1, fun b => 2 ≤ byteAt b 0),
    (.detachTransmitMap, fun b => b.length = 2, fun b => 4 ≤ byteAt b 1, fun b => 2 ≤ byteAt b 0),
    (.attachTransmitMap, fun b => b.length = 2, fun b => 4 ≤ byteAt b 1, fun b => 2 ≤ byteAt b 0),
    (.take, fun b => b.length = 1, fun _ => False, fun b => 5 ≤ byteAt b 0),
    (.release, fun b => b.length = 1, fun _ => False, fun b => 5 ≤ byteAt b 0),
    (.commandHold, fun b => b.length = 4, fun b => 16 ≤ byteAt b 0 ∨ 8 ≤ byteAt b 2,
      fun b => byteAt b 1 = 0 ∨ 5 < byteAt b 1),
    (.commandForce, fun b => b.length = 4, fun b => 16 ≤ byteAt b 0 ∨ 8 ≤ byteAt b 2,
      fun b => byteAt b 1 = 0 ∨ 5 < byteAt b 1),
    (.commandManual, fun b => b.length = 4, fun b => 16 ≤ byteAt b 0 ∨ 8 ≤ byteAt b 2,
      fun b => byteAt b 1 = 0 ∨ 5 < byteAt b 1),
    (.commandClear, fun b => b.length = 4, fun b => 16 ≤ byteAt b 0 ∨ 8 ≤ byteAt b 2,
      fun b => byteAt b 1 = 0 ∨ 5 < byteAt b 1),
    (.commandLockout, fun b => b.length = 4, fun b => 16 ≤ byteAt b 0 ∨ 8 ≤ byteAt b 2,
      fun b => byteAt b 1 = 0 ∨ 5 < byteAt b 1),
    (.park, fun b => b.length = 3, fun _ => False, fun b => byteAt b 2 = 0 ∨ 3 < byteAt b 2),
    (.unpark, fun b => b.length = 3, fun _ => False, fun b => byteAt b 2 = 0 ∨ 3 < byteAt b 2),
    (.sliceReset, fun b => b.length = 3, fun _ => False, fun b => byteAt b 2 = 0 ∨ 3 < byteAt b 2),
    (.ackEvents, fun b => b.length = 1 + 2 * byteAt b 0,
      fun b => byteAt b 0 < 80 ∧ ∃ i, i < byteAt b 0 ∧
        (1 ≤ byteAt b (1 + 2 * i) ∧ byteAt b (1 + 2 * i) ≤ 4 ∧ 24 ≤ byteAt b (2 + 2 * i) ∨
          5 ≤ byteAt b (1 + 2 * i) ∧ byteAt b (1 + 2 * i) ≤ 10 ∧ 16 ≤ byteAt b (2 + 2 * i) ∨
          11 ≤ byteAt b (1 + 2 * i) ∧ byteAt b (1 + 2 * i) ≤ 13 ∧ 1 ≤ byteAt b (2 + 2 * i)),
      fun b => 80 ≤ byteAt b 0 ∨ ∃ i, i < byteAt b 0 ∧ (byteAt b (1 + 2 * i) = 0 ∨ 13 < byteAt b (1 + 2 * i)))]

/-- Every latch other than l is as it was, and l is SET if it was CLEAR and its kind is enabled (R156, R157). -/
def raisedBy (l : LatchId) (s t : State) : Prop :=
  ∀ m : LatchId, t.events.latches[m] =
    if m = l ∧ s.events.enabled l = true ∧ s.events.latches[l] = .clear then .set else s.events.latches[m]

/-- Every shelf that p picks stands in the evaluation queue, and no shelf has left it (R81). -/
def queuedBy (p : ShelfId → Prop) (s t : State) : Prop :=
  ∀ k : ShelfId, k ∈ t.engine.queue.map EvalEntry.shelf ↔ p k ∨ k ∈ s.engine.queue.map EvalEntry.shelf

/-- What a state change of candidate n hands on: CAND_STATE is raised (R30), and every shelf whose list holds the slot
with nonzero priority is queued (R31). -/
def candStateTold (n : Slot) (s t : State) : Prop :=
  (s.events.enabled (candLatch 0 n) = true → t.events.latches[candLatch 0 n] ≠ .clear) ∧
    queuedBy (fun k => s.shelves[k].lists n = true) s t

/-- What a recomputed effective grade of slot n hands on: nothing when it stayed as it was; else evaluation requests for every
shelf whose list holds the slot with nonzero priority and the slot to each slice whose current target it is; and CAND_RANK
exactly when the rank changed (R71). -/
def gradeTold (n : Slot) (s t : State) : Prop :=
  (t.grades[n].eff = s.grades[n].eff → t.engine.queue = s.engine.queue ∧ t.flight.grades = s.flight.grades) ∧
    (t.grades[n].eff ≠ s.grades[n].eff →
      queuedBy (fun k => s.shelves[k].lists n = true) s t ∧
        t.flight.grades =
          s.flight.grades ++
            ((List.finRange 16).filter fun k => decide (s.slices[k].target = some n)).map (fun k => (k, n))) ∧
    t.events.latches[candLatch 1 n] =
      if t.grades[n].eff.rank ≠ s.grades[n].eff.rank ∧ s.events.enabled (candLatch 1 n) = true ∧
          s.events.latches[candLatch 1 n] = .clear
      then .set else s.events.latches[candLatch 1 n]

/-! ### Terms of the statements about frames that the part sends -/

/-- What the latches of one event may send on the CONTROL port from s to u: nothing; or, with an event destination set
and the spacing timer stopped, one Event Notice to that destination, which the CONTROL local outbound queue had room for
(R11, R12, R159). -/
def eventTold (s u : State) : Prop :=
  u.lane.control = s.lane.control ∨
    s.events.destination ≠ 0 ∧ s.events.spacingTimer = none ∧ s.lane.control.localQ.length < 8 ∧
      ∃ body : List Byte,
        u.lane.control =
          OutPort.serve s.lane.live
            { s.lane.control with
              localQ := s.lane.control.localQ ++
                [⟨buildFrame s.events.destination s.lane.strap 0x61 body, false⟩] }

/-- An Event Notice that lists the first 79 of the given latches is offered to the CONTROL local outbound queue, and
spacing starts. Taken, its last entry becomes the resume point when there are more latches, and a fresh notice clears
the news; refused, news and resume point stay (R159). -/
def noticeOffered (fresh : Bool) (ls : List LatchId) (s t : State) : Prop :=
  t.events.spacingTimer = some (s.osc + s.events.spacingMs * 125000) ∧
    t.events.summaryTimer = s.events.summaryTimer ∧ sameBut [.noticeState, .control] s t ∧
    if s.lane.control.localQ.length < 8 then
      t.lane.control =
          OutPort.serve s.lane.live
            { s.lane.control with
              localQ := s.lane.control.localQ ++
                [⟨buildFrame s.events.destination s.lane.strap 0x61
                    (noticeBody s.events (decide (79 < ls.length)) (ls.take 79)), false⟩] } ∧
        t.events.news = (if fresh then false else s.events.news) ∧
        t.events.resume = (if 79 < ls.length then (ls.take 79).getLast? else none)
    else t.lane.control = s.lane.control ∧ t.events.news = s.events.news ∧ t.events.resume = s.events.resume

/-- A fresh notice is due: it lists the standing latches from the start, or with none standing the news is cleared and
nothing is sent (R159). -/
def freshDue (s t : State) : Prop :=
  if s.events.standing = [] then t = { s with events := { s.events with news := false } }
  else noticeOffered true s.events.standing s t

/-- The sending decision, from s to t: nothing without a destination, during spacing, or without news and resume point;
a fresh notice on news alone; a continuation after the resume point, which ends, and gives way to the news, when no
standing latch comes after it (R159). -/
def sendingDecided (s t : State) : Prop :=
  if s.events.destination = 0 ∨ s.events.spacingTimer.isSome = true then t = s
  else
    match s.events.resume with
    | none => if s.events.news = true then freshDue s t else t = s
    | some r =>
      let later := s.events.standing.filter fun l => decide (r < l)
      let ended : State := { s with events := { s.events with resume := none } }
      if later ≠ [] then noticeOffered false later s t
      else if s.events.news = true then freshDue ended t else t = ended

/-- The event of latch l occurs, from s to t: a latch of a disabled kind, or one that is not CLEAR, is left and nothing
happens; a CLEAR one becomes SET, which is news, and the sending decision is taken (R156, R157, R159). -/
def edgeRaised (l : LatchId) (s t : State) : Prop :=
  if s.events.enabled l = true ∧ s.events.latches[l] = .clear then
    sendingDecided
      { s with events := { s.events with latches := s.events.latches.set l .set, news := true } } t
  else t = s

/-- The FABRIC output port after frames were offered to its local outbound queue one after the other: each joins while
the queue holds fewer than 32, and the arbiter chooses (R11, R12, R14). -/
def offeredInOrder (live : Bool) (frames : List OutFrame) (p : OutPort) : OutPort :=
  frames.foldl
    (fun p f => if p.localQ.length < 32 then OutPort.serve live { p with localQ := p.localQ ++ [f] } else p) p

/-- The Directive to shelf k's module under the sequence given: TRACK (0x01) of the slot, or HOLD (0x02) with tick input
255 (R111, R185, Table 10-4). -/
def directiveTo (s : State) (k : ShelfId) (seq : Byte) (target : Option Slot) : OutFrame :=
  { bytes := buildFrame s.slices[k].cfg.module s.lane.strap 0x41
      (match target with
        | some c => [byteOf k.val, seq, 0x01, byteOf c.val]
        | none => [byteOf k.val, seq, 0x02, 0xFF])
    isRestartAnswer := false }

/-- Each of the steps R i, in the list's order, leads from s to t. -/
def inOrder {ι : Type} (R : ι → State → State → Prop) : List ι → State → State → Prop
  | [], s, t => t = s
  | i :: is, s, t => ∃ u, R i s u ∧ inOrder R is u t

/-- The content of port p compared with what was last sent. Equal: the change-pending flag is cleared and nothing is
sent. Different with the count below 3: an EVENT notice with the content is offered; taken, it is what was last sent, it
is counted and the flag is cleared; refused, the flag is set (R145). Different with the count at 3: the flag is set and
nothing is sent. The held code follows the building of the content (R140, R141, R144, R145). -/
def portCompared (p : PortId) (s t : State) : Prop :=
  sameBut [.txPorts, .fabric] s t ∧
    if s.txPorts[p].lastSent = some (portContent s p) then
      t.lane.fabric = s.lane.fabric ∧
        t.txPorts = s.txPorts.set p { s.txPorts[p] with heldCode := portHeld s p, changePending := false }
    else if s.txPorts[p].count < 3 ∧ s.lane.fabric.localQ.length < 32 then
      t.lane.fabric =
          OutPort.serve s.lane.live
            { s.lane.fabric with
              localQ := s.lane.fabric.localQ ++ [⟨transmitFrame s p .event (portContent s p), false⟩] } ∧
        t.txPorts = s.txPorts.set p
          { s.txPorts[p] with
            heldCode := portHeld s p
            lastSent := some (portContent s p)
            count := s.txPorts[p].count + 1
            changePending := false }
    else
      t.lane.fabric = s.lane.fabric ∧
        t.txPorts = s.txPorts.set p { s.txPorts[p] with heldCode := portHeld s p, changePending := true }

/-- A budget window starts at port p: its count is 0, and a change held back is compared within the new budget (R144).
-/
def windowStarted (p : PortId) (s t : State) : Prop :=
  let u := s.setTx p { s.txPorts[p] with count := 0 }
  if s.txPorts[p].changePending = true then portCompared p u t else t = u

/-- The transmit half of port p is written with the eight bytes e, its receive half being stored: the fields are stored;
a port that enters or leaves use has its dynamic state cleared, with the periodic timer started or stopped; a port in
use after the write has its content compared (R138, R148). That the timer starts with the interval of the same write is
log entry 24 (DEDUCED). -/
def transmitWritten (e : List Byte) (p : PortId) (s t : State) : Prop :=
  let stored : TxPort :=
    { s.txPorts[p] with
      address := addressAt e 2
      tmap := Fin.ofNat 4 (byteAt e 4)
      squelch := Fin.ofNat 16 (byteAt e 5)
      fill := Fin.ofNat 16 (byteAt e 6)
      intervalS := max 1 (min (byteAt e 7) 10)
      pathOn := bitAt e 0 2
      inUse := s.rxPorts[p].inUse
      bound := s.rxPorts[p].bound }
  let cleared : TxPort :=
    { stored with lastSent := none, heldCode := none, periodic := none, count := 0, changePending := false }
  if s.rxPorts[p].inUse = true then
    if s.txPorts[p].inUse = true then portCompared p (s.setTx p stored) t
    else portCompared p (s.setTx p { cleared with periodic := some (s.osc + stored.intervalS * 125000000) }) t
  else if s.txPorts[p].inUse = true then t = s.setTx p cleared
  else t = s.setTx p stored

/-- The part comes out of power-on or of the reset line: s is the state before and t the state after (R16). -/
def PoweredUp (s t : State) : Prop :=
  ∃ straps, exec (.powerOn straps) s = .next t ∨
    (s.lane.resetAsserted = true ∧ exec (.resetLineReleased straps) s = .next t)

/-! ### Invariants -/

/-- The queues hold no more than their capacities (R6, R7, R10, R11, Table 1-3). -/
def QueuesBounded (s : State) : Prop :=
  s.lane.fabric.transitQ.length ≤ 64 ∧ s.lane.control.transitQ.length ≤ 64 ∧ s.lane.localIn.length ≤ 16 ∧
    s.lane.requests.length ≤ 4 ∧ s.lane.fabric.localQ.length ≤ 32 ∧ s.lane.control.localQ.length ≤ 8

/-- A port with nothing in transmission has nothing waiting. -/
def OutPort.workConserving (p : OutPort) : Prop := p.sending = none → p.transitQ = [] ∧ p.localQ = []

/-- The arbiters never leave a port free while a frame waits (R14), and nothing is in transmission while the reset line
is asserted (R16). -/
def ArbitersServe (s : State) : Prop :=
  if s.lane.resetAsserted then s.lane.fabric.sending = none ∧ s.lane.control.sending = none
  else s.lane.fabric.workConserving ∧ s.lane.control.workConserving

/-- The evaluation queue holds no shelf twice (R81), the budget count stops at 8 (R83) and the budget E lies in 1 to 8
(R84). -/
def EngineQueueOk (s : State) : Prop :=
  (s.engine.queue.map EvalEntry.shelf).Nodup ∧ s.engine.count ≤ 8 ∧ 1 ≤ s.engine.budget ∧ s.engine.budget ≤ 8

/-- No shelf list holds one slot in two entries with nonzero priority (R78). -/
def ListsHaveNoDuplicates (s : State) : Prop :=
  ∀ (k : ShelfId) (e f : EntryId), s.shelves[k].entries[e].priority ≠ 0 → s.shelves[k].entries[f].priority ≠ 0 →
    s.shelves[k].entries[e].slot = s.shelves[k].entries[f].slot → e = f

/-- Every target and every lock-failed slot of a shelf stands in its list with nonzero priority (R78, R99). -/
def TargetsListed (s : State) : Prop :=
  ∀ k : ShelfId,
    (∀ c, targetSlot s k = some c → s.shelves[k].lists c = true) ∧
      ∀ n : Slot, s.shelves[k].failed[n] = true → s.shelves[k].lists n = true

/-- The walk over the target records that starts at a shelf never comes back to it: no chain of shelves times itself
(R89). -/
def CascadeAcyclic (s : State) : Prop := ∀ k : ShelfId, walkReaches s k Config.walkSteps k = false

/-- The slice states in which the slice has a target (Table 6-3). -/
def Timing.hasTarget : Timing → Bool
  | .acquiring | .settling | .locked => true
  | .freerun | .holdover | .parked => false

/-- Slice and engine agree on the current target; a slice has one exactly in ACQUIRING, SETTLING and LOCKED, and a slice
that is not PARKED directs its module to it, or to hold without one (R112, R113, R125, Table 6-3). -/
def SlicesFollowTargets (s : State) : Prop :=
  ∀ k : ShelfId,
    s.slices[k].target = targetSlot s k ∧ s.slices[k].target.isSome = s.slices[k].timing.hasTarget ∧
      (s.slices[k].timing ≠ .parked →
        s.slices[k].action =
          match s.slices[k].target with
          | some c => .track c
          | none => .hold)

/-- The timers of a slice run only in their states: the lock timer in ACQUIRING, the settle timer in SETTLING, the
holdover clock in HOLDOVER; the report timer of a slice that is not PARKED runs unless it is unreachable; a PARKED slice
has none of them and is not unreachable (R119 to R125). -/
def SliceTimersOk (s : State) : Prop :=
  ∀ k : ShelfId,
    (s.slices[k].lockTimer.isSome = true → s.slices[k].timing = .acquiring) ∧
      s.slices[k].settleTimer.isSome = decide (s.slices[k].timing = .settling) ∧
      s.slices[k].holdoverSince.isSome = decide (s.slices[k].timing = .holdover) ∧
      (s.slices[k].exhausted = true → s.slices[k].timing = .holdover) ∧
      (s.slices[k].timing = .parked → s.slices[k].reportTimer = none ∧ s.slices[k].unreachable = false) ∧
      (s.slices[k].timing ≠ .parked → s.slices[k].unreachable = s.slices[k].reportTimer.isNone)

/-- A candidate is IDLE exactly when its kind is NONE; its stored health is true exactly in RESTORING and AVAILABLE;
only a SUSPECT candidate has a hold-off timer and only a RESTORING one a WTR timer, paused exactly under the maintenance
hold (R19 to R25). -/
def CandidateOk (c : Cand) : Prop :=
  (c.state = .idle ↔ c.kind = .none) ∧ c.health = (decide (c.state = .restoring) || decide (c.state = .available)) ∧
    (c.state = .available → c.fresh = false) ∧
    match c.timer with
    | .none => c.state ≠ .restoring ∧ c.state ≠ .suspect
    | .holdOff _ => c.state = .suspect
    | .wtr _ => c.state = .restoring ∧ c.maintHold = false
    | .wtrPaused _ => c.state = .restoring ∧ c.maintHold = true

/-- Every candidate is in a legal combination of kind, state, health and timer. -/
def CandidatesOk (s : State) : Prop := ∀ n : Slot, CandidateOk s.cands[n]

/-- A tick input: the settings in their ranges (R47, R48), a MISSING input holds no gate, no window and no offset and is
not qualified (R37), a gate has fewer than 8,000 ticks (R39), the window no more than W counts (R40), and an offset lies
within 50,000 ppb (R42). -/
def InputOk (i : TickInput) : Prop :=
  1 ≤ i.windowLen ∧ i.windowLen ≤ 16 ∧ i.acceptPpb ≤ i.rejectPpb ∧ i.rejectPpb ≤ 20000 ∧
    (i.active = true → i.watched = true) ∧
    (i.active = false → i.gate = none ∧ i.window = [] ∧ i.offset = none ∧ i.qualified = false ∧ i.beyond = false) ∧
    (∀ g, i.gate = some g → g.ticks < 8000) ∧ i.window.length ≤ i.windowLen ∧
    (∀ o, i.offset = some o → -50000 ≤ o ∧ o ≤ 50000)

/-- Every tick input is well formed, and an input is watched exactly when its slot's kind is not NONE (R36). -/
def InputsOk (s : State) : Prop :=
  ∀ n : Slot, InputOk s.inputs[n] ∧ s.inputs[n].watched = decide (s.cands[n].kind ≠ .none)

/-- Every effective grade is the one that R68 and R69 give from the grade state, the kind and the triples. -/
def GradesCurrent (s : State) : Prop := ∀ n : Slot, s.grades[n].eff = effectiveGrade s n

/-- A candidate is held exactly while its receive map is detached (R64 to R66, R72), and a candidate with no received
code has mapped rank 15 (R59, R61). -/
def HeldWithMap (s : State) : Prop :=
  ∀ n : Slot,
    s.grades[n].held = !s.rmaps[s.grades[n].rmap].attached ∧
      ((∀ c, s.grades[n].code ≠ .received c) → s.grades[n].mapped = 15)

/-- No slot is bound by two port entries in use, and an entry out of use binds none (R53, R54). -/
def BindingsUnique (s : State) : Prop :=
  (boundSlots s.rxPorts).Nodup ∧ ∀ p : PortId, s.rxPorts[p].inUse = false → s.rxPorts[p].bound = none

/-- The Notice Unit's copies of a port's use and binding are the port table's (R138); a port out of use has no dynamic
state (R148); a port in use has a running periodic timer (R143) and at most 3 EVENT notices in a budget window (R144).
-/
def TransmitPortsOk (s : State) : Prop :=
  ∀ p : PortId,
    s.txPorts[p].inUse = s.rxPorts[p].inUse ∧ s.txPorts[p].bound = s.rxPorts[p].bound ∧
      s.txPorts[p].periodic.isSome = s.txPorts[p].inUse ∧ s.txPorts[p].count ≤ 3 ∧
      (s.txPorts[p].inUse = false →
        s.txPorts[p].lastSent = none ∧ s.txPorts[p].heldCode = none ∧ s.txPorts[p].count = 0 ∧
          s.txPorts[p].changePending = false)

/-- The condition that a copy stands for, as its block holds it (R46, R62, R122, R154). -/
def conditionNow (s : State) (c : CondId) : Bool :=
  if h : c.val < 24 then s.grades[(⟨c.val, h⟩ : Slot)].noticeLost
  else if h2 : c.val < 48 then s.inputs[(⟨c.val - 24, by omega⟩ : Slot)].freqFail
  else if h3 : c.val < 64 then s.slices[(⟨c.val - 48, by omega⟩ : ShelfId)].unreachable
  else groupPresent s ⟨c.val - 64, by omega⟩

/-- Every condition copy is up to date (R153). -/
def ConditionsCurrent (s : State) : Prop := ∀ c : CondId, s.events.copies[c] = conditionNow s c

/-- A latch of a kind that is not enabled is CLEAR; an ACKED_WAITING latch is a level latch whose condition is present;
only condition kinds are LEVEL (R155 to R157). -/
def LatchesOk (s : State) : Prop :=
  s.events.levels &&& ~~~conditionKinds = 0 ∧
    ∀ l : LatchId,
      (s.events.enabled l = false → s.events.latches[l] = .clear) ∧
        (s.events.latches[l] = .ackedWaiting → s.events.isLevel l = true ∧ s.events.present l = true)

/-- Every setting lies in its range (R18, R67, R79, R109, R133, R135, R138, R49, R160). -/
def SettingsInRange (s : State) : Prop :=
  (∀ n : Slot,
      s.cands[n].holdOffMs ≤ 2550 ∧ s.cands[n].holdOffMs % 10 = 0 ∧ s.cands[n].wtrS ≤ 1200 ∧
        (s.cands[n].kind ≠ .shelf → s.cands[n].source = 0) ∧ 2 ≤ s.grades[n].timeoutS ∧ s.grades[n].timeoutS ≤ 30) ∧
    (∀ k : ShelfId,
      s.shelves[k].sel.minRank ≤ 14 ∧ 1 ≤ s.shelves[k].sel.hopLimit ∧ 1 ≤ s.slices[k].cfg.lockS ∧
        s.slices[k].cfg.lockS ≤ 255 ∧ 1 ≤ s.slices[k].cfg.reportS ∧ s.slices[k].cfg.reportS ≤ 30 ∧
        s.slices[k].cfg.settleS ≤ 255 ∧ s.slices[k].cfg.holdoverRank ≤ s.slices[k].cfg.freerunRank ∧
        s.slices[k].cfg.budgetMin ≤ 1440) ∧
    (∀ p : PortId, 1 ≤ s.txPorts[p].intervalS ∧ s.txPorts[p].intervalS ≤ 10) ∧
    -10000 ≤ s.correction ∧ s.correction ≤ 10000 ∧ s.baseTag &&& 0xF = 0 ∧ 100 ≤ s.events.spacingMs ∧
    s.events.spacingMs ≤ 10000 ∧ s.events.spacingMs % 10 = 0 ∧ s.events.summaryS ≤ 60

/-- While the agent has an operation at the engine or an answer to place, its request stands at the head of the request
queue (R10, R13, R84); a write of a shelf or of a list entry that waits at the engine has passed its checks (R164,
R166). -/
def HeadRequestKept (s : State) : Prop :=
  match s.agent.phase with
  | .ready | .restarting => True
  | .answerWaiting _ => s.lane.requests ≠ []
  | .engineOp =>
    ∃ f rest r, s.lane.requests = f :: rest ∧ requestOf f = some r ∧
      (requestRow f = .writeShelf → checkWriteShelf r = none) ∧
      (requestRow f = .writeListEntry → checkWriteListEntry r = none)

end Sys2Proof.Machine
end

