-- ==== Sys2Proof/Certificates/Slice0/Obligations.lean ====
section
/-! DEFINITION. The statements for the provers, one per entry of OBLIGATIONS.json. -/

open Sys2Proof Sys2Proof.Machine

/-! ### The step and the state after reset -/

/-- One step takes the command at the front of the queue and is exec of it on the state with the queue's rest; with an
empty queue the state stays as it is (the model's own choice, log entry 2). -/
def Obligations.StepTakesFrontCommand : Prop :=
  (∀ (c : Instr) (rest : List Instr) (s : State), s.pending = c :: rest → step s = exec c { s with pending := rest }) ∧
    ∀ s : State, s.pending = [] → step s = .next s

/-- POWER_ON with the strap pins at 0x000, on a part whose oscillator has not run, whose reset line is not asserted and
whose queue is empty, gives State.reset (that the straps read 0x000 is the model's choice, log entry 6), and every
invariant that a statement below keeps over steps holds there. -/
def Obligations.ResetIsPowerOnAndSafe : Prop :=
  (∀ s : State, s.osc = 0 → s.lane.resetAsserted = false → s.pending = [] → exec (.powerOn 0) s = .next State.reset) ∧
    QueuesBounded State.reset ∧ ArbitersServe State.reset ∧ EngineQueueOk State.reset ∧
    ListsHaveNoDuplicates State.reset ∧ CascadeAcyclic State.reset ∧ SlicesFollowTargets State.reset ∧
    CandidatesOk State.reset ∧ GradesCurrent State.reset ∧ LatchesOk State.reset ∧ HeadRequestKept State.reset ∧
    TransmitPortsOk State.reset ∧ SettingsInRange State.reset ∧ BindingsUnique State.reset ∧ TargetsListed State.reset ∧
    SliceTimersOk State.reset ∧ InputsOk State.reset ∧ HeldWithMap State.reset ∧ ConditionsCurrent State.reset

/-! ### Power-on, the reset line and the restart -/

/-- POWER_ON, and RESET_LINE_RELEASED on an asserted line, complete: the straps are sampled, all six queues are empty
with LOCAL served last and nothing in transmission, every semaphore is FREE, and the restart record shows POWER_ON
alone, or gains RESET_LINE (R15, R16, R167, R180). The model's choices: POWER_ON leaves the reset line at its level (log
entry 7), and both keep the oscillator count and the queue of waiting commands (log entry 14). -/
def Obligations.PowerUpStartsLaneAndAgent : Prop :=
  ∀ (a : Address) (s : State),
    (∃ t, exec (.powerOn a) s = .next t ∧ startsLaneAndAgent a t ∧
      t.agent.record = { powerOn := true, resetLine := false, restartRequest := false } ∧
      Part.same .osc s t ∧ Part.same .pending s t ∧ t.lane.resetAsserted = s.lane.resetAsserted) ∧
    (s.lane.resetAsserted = true →
      ∃ t, exec (.resetLineReleased a) s = .next t ∧ startsLaneAndAgent a t ∧
        t.agent.record = { s.agent.record with resetLine := true } ∧
        Part.same .osc s t ∧ Part.same .pending s t ∧ t.lane.resetAsserted = false)

/-- R34: what every slot of the Candidate Manager holds at power-on and when the reset line is released, with nothing
raised for it and no input watched; the evaluation queue is empty (R107). That removals handed over before are gone too
is log entry 5 (DEDUCED). -/
def Obligations.PowerUpCandidates : Prop :=
  ∀ s t : State, PoweredUp s t →
    (∀ n : Slot,
      t.cands[n] =
          { kind := .none, source := 0, holdOffMs := 300, wtrS := 300, maintHold := false, state := .idle,
              fresh := true,
            health := false, timer := .none } ∧
        t.events.latches[candLatch 0 n] = .clear ∧ t.inputs[n].watched = false) ∧
      t.engine.queue = [] ∧ t.flight.removals = []

/-- R162: what the Event Unit holds at power-on and when the reset line is released; every list is empty, so every GROUP
is absent and the copies agree with the blocks. -/
def Obligations.PowerUpEventUnit : Prop :=
  ∀ s t : State, PoweredUp s t →
    t.events.enables = 0 ∧ t.events.levels = 0 ∧ t.events.destination = 0 ∧ t.events.spacingMs = 1000 ∧
      t.events.summaryS = 10 ∧ (∀ l : LatchId, t.events.latches[l] = .clear) ∧
      (∀ c : CondId, t.events.copies[c] = false ∧ conditionNow t c = false) ∧ t.events.news = false ∧
      t.events.resume = none ∧ t.events.spacingTimer = none ∧
      t.events.summaryTimer = some (s.osc + 10 * 125000000)

/-- RESET_LINE_ASSERTED: the part takes and sends no frames, and a frame in transmission stops at once (R16). The model
lets the other blocks go on until the release (log entry 7). -/
def Obligations.ResetAssertStopsLane : Prop :=
  ∀ s : State, ∃ t, exec .resetLineAsserted s = .next t ∧ t.lane.resetAsserted = true ∧
    t.lane.fabric = { s.lane.fabric with sending := none } ∧ t.lane.control = { s.lane.control with sending := none } ∧
    sameBut [.resetLevel, .fabric, .control] s t

/-- The end of the RESTART answer's transmission, as DEVICE_RESTART or as TRANSMISSION_END on the CONTROL port, is the
restart: the queues are emptied and LOCAL is recorded, the loaded tables are kept, every block takes its restart values,
every unparked shelf is queued and directed to hold with sequence 1 (R17, R35, R52, R76, R108, R130, R137, R151, R163,
R182). That the two commands are one event is log entry 9 (DEDUCED), that no hand-over made before it arrives after it
is log entry 5 (DEDUCED), and that the Directives are placed in increasing shelf number is the model's choice (log entry
28). -/
def Obligations.RestartKeepsTables : Prop :=
  ∀ (s : State) (f : OutFrame), s.lane.control.sending = some f → f.isRestartAnswer = true →
    let unparked := (List.finRange 16).filter fun k => decide (s.slices[k].timing ≠ .parked)
    let triple : ShelfId → Triple := fun k =>
      { rank := if s.slices[k].timing = .parked then 15 else s.slices[k].cfg.freerunRank, hop := 0,
        origin := { tag := ownTag s.baseTag k, isPartial := false } }
    let timing : ShelfId → Timing := fun k => if s.slices[k].timing = .parked then .parked else .freerun
    ∃ t, exec .deviceRestart s = .next t ∧ exec (.transmissionEnd .control) s = .next t ∧
      t.lane =
        { s.lane with
          control := { transitQ := [], localQ := [], servedLast := .localQ, sending := none }
          localIn := []
          requests := []
          fabric :=
            offeredInOrder s.lane.live (unparked.map fun k => directiveTo s k 1 none)
              { transitQ := [], localQ := [], servedLast := .localQ, sending := s.lane.fabric.sending } } ∧
      (∀ n : Slot,
        t.cands[n] =
            { s.cands[n] with
              state := if s.cands[n].kind = .none then .idle else .down
              fresh := true
              health := false
              timer := .none } ∧
          t.inputs[n] =
            { s.inputs[n] with
              active := false, gate := none, window := [], lastGate := none, offset := none, beyond := false,
              qualified := false } ∧
          t.grades[n] =
            { s.grades[n] with
              code := .pending
              path := none
              mapped := 15
              held := false
              timer :=
                if s.cands[n].kind = .line ∧ (portOf s.rxPorts n).isSome = true then
                  some (s.osc + s.grades[n].timeoutS * 125000000)
                else none
              eff := effectiveGrade t n }) ∧
      (∀ k : ShelfId,
        t.shelves[k] = { s.shelves[k] with command := .none, failed := Vector.replicate 24 false, target := none } ∧
          t.slices[k] =
            { s.slices[k] with
              timing := timing k
              target := none
              seq := if s.slices[k].timing = .parked then 0 else 1
              action := .hold
              unsent := false
              lastReport := none
              history := false
              unreachable := false
              lockTimer := none
              settleTimer := none
              reportTimer :=
                if s.slices[k].timing = .parked then none
                else some (s.osc + s.slices[k].cfg.reportS * 125000000)
              holdoverSince := none
              exhausted := false
              triple := triple k } ∧
          t.triples[k] = triple k ∧ t.copies[k] = { triple := triple k, target := none, timing := timing k } ∧
          t.events.copies[condGroup k] = groupPresent t k) ∧
      t.engine = { s.engine with queue := unparked.map fun k => ⟨k, none⟩, count := 0 } ∧
      (∀ m : MapId, t.rmaps[m] = { s.rmaps[m] with attached := true } ∧
        t.tmaps[m] = { s.tmaps[m] with attached := true }) ∧
      (∀ p : PortId,
        t.txPorts[p] =
          { s.txPorts[p] with
            lastSent := none
            heldCode := none
            periodic := if s.txPorts[p].inUse then some (s.osc + s.txPorts[p].intervalS * 125000000) else none
            count := 0
            changePending := false }) ∧
      t.windowStart = s.osc ∧
      (∀ l : LatchId, t.events.latches[l] = .clear) ∧ (∀ c : CondId, c.val < 64 → t.events.copies[c] = false) ∧
      t.events.news = false ∧ t.events.resume = none ∧ t.events.spacingTimer = none ∧
      t.events.summaryTimer =
        (if s.events.summaryS = 0 then none else some (s.osc + s.events.summaryS * 125000000)) ∧
      (∀ b : Fin 5, t.agent.sems[b] = none) ∧ t.agent.record = { s.agent.record with restartRequest := true } ∧
      t.agent.phase = .ready ∧ t.flight = { health := [], removals := [], triples := [], grades := [], notices := [] } ∧
      sameBut [.fabric, .control, .localIn, .requests, .cands, .inputs, .grades, .rmaps, .triples, .shelves, .queue,
          .count,
        .slices, .txPorts, .tmaps, .copies, .windowStart, .latches, .conditions, .noticeState, .semaphores, .record,
            .phase,
        .healthReports, .removals, .tripleHandovers, .gradeHandovers, .noticeHandovers] s t

/-! ### Frames on the lane -/

/-- FRAME_RECEIVED while the reset line is asserted, of a frame begun then, or of a frame that fails the frame check
changes nothing (R2, R16). A frame that passes, with room in the queue it is bound for, is placed by Table 1-2 with the
form check of R5, by kind (0x31 Received Grade Notice, 0x42 Lock Report, 0x51 Management Request), port and destination
(R3 to R5). -/
def Obligations.FramesClassified : Prop :=
  (∀ (port : LanePort) (f : Frame) (begun : Bool) (s : State),
    s.lane.resetAsserted = true ∨ begun = true ∨ frameCheck f = false →
      exec (.frameReceived port f begun) s = .next s) ∧
  ∀ (port : LanePort) (f : Frame) (s : State), s.lane.resetAsserted = false → frameCheck f = true →
    ∃ t, exec (.frameReceived port f false) s = .next t ∧
      (port = .fabric →
        (frameKind f = 0x31 → frameBodyLen f = 5 ∨ frameBodyLen f = 13 → s.lane.localIn.length < 16 →
          t.lane.localIn = s.lane.localIn ++ [f] ∧ sameBut [.localIn] s t) ∧
        (frameKind f = 0x42 → frameDest f = s.lane.strap →
          (frameBodyLen f = 5 → s.lane.localIn.length < 16 →
            t.lane.localIn = s.lane.localIn ++ [f] ∧ sameBut [.localIn] s t) ∧
          (frameBodyLen f ≠ 5 → t = s)) ∧
        (frameKind f = 0x51 → frameDest f = s.lane.strap → t = s) ∧
        ((frameKind f = 0x31 ∧ frameBodyLen f ≠ 5 ∧ frameBodyLen f ≠ 13) ∨
            (frameKind f = 0x42 ∧ frameDest f ≠ s.lane.strap) ∨ (frameKind f = 0x51 ∧ frameDest f ≠ s.lane.strap) ∨
            (frameKind f ≠ 0x31 ∧ frameKind f ≠ 0x42 ∧ frameKind f ≠ 0x51) →
          s.lane.control.transitQ.length < 64 →
          t.lane.control = OutPort.serve true { s.lane.control with transitQ := s.lane.control.transitQ ++ [f] } ∧
            sameBut [.control] s t)) ∧
      (port = .control →
        (frameKind f = 0x51 → frameDest f = s.lane.strap → s.lane.requests.length < 4 →
          t.lane.requests = s.lane.requests ++ [f] ∧ sameBut [.requests] s t) ∧
        (frameKind f ≠ 0x51 ∨ frameDest f ≠ s.lane.strap → s.lane.fabric.transitQ.length < 64 →
          t.lane.fabric = OutPort.serve true { s.lane.fabric with transitQ := s.lane.fabric.transitQ ++ [f] } ∧
            sameBut [.fabric] s t))

/-- FRAME_RECEIVED of a frame that passes the check and finds its queue full: the overflow latch is raised, which may
send one Event Notice; a request, a Lock Report and a transit frame of either direction are discarded, and a Received
Grade Notice goes on to transit, or, with the transit queue full too, is discarded with TRANSIT_OVERFLOW as well (R6,
R8, R10). That LOCAL_OVERFLOW comes before the notice joins the transit queue is the model's choice (log entry 17). The
CONTROL port is taken to serve what waits, as StepKeepsArbitersServing says it always does. -/
def Obligations.FullQueuesRaiseOverflow : Prop :=
  ∀ (f : Frame) (s : State), s.lane.resetAsserted = false → frameCheck f = true → s.lane.control.workConserving →
    (frameKind f = 0x51 → frameDest f = s.lane.strap → 4 ≤ s.lane.requests.length →
      ∃ t, exec (.frameReceived .control f false) s = .next t ∧ raisedBy (deviceLatch 2) s t ∧
          edgeRaised (deviceLatch 2) s t ∧
        sameBut [.latches, .noticeState, .control] s t) ∧
    (frameKind f ≠ 0x51 ∨ frameDest f ≠ s.lane.strap → 64 ≤ s.lane.fabric.transitQ.length →
      ∃ t, exec (.frameReceived .control f false) s = .next t ∧ raisedBy (deviceLatch 0) s t ∧
          edgeRaised (deviceLatch 0) s t ∧
        sameBut [.latches, .noticeState, .control] s t) ∧
    ((frameKind f = 0x31 ∧ frameBodyLen f ≠ 5 ∧ frameBodyLen f ≠ 13) ∨
        (frameKind f = 0x42 ∧ frameDest f ≠ s.lane.strap) ∨ (frameKind f = 0x51 ∧ frameDest f ≠ s.lane.strap) ∨
        (frameKind f ≠ 0x31 ∧ frameKind f ≠ 0x42 ∧ frameKind f ≠ 0x51) →
      64 ≤ s.lane.control.transitQ.length →
      ∃ t, exec (.frameReceived .fabric f false) s = .next t ∧ raisedBy (deviceLatch 0) s t ∧
          edgeRaised (deviceLatch 0) s t ∧
        sameBut [.latches, .noticeState, .control] s t) ∧
    (frameKind f = 0x42 → frameDest f = s.lane.strap → frameBodyLen f = 5 → 16 ≤ s.lane.localIn.length →
      ∃ t, exec (.frameReceived .fabric f false) s = .next t ∧ raisedBy (deviceLatch 1) s t ∧
          edgeRaised (deviceLatch 1) s t ∧
        sameBut [.latches, .noticeState, .control] s t) ∧
    (frameKind f = 0x31 → frameBodyLen f = 5 ∨ frameBodyLen f = 13 → 16 ≤ s.lane.localIn.length →
      ∃ u t, exec (.frameReceived .fabric f false) s = .next t ∧ raisedBy (deviceLatch 1) s u ∧
          edgeRaised (deviceLatch 1) s u ∧
        sameBut [.latches, .noticeState, .control] s u ∧
        if s.lane.control.transitQ.length < 64 then
          t.lane.control = OutPort.serve true { u.lane.control with transitQ := s.lane.control.transitQ ++ [f] } ∧
            sameBut [.control] u t
        else raisedBy (deviceLatch 0) u t ∧ edgeRaised (deviceLatch 0) u t ∧
            sameBut [.latches, .noticeState, .control] u t)

/-- TRANSMISSION_END on either port, but for the RESTART answer: the arbiter serves the claimant that waits, and with
both waiting the one not served last; the head frame leaves its queue and begins transmission (R14). -/
def Obligations.ArbiterAlternates : Prop :=
  ∀ (s : State) (g : OutFrame), s.lane.resetAsserted = false →
    (s.lane.fabric.sending = some g →
      ∃ t, exec (.transmissionEnd .fabric) s = .next t ∧ sameBut [.fabric] s t ∧
        (s.lane.fabric.transitQ = [] → s.lane.fabric.localQ = [] →
          t.lane.fabric = { s.lane.fabric with sending := none }) ∧
        (∀ f q, s.lane.fabric.transitQ = f :: q → s.lane.fabric.localQ = [] ∨ s.lane.fabric.servedLast = .localQ →
          t.lane.fabric =
            { s.lane.fabric with transitQ := q, sending := some ⟨f, false⟩, servedLast := .transit }) ∧
        (∀ f q, s.lane.fabric.localQ = f :: q → s.lane.fabric.transitQ = [] ∨ s.lane.fabric.servedLast = .transit →
          t.lane.fabric = { s.lane.fabric with localQ := q, sending := some f, servedLast := .localQ })) ∧
    (s.lane.control.sending = some g → g.isRestartAnswer = false →
      ∃ t, exec (.transmissionEnd .control) s = .next t ∧ sameBut [.control] s t ∧
        (s.lane.control.transitQ = [] → s.lane.control.localQ = [] →
          t.lane.control = { s.lane.control with sending := none }) ∧
        (∀ f q, s.lane.control.transitQ = f :: q → s.lane.control.localQ = [] ∨ s.lane.control.servedLast = .localQ →
          t.lane.control =
            { s.lane.control with transitQ := q, sending := some ⟨f, false⟩, servedLast := .transit }) ∧
        (∀ f q, s.lane.control.localQ = f :: q → s.lane.control.transitQ = [] ∨ s.lane.control.servedLast = .transit →
          t.lane.control = { s.lane.control with localQ := q, sending := some f, servedLast := .localQ }))

/-! ### Tick inputs -/

/-- TICK outside a gate's end: on an unwatched input only time passes; on a MISSING input the activity becomes ACTIVE;
on an ACTIVE input whose 1 ms span has not passed the tick opens a gate or is counted (R36, R38, R39). -/
def Obligations.TicksCounted : Prop :=
  ∀ (n : Slot) (d : Nat) (s : State), InputOk s.inputs[n] →
    (s.inputs[n].watched = false → exec (.tick n d) s = .next { s with osc := s.osc + d }) ∧
    (s.inputs[n].watched = true → s.inputs[n].active = false →
      ∃ t, exec (.tick n d) s = .next t ∧ t.osc = s.osc + d ∧ sameBut [.osc, .inputs] s t ∧
        t.inputs = s.inputs.set n { s.inputs[n] with active := true, lastTick := s.osc + d }) ∧
    (s.inputs[n].watched = true → s.inputs[n].active = true → s.osc + d ≤ s.inputs[n].lastTick + 125000 →
      (s.inputs[n].gate = none →
        ∃ t, exec (.tick n d) s = .next t ∧ t.osc = s.osc + d ∧ sameBut [.osc, .inputs] s t ∧
          t.inputs = s.inputs.set n
            { s.inputs[n] with lastTick := s.osc + d, gate := some { ticks := 0, openedAt := s.osc + d } }) ∧
      ∀ g, s.inputs[n].gate = some g → g.ticks < 7999 →
        ∃ t, exec (.tick n d) s = .next t ∧ t.osc = s.osc + d ∧ sameBut [.osc, .inputs] s t ∧
          t.inputs = s.inputs.set n
            { s.inputs[n] with lastTick := s.osc + d, gate := some { g with ticks := g.ticks + 1 } })

/-- TICK at a gate's end: the gate count joins the window, the next gate opens, and with W counts in the window the
offset is computed (in range: R41 and R42; out of range: R43) and judged with hysteresis (R44); a change of health is
reported (R39, R40, R45). -/
def Obligations.GateCompletes : Prop :=
  ∀ (n : Slot) (d : Nat) (s : State) (g : Gate),
    s.inputs[n].watched = true → s.inputs[n].active = true → s.osc + d ≤ s.inputs[n].lastTick + 125000 →
    s.inputs[n].gate = some g → g.ticks = 7999 → 1 ≤ s.inputs[n].windowLen →
    s.inputs[n].window.length ≤ s.inputs[n].windowLen →
    ∃ t, exec (.tick n d) s = .next t ∧
      t.inputs[n].lastGate = some (s.osc + d - g.openedAt) ∧
      t.inputs[n].gate = some { ticks := 0, openedAt := s.osc + d } ∧
      t.inputs[n].window =
        (if s.inputs[n].window.length = s.inputs[n].windowLen then s.inputs[n].window.tail else s.inputs[n].window) ++
          [s.osc + d - g.openedAt] ∧
      (t.inputs[n].window.length < s.inputs[n].windowLen →
        t.inputs[n].offset = s.inputs[n].offset ∧ t.inputs[n].qualified = s.inputs[n].qualified) ∧
      (t.inputs[n].window.length = s.inputs[n].windowLen →
        ((∀ c ∈ t.inputs[n].window, 124993750 ≤ c ∧ c ≤ 125006250) →
          t.inputs[n].beyond = false ∧
            t.inputs[n].offset =
              some (max (-50000) (min 50000
                (roundDiv (((s.inputs[n].windowLen : Int) * 125000000 - (t.inputs[n].window.sum : Nat)) * 8)
                  s.inputs[n].windowLen - s.correction)))) ∧
        (∀ a c b, t.inputs[n].window = a ++ c :: b → c < 124993750 ∨ 125006250 < c →
          (∀ x ∈ b, 124993750 ≤ x ∧ x ≤ 125006250) →
          t.inputs[n].beyond = true ∧ t.inputs[n].offset = some (if c < 124993750 then 50000 else -50000)) ∧
        ∀ o, t.inputs[n].offset = some o →
          t.inputs[n].qualified =
            if s.inputs[n].qualified then decide (o.natAbs ≤ s.inputs[n].rejectPpb)
            else decide (o.natAbs ≤ s.inputs[n].acceptPpb)) ∧
      t.flight.health =
        (if t.inputs[n].qualified = s.inputs[n].qualified then s.flight.health
          else s.flight.health ++ [(n, t.inputs[n].qualified)]) ∧
      (∀ m : Slot, m ≠ n → t.inputs[m] = s.inputs[m]) ∧
      sameBut [.osc, .inputs, .healthReports, .latches, .conditions, .noticeState, .control] s t

/-- TICK_LOSS on an ACTIVE input: it becomes MISSING, with gate, window and offset discarded and not qualified; a
healthy input's loss is reported, and FREQ_FAIL goes absent (R37, R45, R46). -/
def Obligations.TickLossEntersMissing : Prop :=
  ∀ (n : Slot) (s : State), s.inputs[n].watched = true → s.inputs[n].active = true →
    ∃ t, exec (.tickLoss n) s = .next t ∧ s.inputs[n].lastTick + 125000 ≤ t.osc ∧
      t.inputs = s.inputs.set n
        { s.inputs[n] with
          active := false
          gate := none
          window := []
          lastGate := none
          offset := none
          beyond := false
          qualified := false } ∧
      t.flight.health = (if s.inputs[n].qualified then s.flight.health ++ [(n, false)] else s.flight.health) ∧
      (s.inputs[n].freqFail = true → t.events.copies[condFreqFail n] = false) ∧
      sameBut [.osc, .inputs, .healthReports, .latches, .conditions, .noticeState, .control] s t

/-! ### Candidates -/

/-- HEALTH_REPORT on a bound candidate: the transitions of R19 to R23, and what a change of state hands on (R30 to R32).
-/
def Obligations.HealthReportMovesCandidate : Prop :=
  ∀ (n : Slot) (h : Bool) (before after : List (Slot × Bool)) (s : State),
    s.flight.health = before ++ (n, h) :: after → (∀ x ∈ before, x.1 ≠ n) →
    ∃ t, exec (.healthReport n) s = .next t ∧ t.flight.health = before ++ after ∧
      (s.cands[n].state = .idle → t.cands[n] = s.cands[n]) ∧
      (s.cands[n].state = .down → h = true →
        (s.cands[n].fresh = true →
          t.cands[n] = { s.cands[n] with health := true, state := .available, fresh := false, timer := .none }) ∧
        (s.cands[n].fresh = false → 0 < s.cands[n].wtrS → s.cands[n].maintHold = false →
          t.cands[n] =
            { s.cands[n] with
              health := true, state := .restoring, timer := .wtr (s.osc + s.cands[n].wtrS * 125000000) }) ∧
        (s.cands[n].fresh = false → s.cands[n].maintHold = true →
          t.cands[n] =
            { s.cands[n] with
              health := true, state := .restoring, timer := .wtrPaused (s.cands[n].wtrS * 125000000) }) ∧
        (s.cands[n].fresh = false → s.cands[n].wtrS = 0 → s.cands[n].maintHold = false →
          t.cands[n] = { s.cands[n] with health := true, state := .available, fresh := false, timer := .none })) ∧
      (s.cands[n].state = .restoring → h = false →
        t.cands[n] = { s.cands[n] with health := false, state := .down, timer := .none }) ∧
      (s.cands[n].state = .available → h = false →
        t.cands[n] =
          if 0 < s.cands[n].holdOffMs then
            { s.cands[n] with
              health := false, state := .suspect, timer := .holdOff (s.osc + s.cands[n].holdOffMs * 125000) }
          else { s.cands[n] with health := false, state := .down, timer := .none }) ∧
      (s.cands[n].state = .suspect → h = true →
        t.cands[n] = { s.cands[n] with health := true, state := .available, fresh := false, timer := .none }) ∧
      (s.cands[n].state = .down ∧ h = false ∨ s.cands[n].state = .restoring ∧ h = true ∨
          s.cands[n].state = .available ∧ h = true ∨ s.cands[n].state = .suspect ∧ h = false →
        t.cands[n] = { s.cands[n] with health := h }) ∧
      (∀ m : Slot, m ≠ n → t.cands[m] = s.cands[m]) ∧
      (if t.cands[n].state = s.cands[n].state then sameBut [.cands, .healthReports] s t
        else
          candStateTold n s t ∧
            t.flight.removals =
              (if s.cands[n].state = .available then s.flight.removals ++ [n] else s.flight.removals) ∧
            sameBut [.cands, .healthReports, .latches, .conditions, .noticeState, .control, .queue, .removals] s t)

/-- R82: a removal takes the slot out of every lock-failed set and changes nothing else. -/
def Obligations.RemovalLeavesLockFailedSets : Prop :=
  ∀ (n : Slot) (before after : List Slot) (s : State),
    s.flight.removals = before ++ n :: after → n ∉ before →
    ∃ t, exec (.lockFailedRemoval n) s = .next t ∧ t.flight.removals = before ++ after ∧
      (∀ (k : ShelfId) (m : Slot), t.shelves[k].failed[m] = if m = n then false else s.shelves[k].failed[m]) ∧
      (∀ k : ShelfId, t.shelves[k] = { s.shelves[k] with failed := t.shelves[k].failed }) ∧
      sameBut [.removals, .shelves] s t

/-- HOLD_OFF_EXPIRY takes a SUSPECT candidate to DOWN, and WTR_EXPIRY a RESTORING one to AVAILABLE, no earlier than the
timer's duration; the change is told (R22, R23, R30, R31). -/
def Obligations.CandidateTimersExpire : Prop :=
  ∀ (n : Slot) (due : Nat) (s : State),
    (s.cands[n].state = .suspect → s.cands[n].timer = .holdOff due →
      ∃ t, exec (.holdOffExpiry n) s = .next t ∧ t.osc = max s.osc due ∧
        t.cands = s.cands.set n { s.cands[n] with state := .down, timer := .none } ∧ candStateTold n s t ∧
        sameBut [.osc, .cands, .latches, .conditions, .noticeState, .control, .queue] s t) ∧
    (s.cands[n].state = .restoring → s.cands[n].timer = .wtr due →
      ∃ t, exec (.wtrExpiry n) s = .next t ∧ t.osc = max s.osc due ∧
        t.cands = s.cands.set n { s.cands[n] with state := .available, fresh := false, timer := .none } ∧
        candStateTold n s t ∧ sameBut [.osc, .cands, .latches, .conditions, .noticeState, .control, .queue] s t)

/-! ### Received grades -/

/-- RECEIVED_GRADE_NOTICE for a port that binds a LINE candidate: the code, the path block and the notice timer follow
the notice, the mapped rank follows an attached map and is held under a detached one, and the effective grade is
recomputed (R58, R64, R68, R69); a change is handed on and NOTICE_LOST goes absent (R62, R71), and then the frame is
absorbed or forwarded as the entry says, u being the state before that (R9, R58). The CONTROL port is taken to serve
what waits, as StepKeepsArbitersServing says it always does. -/
def Obligations.NoticeGradesLineCandidate : Prop :=
  ∀ (f : Frame) (rest : List Frame) (p : PortId) (c : Code) (n : Slot) (s : State),
    s.lane.localIn = f :: rest → frameKind f = 0x31 →
    byteAt (frameBody f) 0 < 16 → byteAt (frameBody f) 1 < 16 →
    p.val = byteAt (frameBody f) 0 * 16 + byteAt (frameBody f) 1 → byteAt (frameBody f) 3 = c.val →
    s.rxPorts[p].inUse = true → s.rxPorts[p].bound = some n → s.cands[n].kind = .line → s.lane.control.workConserving →
    ∃ u t, exec .receivedGradeNotice s = .next t ∧ t.lane.localIn = rest ∧
      t.grades[n].code = .received c ∧
      (frameBodyLen f ≠ 13 → t.grades[n].path = none) ∧
      (frameBodyLen f = 13 →
        ∃ q, t.grades[n].path = some q ∧ q.origin.tag = BitVec.ofNat 48 (numAt (frameBody f) 5 6) ∧
          q.origin.isPartial = bitAt (frameBody f) 12 0 ∧ q.hop.val = min 31 (byteAt (frameBody f) 11)) ∧
      t.grades[n].timer = some (s.osc + s.grades[n].timeoutS * 125000000) ∧
      (s.rmaps[s.grades[n].rmap].attached = true →
        t.grades[n].mapped = s.rmaps[s.grades[n].rmap].entries[c] ∧ t.grades[n].held = false) ∧
      (s.rmaps[s.grades[n].rmap].attached = false →
        t.grades[n].mapped = s.grades[n].mapped ∧ t.grades[n].held = s.grades[n].held) ∧
      t.grades[n].eff = effectiveGrade t n ∧
      (∀ m : Slot, m ≠ n → t.grades[m] = s.grades[m]) ∧ gradeTold n s t ∧
      (s.grades[n].code = .timedOut → t.events.copies[condNoticeLost n] = false) ∧ eventTold s u ∧
      (s.rxPorts[p].absorb = true → t = u) ∧
      (s.rxPorts[p].absorb = false →
        if s.lane.control.transitQ.length < 64 then
          t.lane.control =
              OutPort.serve s.lane.live { u.lane.control with transitQ := s.lane.control.transitQ ++ [f] } ∧
            sameBut [.control] u t
        else raisedBy (deviceLatch 0) u t ∧ edgeRaised (deviceLatch 0) u t ∧
            sameBut [.latches, .noticeState, .control] u t) ∧
      sameBut [.localIn, .grades, .latches, .conditions, .noticeState, .control, .queue, .gradeHandovers] s t

/-- R57: a notice for an entry that binds no slot, or a slot of another kind than LINE, changes no grade state, and is
absorbed or forwarded by the entry's absorb flag, under R9 and R6. R56: a notice that names a shelf, a port or a code
above 15, or an entry not in use, changes no grade state and is returned unchanged to transit, whatever the absorb flag.
-/
def Obligations.NoticeWithoutLineCandidate : Prop :=
  (∀ (f : Frame) (rest : List Frame) (p : PortId) (s : State),
    s.lane.localIn = f :: rest → frameKind f = 0x31 → lookupNotice s f = some p →
    (∀ n, s.rxPorts[p].bound = some n → s.cands[n].kind ≠ .line) →
    ∃ t, exec .receivedGradeNotice s = .next t ∧ t.lane.localIn = rest ∧
      (s.rxPorts[p].absorb = true → sameBut [.localIn] s t) ∧
      (s.rxPorts[p].absorb = false →
        if s.lane.control.transitQ.length < 64 then
          t.lane.control =
              OutPort.serve s.lane.live { s.lane.control with transitQ := s.lane.control.transitQ ++ [f] } ∧
            sameBut [.localIn, .control] s t
        else raisedBy (deviceLatch 0) s t ∧ edgeRaised (deviceLatch 0)
            { s with lane := { s.lane with localIn := rest } } t ∧
            sameBut [.localIn, .latches, .noticeState, .control] s t)) ∧
  ∀ (f : Frame) (rest : List Frame) (s : State),
    s.lane.localIn = f :: rest → frameKind f = 0x31 →
    (15 < byteAt (frameBody f) 0 ∨ 15 < byteAt (frameBody f) 1 ∨ 15 < byteAt (frameBody f) 3 ∨
      ∃ p : PortId, p.val = byteAt (frameBody f) 0 * 16 + byteAt (frameBody f) 1 ∧ s.rxPorts[p].inUse = false) →
    ∃ t, exec .receivedGradeNotice s = .next t ∧ t.lane.localIn = rest ∧
      if s.lane.control.transitQ.length < 64 then
        t.lane.control =
            OutPort.serve s.lane.live { s.lane.control with transitQ := s.lane.control.transitQ ++ [f] } ∧
          sameBut [.localIn, .control] s t
      else raisedBy (deviceLatch 0) s t ∧ edgeRaised (deviceLatch 0)
          { s with lane := { s.lane with localIn := rest } } t ∧
          sameBut [.localIn, .latches, .noticeState, .control] s t

/-- NOTICE_TIMER_EXPIRY: the code state becomes TIMED_OUT, the mapped rank 15, the timer stops, the effective grade is
recomputed and NOTICE_LOST is present (R61, R62). -/
def Obligations.NoticeTimerExpires : Prop :=
  ∀ (n : Slot) (due : Nat) (s : State), s.grades[n].timer = some due →
    ∃ t, exec (.noticeTimerExpiry n) s = .next t ∧ t.osc = max s.osc due ∧
      t.grades = s.grades.set n
        { s.grades[n] with code := .timedOut, mapped := 15, timer := none, eff := effectiveGrade t n } ∧
      (s.grades[n].code ≠ .timedOut → t.events.copies[condNoticeLost n] = true) ∧
      sameBut [.osc, .grades, .latches, .conditions, .noticeState, .control, .queue, .gradeHandovers] s t

/-- TRIPLE_HANDOVER: the copy of the shelf's triple is replaced, and exactly the SHELF candidates fed from that shelf
are regraded (R70). -/
def Obligations.TripleHandoverRegrades : Prop :=
  ∀ (k : ShelfId) (tr : Triple) (before after : List (ShelfId × Triple)) (s : State),
    s.flight.triples = before ++ (k, tr) :: after → (∀ x ∈ before, x.1 ≠ k) →
    ∃ t, exec (.tripleHandover k) s = .next t ∧ t.flight.triples = before ++ after ∧ t.triples = s.triples.set k tr ∧
      (∀ n : Slot,
        t.grades[n] =
          if s.cands[n].kind = .shelf ∧ s.cands[n].source = k then { s.grades[n] with eff := effectiveGrade t n }
          else s.grades[n]) ∧
      sameBut [.tripleHandovers, .triples, .grades, .latches, .noticeState, .control, .queue, .gradeHandovers] s t

/-! ### The Notice Unit -/

/-- R142: a hand-over replaces the copy of the shelf, and every in-use port of the shelf, in increasing table index, has
its content compared and, within the budget, sent as an EVENT notice (R141, R145); ports out of use and ports of other
shelves stay as they are. -/
def Obligations.NoticeUnitTakesCopy : Prop :=
  ∀ (k : ShelfId) (c : NoticeCopy) (before after : List (ShelfId × NoticeCopy)) (s : State),
    s.flight.notices = before ++ (k, c) :: after → (∀ x ∈ before, x.1 ≠ k) →
    ∃ t, exec (.noticeUnitHandover k) s = .next t ∧
      inOrder portCompared
        ((List.finRange 256).filter fun p => decide (portShelf p = k) && s.txPorts[p].inUse)
        { s with copies := s.copies.set k c, flight := { s.flight with notices := before ++ after } } t ∧
      (∀ p : PortId, portShelf p ≠ k ∨ s.txPorts[p].inUse = false → t.txPorts[p] = s.txPorts[p]) ∧
      t.flight.notices = before ++ after ∧ t.copies = s.copies.set k c ∧
      sameBut [.noticeHandovers, .copies, .txPorts, .fabric] s t

/-- PERIODIC_TIMER_EXPIRY: a PERIODIC notice with the current content is offered outside the budget, and the timer
starts again (R143, R145). BUDGET_WINDOW_START, no earlier than 1 s after the window before: every in-use port's count,
in increasing table index, starts again from 0, and a change held back is compared and, where it still differs, sent as
an EVENT notice within the new budget (R141, R144). -/
def Obligations.NoticeTimersSend : Prop :=
  (∀ (p : PortId) (due : Nat) (s : State), s.txPorts[p].periodic = some due →
    ∃ t, exec (.periodicTimerExpiry p) s = .next t ∧ t.osc = max s.osc due ∧
      t.txPorts[p].periodic = some (max s.osc due + s.txPorts[p].intervalS * 125000000) ∧
      t.txPorts[p].count = s.txPorts[p].count ∧ t.txPorts[p].heldCode = portHeld s p ∧
      (if s.lane.fabric.localQ.length < 32 then
        t.lane.fabric =
            OutPort.serve s.lane.live
              { s.lane.fabric with
                localQ := s.lane.fabric.localQ ++ [⟨transmitFrame s p .periodic (portContent s p), false⟩] } ∧
          t.txPorts[p].lastSent = some (portContent s p) ∧ t.txPorts[p].changePending = false
      else
        t.lane.fabric = s.lane.fabric ∧ t.txPorts[p].lastSent = s.txPorts[p].lastSent ∧
          t.txPorts[p].changePending = decide (s.txPorts[p].lastSent ≠ some (portContent s p))) ∧
      (∀ q : PortId, q ≠ p → t.txPorts[q] = s.txPorts[q]) ∧ sameBut [.osc, .txPorts, .fabric] s t) ∧
  ∀ s : State, ∃ t, exec .budgetWindowStart s = .next t ∧ t.osc = max s.osc (s.windowStart + 125000000) ∧
    t.windowStart = t.osc ∧
    (∀ p : PortId, s.txPorts[p].inUse = false → t.txPorts[p] = s.txPorts[p]) ∧
    (∀ p : PortId, s.txPorts[p].inUse = true →
      (s.txPorts[p].changePending = false → t.txPorts[p] = { s.txPorts[p] with count := 0 }) ∧
        (s.txPorts[p].changePending = true → t.txPorts[p].count ≤ 1)) ∧
    inOrder windowStarted ((List.finRange 256).filter fun p => s.txPorts[p].inUse)
      { s with osc := max s.osc (s.windowStart + 125000000), windowStart := max s.osc (s.windowStart + 125000000) } t ∧
    sameBut [.osc, .windowStart, .txPorts, .fabric] s t

/-! ### The Selection Engine -/

/-- R85: an evaluation of a shelf whose slice is PARKED takes the entry from the queue, mark note and all, and changes
nothing else but the budget count. -/
def Obligations.ParkedEvaluationChangesNothing : Prop :=
  ∀ (e : EvalEntry) (rest : List EvalEntry) (s : State),
    s.engine.queue = e :: rest → s.slices[e.shelf].timing = .parked → EvaluationTurn s →
    ∃ t, exec .evaluation s = .next t ∧ t.engine.queue = rest ∧ t.engine.count = min 8 (s.engine.count + 1) ∧
      sameBut [.queue, .count] s t

/-- EVALUATION of an unparked shelf under a command: the target is NONE under HOLD; under FORCE e it is entry e's
candidate when the conditions of R95 hold and NONE when they do not, and the command stays; under MANUAL e, without a
mark note, it is entry e's candidate while that is eligible and, in AUTO mode, not outranked, and otherwise the command
is dropped (R94 to R96). -/
def Obligations.CommandsDecideTarget : Prop :=
  (∀ (k : ShelfId) (m : Option Slot) (rest : List EvalEntry) (s : State),
    s.engine.queue = ⟨k, m⟩ :: rest → s.slices[k].timing ≠ .parked → EvaluationTurn s →
    (s.shelves[k].command = .hold →
      ∃ t, exec .evaluation s = .next t ∧ targetSlot t k = none ∧ t.shelves[k].command = .hold) ∧
    ∀ e : EntryId, s.shelves[k].command = .force e →
      ∃ t, exec .evaluation s = .next t ∧ t.shelves[k].command = .force e ∧
        targetSlot t k =
          if s.shelves[k].entries[e].priority ≠ 0 ∧ s.shelves[k].entries[e].lockout = false ∧
              (s.cands[s.shelves[k].entries[e].slot].state = .available ∨
                s.cands[s.shelves[k].entries[e].slot].state = .suspect) ∧
              loopExcluded s k s.shelves[k].entries[e].slot = false
          then some s.shelves[k].entries[e].slot else none) ∧
  ∀ (k : ShelfId) (e : EntryId) (rest : List EvalEntry) (s : State),
    s.engine.queue = ⟨k, none⟩ :: rest → s.slices[k].timing ≠ .parked → EvaluationTurn s →
    s.shelves[k].command = .manual e →
    ∃ t, exec .evaluation s = .next t ∧
      if eligible s k e = true ∧
          (s.shelves[k].sel.mode = .auto → ∀ f : EntryId, eligible s k f = true →
            s.grades[s.shelves[k].entries[e].slot].eff.rank ≤ s.grades[s.shelves[k].entries[f].slot].eff.rank)
      then targetSlot t k = some s.shelves[k].entries[e].slot ∧ t.shelves[k].command = .manual e
      else t.shelves[k].command = .none ∧
        (s.events.enabled (shelfLatch 3 k) = true → t.events.latches[shelfLatch 3 k] ≠ .clear)

/-- EVALUATION of an unparked shelf without a command and without a mark note: NONE when no entry is eligible; the
eligible target is kept when revertive is clear and no eligible entry outranks it in AUTO mode; otherwise the target is
an eligible entry's candidate that no eligible entry beats by its key (R87, R90, R91). -/
def Obligations.AutomaticTargetChosen : Prop :=
  ∀ (k : ShelfId) (rest : List EvalEntry) (s : State),
    s.engine.queue = ⟨k, none⟩ :: rest → s.slices[k].timing ≠ .parked → EvaluationTurn s →
    s.shelves[k].command = .none →
    ∃ t, exec .evaluation s = .next t ∧ t.shelves[k].command = .none ∧
      ((∀ e : EntryId, eligible s k e = false) → targetSlot t k = none) ∧
      (∀ c, s.shelves[k].sel.revertive = false → targetSlot s k = some c →
        (∃ e : EntryId, eligible s k e = true ∧ s.shelves[k].entries[e].slot = c) →
        (s.shelves[k].sel.mode = .priority ∨
          ∀ e : EntryId, eligible s k e = true →
            s.grades[c].eff.rank ≤ s.grades[s.shelves[k].entries[e].slot].eff.rank) →
        targetSlot t k = some c) ∧
      ((∃ c, targetSlot s k = some c ∧ targetSlot t k = some c ∧ s.shelves[k].sel.revertive = false ∧
          (∃ e : EntryId, eligible s k e = true ∧ s.shelves[k].entries[e].slot = c) ∧
          (s.shelves[k].sel.mode = .priority ∨
            ∀ e : EntryId, eligible s k e = true →
              s.grades[c].eff.rank ≤ s.grades[s.shelves[k].entries[e].slot].eff.rank)) ∨
        (∀ e : EntryId, eligible s k e = false) ∨
        ∃ e : EntryId, eligible s k e = true ∧ targetSlot t k = some s.shelves[k].entries[e].slot ∧
          ∀ f : EntryId, eligible s k f = true → keyLt (selectionKey s k f) (selectionKey s k e) = false)

/-- EVALUATION of an unparked shelf with a mark note: the slot joins the lock-failed set exactly when it is the target
and the slice is neither SETTLING nor LOCKED; the list, the settings and every other shelf's record are kept (R86, R99).
-/
def Obligations.MarkJoinsLockFailedSet : Prop :=
  ∀ (k : ShelfId) (c : Slot) (rest : List EvalEntry) (s : State),
    s.engine.queue = ⟨k, some c⟩ :: rest → s.slices[k].timing ≠ .parked → EvaluationTurn s →
    ∃ t, exec .evaluation s = .next t ∧
      (∀ n : Slot,
        t.shelves[k].failed[n] =
          (s.shelves[k].failed[n] ||
            decide (n = c ∧ targetSlot s k = some c ∧ s.slices[k].timing ≠ .settling ∧ s.slices[k].timing ≠ .locked))) ∧
      t.shelves[k].entries = s.shelves[k].entries ∧ t.shelves[k].sel = s.shelves[k].sel ∧
      (∀ j : ShelfId, j ≠ k → t.shelves[j] = s.shelves[j])

/-- EVALUATION that changes the target of a shelf directs its module: TRACK and ACQUIRING with the lock timer started
for a slot, HOLD and HOLDOVER or FREERUN by the last report for NONE, each under the next sequence, with the Directive
offered to the FABRIC local outbound queue, TARGET raised, and TIMING_STATE where the timing state changed; a changed
record queues every other shelf that lists a candidate of kind SHELF; the other slices are left alone (R92, R110 to
R113). -/
def Obligations.TargetChangeDirectsModule : Prop :=
  ∀ (k : ShelfId) (m : Option Slot) (rest : List EvalEntry) (s : State),
    s.engine.queue = ⟨k, m⟩ :: rest → s.slices[k].timing ≠ .parked → EvaluationTurn s →
    ∃ t, exec .evaluation s = .next t ∧ (∀ j : ShelfId, j ≠ k → t.slices[j] = s.slices[j]) ∧
      (t.shelves[k].target = s.shelves[k].target → t.engine.queue = rest) ∧
      (t.shelves[k].target ≠ s.shelves[k].target →
        queuedBy (fun j => j ≠ k ∧ listsShelfKind s j = true) (s.setEngine { s.engine with queue := rest }) t) ∧
      (targetSlot t k = targetSlot s k → t.slices[k] = s.slices[k] ∧ t.lane.fabric = s.lane.fabric) ∧
      (targetSlot t k ≠ targetSlot s k →
        t.lane.fabric =
            offeredInOrder s.lane.live [directiveTo s k (s.slices[k].seq + 1) (targetSlot t k)] s.lane.fabric ∧
          (t.slices[k].timing ≠ s.slices[k].timing → s.events.enabled (shelfLatch 1 k) = true →
            t.events.latches[shelfLatch 1 k] ≠ .clear) ∧
        t.slices[k].seq = s.slices[k].seq + 1 ∧ t.slices[k].target = targetSlot t k ∧
          t.slices[k].settleTimer = none ∧ t.slices[k].history = s.slices[k].history ∧
          t.slices[k].unsent = decide (32 ≤ s.lane.fabric.localQ.length) ∧
          (s.events.enabled (shelfLatch 0 k) = true → t.events.latches[shelfLatch 0 k] ≠ .clear) ∧
          (∀ c, targetSlot t k = some c →
            t.slices[k].action = .track c ∧ t.slices[k].timing = .acquiring ∧ t.slices[k].holdoverSince = none ∧
              t.slices[k].lockTimer = some (s.osc + s.slices[k].cfg.lockS * 125000000)) ∧
          (targetSlot t k = none →
            t.slices[k].action = .hold ∧ t.slices[k].lockTimer = none ∧
              if s.slices[k].lastReport.map Report.holdoverReady = some true then
                t.slices[k].timing = .holdover ∧ t.slices[k].holdoverSince = some s.osc
              else t.slices[k].timing = .freerun ∧ t.slices[k].holdoverSince = none)) ∧
      sameBut (.count :: .queue :: .shelves :: sliceParts) s t

/-! ### The slices -/

/-- LOCK_REPORT that is not accepted: from another address than the module's, of a PARKED slice, or naming a shelf above
15. It is consumed without effect (R7, R115). -/
def Obligations.UnacceptedReportConsumed : Prop :=
  ∀ (f : Frame) (rest : List Frame) (s : State), s.lane.localIn = f :: rest → frameKind f = 0x42 →
    (15 < byteAt (frameBody f) 0 ∨
      ∃ k : ShelfId, k.val = byteAt (frameBody f) 0 ∧
        (frameSource f ≠ s.slices[k].cfg.module ∨ s.slices[k].timing = .parked)) →
    ∃ t, exec .lockReport s = .next t ∧ t.lane.localIn = rest ∧ sameBut [.localIn] s t

/-- LOCK_REPORT that is accepted: the report timer restarts, the unreachable flag is cleared and the report is recorded.
Stale (another sequence echoed, or the unsent flag set), it is answered by a resend of the record and moves nothing;
current, it moves the slice by Table 6-4 under TRACK and between FREERUN and HOLDOVER under HOLD (R115 to R118). -/
def Obligations.AcceptedReportMovesSlice : Prop :=
  ∀ (f : Frame) (rest : List Frame) (k : ShelfId) (s : State) (r : Report),
    s.lane.localIn = f :: rest → frameKind f = 0x42 → k.val = byteAt (frameBody f) 0 →
    frameSource f = s.slices[k].cfg.module → s.slices[k].timing ≠ .parked → r = reportOf f →
    ∃ t, exec .lockReport s = .next t ∧ t.lane.localIn = rest ∧
      t.slices[k].reportTimer = some (s.osc + s.slices[k].cfg.reportS * 125000000) ∧
      t.slices[k].unreachable = false ∧ t.slices[k].lastReport = some r ∧
      t.slices[k].seq = s.slices[k].seq ∧ t.slices[k].action = s.slices[k].action ∧
      t.slices[k].target = s.slices[k].target ∧ t.slices[k].history = s.slices[k].history ∧
      (r.echo ≠ s.slices[k].seq ∨ s.slices[k].unsent = true →
        t.slices[k].timing = s.slices[k].timing ∧ t.slices[k].lockTimer = s.slices[k].lockTimer ∧
          t.slices[k].settleTimer = s.slices[k].settleTimer ∧
          t.slices[k].unsent = decide (32 ≤ s.lane.fabric.localQ.length) ∧
          (s.lane.fabric.localQ.length < 32 →
            t.lane.fabric =
              OutPort.serve s.lane.live
                { s.lane.fabric with localQ := s.lane.fabric.localQ ++ [⟨directiveFrame s k, false⟩] })) ∧
      (r.echo = s.slices[k].seq → s.slices[k].unsent = false →
        t.lane.fabric = s.lane.fabric ∧
        (∀ c, s.slices[k].action = .track c →
          (s.slices[k].timing = .acquiring →
            if s.slices[k].seesLock r then
              t.slices[k].timing = .settling ∧ t.slices[k].lockTimer = none ∧
                t.slices[k].settleTimer = some (s.osc + max 1 s.slices[k].cfg.settleS * 125000000)
            else t.slices[k].timing = .acquiring ∧ t.slices[k].lockTimer = s.slices[k].lockTimer) ∧
          (s.slices[k].timing = .settling ∨ s.slices[k].timing = .locked →
            if s.slices[k].seesLock r then
              t.slices[k].timing = s.slices[k].timing ∧ t.slices[k].settleTimer = s.slices[k].settleTimer
            else
              t.slices[k].timing = .acquiring ∧
                t.slices[k].lockTimer = some (s.osc + s.slices[k].cfg.lockS * 125000000))) ∧
        (s.slices[k].action = .hold →
          (s.slices[k].timing = .freerun →
            if r.holdoverReady then t.slices[k].timing = .holdover ∧ t.slices[k].holdoverSince = some s.osc
            else t.slices[k].timing = .freerun) ∧
          (s.slices[k].timing = .holdover →
            if r.holdoverReady then
              t.slices[k].timing = .holdover ∧ t.slices[k].holdoverSince = s.slices[k].holdoverSince
            else t.slices[k].timing = .freerun ∧ t.slices[k].holdoverSince = none))) ∧
      (∀ j : ShelfId, j ≠ k → t.slices[j] = s.slices[j]) ∧
      sameBut (.localIn :: sliceParts) s t

/-- LOCK_TIMER_EXPIRY in ACQUIRING: the shelf is queued with a mark note naming the current target, LOCK_FAILED is
raised, and the timer stays stopped (R120). SETTLE_TIMER_EXPIRY in SETTLING: LOCKED, the history flag set, TIMING_STATE
raised, and the triple recomputed and handed on (R121, R131, R136). REPORT_TIMER_EXPIRY: the slice is unreachable,
MODULE_SILENT is present, and it advertises rank 15, hop 0 and its own tag (R122, R131). -/
def Obligations.SliceTimersExpire : Prop :=
  (∀ (k : ShelfId) (due : Nat) (c : Slot) (s : State),
    s.slices[k].timing = .acquiring → s.slices[k].lockTimer = some due → s.slices[k].target = some c →
    ∃ t, exec (.lockTimerExpiry k) s = .next t ∧ t.osc = max s.osc due ∧
      t.slices = s.slices.set k { s.slices[k] with lockTimer := none } ∧ queuedBy (fun j => j = k) s t ∧
      (∀ e ∈ t.engine.queue, e.shelf = k → e.mark = some c) ∧ raisedBy (shelfLatch 2 k) s t ∧
      sameBut [.osc, .slices, .queue, .latches, .noticeState, .control] s t) ∧
  (∀ (k : ShelfId) (due : Nat) (s : State), s.slices[k].timing = .settling → s.slices[k].settleTimer = some due →
    ∃ t, exec (.settleTimerExpiry k) s = .next t ∧ t.osc = max s.osc due ∧
      t.slices = s.slices.set k
        { s.slices[k] with timing := .locked, history := true, settleTimer := none, triple := sliceTriple t k } ∧
      raisedBy (shelfLatch 1 k) s t ∧
      t.flight.notices =
        s.flight.notices ++ [(k, { triple := sliceTriple t k, target := s.slices[k].target, timing := .locked })] ∧
      t.flight.triples =
        (if sliceTriple t k = s.slices[k].triple then s.flight.triples
          else s.flight.triples ++ [(k, sliceTriple t k)]) ∧
      sameBut [.osc, .slices, .latches, .noticeState, .control, .tripleHandovers, .noticeHandovers] s t) ∧
  ∀ (k : ShelfId) (due : Nat) (s : State),
    s.slices[k].reportTimer = some due → s.slices[k].unreachable = false →
    ∃ t, exec (.reportTimerExpiry k) s = .next t ∧ t.osc = max s.osc due ∧
      t.slices = s.slices.set k
        { s.slices[k] with
          reportTimer := none
          unreachable := true
          triple := { rank := 15, hop := 0, origin := { tag := ownTag s.baseTag k, isPartial := false } } } ∧
      t.events.copies[condModuleSilent k] = true ∧
      sameBut [.osc, .slices, .latches, .conditions, .noticeState, .control, .tripleHandovers, .noticeHandovers] s t

/-- HOLDOVER_BUDGET_EXHAUSTED, no earlier than the budget after HOLDOVER was entered: the slice stays in HOLDOVER, and a
reachable one advertises the freerun rank (R134). -/
def Obligations.HoldoverBudgetRunsOut : Prop :=
  ∀ (k : ShelfId) (since : Nat) (s : State),
    s.slices[k].timing = .holdover → s.slices[k].holdoverSince = some since → s.slices[k].exhausted = false →
    s.slices[k].unreachable = false →
    ∃ t, exec (.holdoverBudgetExhausted k) s = .next t ∧
      t.osc = max s.osc (since + s.slices[k].cfg.budgetMin * 60 * 125000000) ∧
      t.slices = s.slices.set k
        { s.slices[k] with
          exhausted := true
          triple :=
            { rank := s.slices[k].cfg.freerunRank, hop := 0,
              origin := { tag := ownTag s.baseTag k, isPartial := false } } } ∧
      sameBut [.osc, .slices, .tripleHandovers, .noticeHandovers] s t

/-- TARGET_GRADE_HANDOVER: the slice whose current target is the slot recomputes its triple; a LOCKED, reachable one
takes the target's rank and its hop plus one, at most 31 (R131, R132). -/
def Obligations.TargetGradeReachesTriple : Prop :=
  ∀ (k : ShelfId) (n : Slot) (before after : List (ShelfId × Slot)) (s : State),
    s.flight.grades = before ++ (k, n) :: after → (∀ x ∈ before, x.1 ≠ k) →
    ∃ t, exec (.targetGradeHandover k) s = .next t ∧ t.flight.grades = before ++ after ∧
      (s.slices[k].target ≠ some n → sameBut [.gradeHandovers] s t) ∧
      (s.slices[k].target = some n →
        t.slices = s.slices.set k { s.slices[k] with triple := sliceTriple s k } ∧
        (s.slices[k].timing = .locked → s.slices[k].unreachable = false →
          t.slices[k].triple.rank = s.grades[n].eff.rank ∧
            t.slices[k].triple.hop.val = min 31 (s.grades[n].eff.hop.val + 1) ∧
            t.slices[k].triple.origin =
              s.grades[n].eff.origin.getD { tag := ownTag s.baseTag k, isPartial := true })) ∧
      sameBut [.gradeHandovers, .slices, .tripleHandovers, .noticeHandovers] s t

/-! ### The Event Unit -/

/-- SPACING_TIMER_EXPIRY with a destination, news and no resume point: a fresh notice that lists the first 79 standing
latches is offered and spacing starts again; taken, it clears the news and leaves a resume point when there are more,
and refused, both stay; with nothing to tell, the timer stops; in every case the sending decision is taken,
continuations among them (R159). SUMMARY_TIMER_EXPIRY: the timer starts again; with no latch standing nothing else
happens, and with one standing the news flag is set and the sending decision taken (R159, R160). -/
def Obligations.EventTimersExpire : Prop :=
  (∀ (due : Nat) (s : State), s.events.spacingTimer = some due →
    (s.events.destination ≠ 0 → s.events.resume = none → s.events.news = true → s.events.standing ≠ [] →
      ∃ t, exec .spacingTimerExpiry s = .next t ∧ t.osc = max s.osc due ∧
        t.events.spacingTimer = some (max s.osc due + s.events.spacingMs * 125000) ∧
        (if s.lane.control.localQ.length < 8 then
          t.lane.control =
              OutPort.serve s.lane.live
                { s.lane.control with
                  localQ := s.lane.control.localQ ++
                    [⟨buildFrame s.events.destination s.lane.strap 0x61
                        (noticeBody s.events (decide (79 < s.events.standing.length)) (s.events.standing.take 79)),
                      false⟩] } ∧
            t.events.news = false ∧
            t.events.resume =
              if 79 < s.events.standing.length then (s.events.standing.take 79).getLast? else none
        else t.lane.control = s.lane.control ∧ t.events.news = true ∧ t.events.resume = none) ∧
        sameBut [.osc, .noticeState, .control] s t) ∧
    (s.events.destination = 0 ∨ s.events.news = false ∧ s.events.resume = none →
      ∃ t, exec .spacingTimerExpiry s = .next t ∧ t.events.spacingTimer = none ∧ t.events.news = s.events.news ∧
        t.events.resume = s.events.resume ∧ sameBut [.osc, .noticeState] s t) ∧
    ∃ t, exec .spacingTimerExpiry s = .next t ∧
      sendingDecided { s with osc := max s.osc due, events := { s.events with spacingTimer := none } } t) ∧
  ∀ (due : Nat) (s : State), s.events.summaryTimer = some due →
    ∃ t, exec .summaryTimerExpiry s = .next t ∧ t.osc = max s.osc due ∧
      t.events.summaryTimer = some (max s.osc due + s.events.summaryS * 125000000) ∧
      (s.events.standing = [] →
        t.events.news = s.events.news ∧ t.events.resume = s.events.resume ∧
          t.events.spacingTimer = s.events.spacingTimer ∧ t.lane.control = s.lane.control) ∧
      (s.events.standing ≠ [] → s.events.destination = 0 ∨ s.events.spacingTimer.isSome = true →
        t.events.news = true ∧ t.events.resume = s.events.resume ∧ t.lane.control = s.lane.control) ∧
      (s.events.standing ≠ [] →
        sendingDecided
          { s with
            osc := max s.osc due
            events :=
              { s.events with
                summaryTimer := some (max s.osc due + s.events.summaryS * 125000000)
                news := true } } t) ∧
      sameBut [.osc, .noticeState, .control] s t

/-! ### Management requests -/

/-- ANSWER_PLACED: a waiting answer takes a free place of the CONTROL local outbound queue and its request leaves the
request queue; with no place free it goes on waiting, and the request is not applied again (R13). -/
def Obligations.WaitingAnswerPlaced : Prop :=
  ∀ (a : OutFrame) (s : State), s.agent.phase = .answerWaiting a →
    (s.lane.control.localQ.length < 8 →
      ∃ t, exec .answerPlaced s = .next t ∧
        t.lane.control = OutPort.serve s.lane.live { s.lane.control with localQ := s.lane.control.localQ ++ [a] } ∧
        t.lane.requests = s.lane.requests.tail ∧
        t.agent.phase = (if a.isRestartAnswer then .restarting else .ready) ∧ sameBut answerParts s t) ∧
    (8 ≤ s.lane.control.localQ.length → exec .answerPlaced s = .next s)

/-- REQUEST_TOO_SHORT: a request of fewer than three body bytes is consumed without an answer (R186). UNKNOWN_KIND: a
request of a kind code that the part does not know is answered UNKNOWN_KIND and not applied (R166). -/
def Obligations.UnknownRequestsNotApplied : Prop :=
  (∀ (f : Frame) (rest : List Frame) (s : State),
    s.agent.phase = .ready → s.lane.requests = f :: rest → (frameBody f).length < 3 →
    ∃ t, exec .requestTooShort s = .next t ∧ t.lane.requests = rest ∧ sameBut [.requests] s t) ∧
  ∀ (f : Frame) (rest : List Frame) (r : Request) (s : State),
    s.agent.phase = .ready → s.lane.requests = f :: rest → requestOf f = some r → r.kind = 0 ∨ 0x13 < r.kind →
    ∃ t, exec .unknownKind s = .next t ∧ Answered r .unknownKind [] s t

/-- A request whose body has not the length its kind requires is answered BAD_LENGTH; one with an index out of range
BAD_INDEX; one with a value out of range that is not clamped BAD_VALUE, in this order (the limits: requestLimits; the
status of a request with two faults within one of the checks: log entry 19, DEDUCED; the row that serves an undefined
object, direction or action: log entry 8); one that passes these checks, but whose bank another address holds, is
answered HELD with the holder's address; neither is applied in any part (R166, R169). -/
def Obligations.RefusedRequestsNotApplied : Prop :=
  (∀ q ∈ ([(.identify, 0), (.readTable, 3), (.readStatusCandidate, 2), (.readStatusShelf, 2), (.readStatusPort, 2),
      (.writeCandidate, 18), (.writeListEntry, 6), (.writeShelf, 15), (.writeReceiveMap, 18), (.writeTransmitMap, 18),
      (.detachReceiveMap, 2), (.attachReceiveMap, 2), (.detachTransmitMap, 2), (.attachTransmitMap, 2),
          (.writeNode, 18),
      (.take, 1), (.release, 1), (.commandHold, 4), (.commandForce, 4), (.commandManual, 4), (.commandClear, 4),
      (.commandLockout, 4), (.park, 3), (.unpark, 3), (.sliceReset, 3), (.clearMarks, 2), (.restart, 0),
      (.clearRestartRecord, 0)] : List (Instr × Nat)),
    ∀ (r : Request) (s : State), Taken q.1 r s → r.body.length ≠ q.2 →
      ∃ t, exec q.1 s = .next t ∧ Answered r .badLength [] s t) ∧
  (∀ q ∈ requestLimits, ∀ (r : Request) (s : State), Taken q.1 r s →
    (¬q.2.1 r.body → ∃ t, exec q.1 s = .next t ∧ Answered r .badLength [] s t) ∧
      (q.2.1 r.body → q.2.2.1 r.body → ∃ t, exec q.1 s = .next t ∧ Answered r .badIndex [] s t) ∧
      (q.2.1 r.body → ¬q.2.2.1 r.body → q.2.2.2 r.body →
        ∃ t, exec q.1 s = .next t ∧ Answered r .badValue [] s t)) ∧
  ∀ q ∈ ([(.writeCandidate, 0, checkWriteCandidate), (.writeListEntry, 1, checkWriteListEntry),
      (.writeShelf, 1, checkWriteShelf), (.writePorts, 2, checkWritePorts), (.writeReceiveMap, 3, checkWriteMap),
      (.writeTransmitMap, 3, checkWriteMap), (.detachReceiveMap, 3, checkMap), (.attachReceiveMap, 3, checkMap),
      (.detachTransmitMap, 3, checkMap), (.attachTransmitMap, 3, checkMap), (.writeNode, 4, checkWriteNode),
      (.restart, 4, checkEmpty), (.clearRestartRecord, 4, checkEmpty)] :
        List (Instr × Fin 5 × (Request → Option Status))),
    ∀ (r : Request) (a : Address) (s : State), Taken q.1 r s → q.2.2 r = none →
      s.agent.sems[q.2.1] = some a → a ≠ r.source →
      ∃ t, exec q.1 s = .next t ∧ Answered r .held (beBytes 2 a.toNat) s t

/-- R170: IDENTIFY answers DONE with the part code 0x2416, the revision 3, the strap address and the restart record as
three flags, and changes nothing. -/
def Obligations.IdentifyAnswersPart : Prop :=
  ∀ (r : Request) (s : State), Taken .identify r s → r.body = [] →
    ∃ t, exec .identify s = .next t ∧
      Answered r .done
        ([0x24, 0x16, 3] ++ beBytes 2 s.lane.strap.toNat ++
          [flagsByte [s.agent.record.powerOn, s.agent.record.resetLine, s.agent.record.restartRequest]]) s t

/-- READ_TABLE and READ_STATUS answer DONE with the records asked for that exist and fit, or with the fields of the
object at this moment, and change nothing (R171, R172). That a port out of use shows no current content is log entry 11
(DEDUCED), and a time between two units of 10 ms is read as the free value of log entry 4 says. -/
def Obligations.ReadsAnswerState : Prop :=
  ∀ (r : Request) (s : State),
    (∀ size, Taken .readTable r s → r.body.length = 3 → tableSize (byteAt r.body 0) = some size →
      byteAt r.body 1 < size → 1 ≤ byteAt r.body 2 → byteAt r.body 2 ≤ 16 →
      ∃ t count, exec .readTable s = .next t ∧
        count = min (byteAt r.body 2) (min (size - byteAt r.body 1) (233 / recordLength (byteAt r.body 0))) ∧
        Answered r .done
          ([byteOf (byteAt r.body 0), byteOf (byteAt r.body 1), byteOf count] ++
            (List.range count).flatMap fun i => tableRecord s (byteAt r.body 0) (byteAt r.body 1 + i)) s t) ∧
    (∀ n : Slot, Taken .readStatusCandidate r s → r.body.length = 2 → byteAt r.body 0 = 0 → byteAt r.body 1 = n.val →
      ∃ t, exec .readStatusCandidate s = .next t ∧
        Answered r .done ([0, byteOf n.val] ++ candidateStatus s n) s t) ∧
    (∀ k : ShelfId, Taken .readStatusShelf r s → r.body.length = 2 → byteAt r.body 1 = k.val →
      ∃ t, exec .readStatusShelf s = .next t ∧ Answered r .done ([1, byteOf k.val] ++ shelfStatus s k) s t) ∧
    (∀ p : PortId, Taken .readStatusPort r s → r.body.length = 2 → byteAt r.body 1 = p.val →
      ∃ t, exec .readStatusPort s = .next t ∧ Answered r .done ([2, byteOf p.val] ++ portStatus s p) s t)

/-- WRITE_CANDIDATE stores every setting of the slot after the clamps of R18, R47, R48 and R67, moves the candidate on a
binding, an unbinding, a rebinding and a change of the maintenance hold, regrades it, starting or stopping its notice
timer on a binding change, and touches no other slot (R20, R25 to R28, R30 to R32, R47, R66, R72, R173). That the timers
which the write starts use the WTR, the maintenance hold and the notice timeout that it carries is log entry 24
(DEDUCED), and that an unbinding consumes the slot's health reports in flight is log entry 26 (DEDUCED). -/
def Obligations.CandidateWriteStores : Prop :=
  ∀ (r : Request) (n : Slot) (s : State),
    Taken .writeCandidate r s → checkWriteCandidate r = none → Unheld 0 r s → byteAt r.body 0 = n.val →
    ∃ u t, exec .writeCandidate s = .next t ∧
      Answered r (doneStatus (candidateClamped r.body)) [byteOf n.val] u t ∧
      u.cands[n].kind = kindOfCode (byteAt r.body 1) ∧
      u.cands[n].source.val = (if byteAt r.body 1 = 3 then byteAt r.body 2 else 0) ∧
      u.cands[n].holdOffMs = min (numAt r.body 3 2) 2550 / 10 * 10 ∧ u.cands[n].wtrS = min (numAt r.body 5 2) 1200 ∧
      u.cands[n].maintHold = bitAt r.body 7 0 ∧
      u.grades[n].rmap.val = byteAt r.body 8 ∧ u.grades[n].floor.val = byteAt r.body 9 ∧
      u.grades[n].setRank.val = byteAt r.body 10 ∧ u.grades[n].setRankOn = bitAt r.body 7 1 ∧
      u.grades[n].assumedHops.val = min (byteAt r.body 11) 31 ∧
      u.grades[n].timeoutS = max 2 (min (byteAt r.body 12) 30) ∧ u.grades[n].eff = effectiveGrade u n ∧
      u.inputs[n].windowLen = max 1 (min (byteAt r.body 13) 16) ∧
      u.inputs[n].acceptPpb = min (numAt r.body 14 2) 20000 ∧
      u.inputs[n].rejectPpb = max (min (numAt r.body 14 2) 20000) (min (numAt r.body 16 2) 20000) ∧
      (s.cands[n].kind = .none → byteAt r.body 1 ≠ 0 →
        u.cands[n].state = .down ∧ u.cands[n].fresh = true ∧ u.cands[n].health = false ∧ u.cands[n].timer = .none ∧
          (s.cands[n].state = .idle → candStateTold n s u) ∧ u.inputs[n].watched = true ∧ u.inputs[n].active = false ∧
          u.grades[n].code = .pending ∧ u.grades[n].path = none ∧ u.grades[n].mapped = 15) ∧
      (s.cands[n].kind ≠ .none → byteAt r.body 1 = 0 →
        u.cands[n].state = .idle ∧ u.cands[n].health = false ∧ u.cands[n].timer = .none ∧
          u.cands[n].fresh = s.cands[n].fresh ∧ (s.cands[n].state ≠ .idle → candStateTold n s u) ∧
          u.flight.health = s.flight.health.filter (fun x => decide (x.1 ≠ n)) ∧
          u.inputs[n].watched = false ∧ u.inputs[n].active = false ∧ u.events.copies[condFreqFail n] =
            (if s.inputs[n].freqFail then false else s.events.copies[condFreqFail n]) ∧
          u.grades[n].code = .pending ∧ u.grades[n].path = none ∧ u.grades[n].mapped = 15) ∧
      (s.cands[n].kind ≠ .none → byteAt r.body 1 ≠ 0 →
        s.cands[n].kind ≠ kindOfCode (byteAt r.body 1) ∨
          s.cands[n].kind = .shelf ∧ s.cands[n].source.val ≠ byteAt r.body 2 →
        u.cands[n].fresh = false ∧ u.cands[n].health = s.cands[n].health ∧ candStateTold n s u ∧
          (s.cands[n].health = false → u.cands[n].state = .down ∧ u.cands[n].timer = .none) ∧
          (s.cands[n].health = true →
            if u.cands[n].maintHold then
              u.cands[n].state = .restoring ∧ u.cands[n].timer = .wtrPaused (u.cands[n].wtrS * 125000000)
            else if 0 < u.cands[n].wtrS then
              u.cands[n].state = .restoring ∧ u.cands[n].timer = .wtr (s.osc + u.cands[n].wtrS * 125000000)
            else u.cands[n].state = .available ∧ u.cands[n].timer = .none) ∧
          u.grades[n].code = .pending ∧ u.grades[n].path = none ∧ u.grades[n].mapped = 15) ∧
      (s.cands[n].kind ≠ kindOfCode (byteAt r.body 1) ∨
          s.cands[n].kind = .shelf ∧ s.cands[n].source.val ≠ byteAt r.body 2 →
        u.grades[n].held = !s.rmaps[u.grades[n].rmap].attached ∧
          u.grades[n].timer =
            if byteAt r.body 1 = 1 ∧ (portOf s.rxPorts n).isSome = true then
              some (s.osc + u.grades[n].timeoutS * 125000000)
            else none) ∧
      (s.cands[n].kind = kindOfCode (byteAt r.body 1) →
        (s.cands[n].kind = .shelf → s.cands[n].source.val = byteAt r.body 2) →
        u.cands[n].health = s.cands[n].health ∧ u.grades[n].code = s.grades[n].code ∧
          u.grades[n].path = s.grades[n].path ∧ u.grades[n].timer = s.grades[n].timer ∧
          (∀ due, s.cands[n].kind ≠ .none → s.cands[n].state = .restoring → s.cands[n].timer = .wtr due →
            s.cands[n].maintHold = false → bitAt r.body 7 0 = true →
            u.cands[n].state = .restoring ∧ u.cands[n].timer = .wtrPaused (due - s.osc)) ∧
          (∀ left, s.cands[n].kind ≠ .none → s.cands[n].state = .restoring → s.cands[n].timer = .wtrPaused left →
            s.cands[n].maintHold = true → bitAt r.body 7 0 = false →
            if left = 0 then
              u.cands[n].state = .available ∧ u.cands[n].fresh = false ∧ u.cands[n].timer = .none ∧ candStateTold n s u
            else u.cands[n].state = .restoring ∧ u.cands[n].timer = .wtr (s.osc + left)) ∧
          (s.cands[n].maintHold = bitAt r.body 7 0 ∨ s.cands[n].state ≠ .restoring →
            u.cands[n].state = s.cands[n].state ∧ u.cands[n].timer = s.cands[n].timer) ∧
          (u.grades[n].rmap = s.grades[n].rmap →
            u.grades[n].mapped = s.grades[n].mapped ∧ u.grades[n].held = s.grades[n].held) ∧
          (u.grades[n].rmap ≠ s.grades[n].rmap → s.rmaps[u.grades[n].rmap].attached = false →
            u.grades[n].mapped = s.grades[n].mapped ∧ u.grades[n].held = true) ∧
          (u.grades[n].rmap ≠ s.grades[n].rmap → s.rmaps[u.grades[n].rmap].attached = true →
            u.grades[n].held = false ∧
              u.grades[n].mapped =
                match s.cands[n].kind, s.grades[n].code with
                | .line, .received c => s.rmaps[u.grades[n].rmap].entries[c]
                | _, _ => s.grades[n].mapped)) ∧
      (decide (s.cands[n].kind = .none) = decide (byteAt r.body 1 = 0) →
        u.flight.health = s.flight.health ∧
          u.inputs[n] =
            { s.inputs[n] with
              windowLen := u.inputs[n].windowLen
              acceptPpb := u.inputs[n].acceptPpb
              rejectPpb := u.inputs[n].rejectPpb
              window := if u.inputs[n].windowLen = s.inputs[n].windowLen then s.inputs[n].window else [] }) ∧
      (CandidateOk s.cands[n] →
        u.flight.removals =
          if s.cands[n].state = .available ∧
              (s.cands[n].kind ≠ kindOfCode (byteAt r.body 1) ∨
                s.cands[n].kind = .shelf ∧ s.cands[n].source.val ≠ byteAt r.body 2)
          then s.flight.removals ++ [n] else s.flight.removals) ∧
      (∀ m : Slot, m ≠ n → u.cands[m] = s.cands[m] ∧ u.grades[m] = s.grades[m] ∧ u.inputs[m] = s.inputs[m]) ∧
      sameBut [.cands, .grades, .inputs, .latches, .conditions, .noticeState, .control, .queue, .removals,
        .healthReports, .gradeHandovers] s u

/-- WRITE_LIST_ENTRY stores the entry at every masked shelf that does not hold the slot in another used entry, refuses
the others as DUPLICATE, drops a target whose entry is overwritten and a FORCE or MANUAL of the entry, removes slots
that the list no longer lists from the lock-failed set, works GROUP out, and queues each changed shelf, keeping target,
command and settings otherwise (R78, R99, R154, R174). That a lockout is set when the flag goes from clear to set is log
entry 20 (DEDUCED). -/
def Obligations.ListEntryWriteStores : Prop :=
  ∀ (r : Request) (e : EntryId) (w : Entry) (m : BitVec 16) (s : State),
    EngineTaken .writeListEntry r s → checkWriteListEntry r = none → Unheld 1 r s → byteAt r.body 2 = e.val →
    w = entryOf r.body → m = BitVec.ofNat 16 (numAt r.body 0 2) →
    ∃ (u t : State) (refused : BitVec 16), exec .writeListEntry s = .next t ∧ u.engine.count = 0 ∧
      (∀ k : ShelfId, refused.getLsbD k.val =
        (m.getLsbD k.val && decide (w.priority ≠ 0 ∧ ∃ j : EntryId, j ≠ e ∧ s.shelves[k].entries[j].priority ≠ 0 ∧
          s.shelves[k].entries[j].slot = w.slot))) ∧
      Answered r (if refused = 0 then .done else if refused = m then .duplicate else .partialDone)
        (maskBytes (m &&& ~~~refused) ++ maskBytes refused ++ [if refused = 0 then 0x00 else 0x16]) u t ∧
      (∀ k : ShelfId, m.getLsbD k.val = true → refused.getLsbD k.val = false →
        u.shelves[k].entries = s.shelves[k].entries.set e w ∧
          (w ≠ s.shelves[k].entries[e] → k ∈ u.engine.queue.map EvalEntry.shelf) ∧
          (s.shelves[k].entries[e].priority ≠ 0 → targetSlot s k = some s.shelves[k].entries[e].slot →
            w.slot ≠ s.shelves[k].entries[e].slot ∨ w.priority = 0 → targetSlot u k = none) ∧
          (s.shelves[k].entries[e].priority = 0 ∨ targetSlot s k ≠ some s.shelves[k].entries[e].slot ∨
              w.slot = s.shelves[k].entries[e].slot ∧ w.priority ≠ 0 →
            u.shelves[k].target = s.shelves[k].target ∧ u.slices[k] = s.slices[k]) ∧
          u.shelves[k].sel = s.shelves[k].sel ∧
          (w = s.shelves[k].entries[e] → u.shelves[k] = s.shelves[k]) ∧
          (w ≠ s.shelves[k].entries[e] →
            u.shelves[k].command =
                (if (s.shelves[k].command = .force e ∨ s.shelves[k].command = .manual e) ∧
                    (w.slot ≠ s.shelves[k].entries[e].slot ∨ w.priority ≠ s.shelves[k].entries[e].priority ∨
                      w.lockout = true ∧ s.shelves[k].entries[e].lockout = false)
                  then .none else s.shelves[k].command) ∧
              (∀ n : Slot, u.shelves[k].failed[n] = (s.shelves[k].failed[n] && u.shelves[k].lists n)) ∧
              u.events.copies[condGroup k] = groupPresent u k)) ∧
      (∀ k : ShelfId, m.getLsbD k.val = false ∨ refused.getLsbD k.val = true → u.shelves[k] = s.shelves[k]) ∧
      sameBut (.count :: .shelves :: .queue :: sliceParts) s u

/-- WRITE_SHELF stores the selection settings and the slice timing settings at every masked shelf, after the clamps of
R79, R109 and R133, keeping list, command, lock-failed set and target, and queues each shelf whose selection settings
changed; a mask with no shelf set is answered DONE (R79, R174). That a minimum rank above 15 is stored as 14, answered
DONE_CLAMPED, is log entry 13 (DEDUCED). -/
def Obligations.ShelfWriteStores : Prop :=
  ∀ (r : Request) (s : State),
    EngineTaken .writeShelf r s → checkWriteShelf r = none → Unheld 1 r s →
    ∃ u t, exec .writeShelf s = .next t ∧ u.engine.count = 0 ∧
      Answered r (if numAt r.body 0 2 = 0 then .done else doneStatus (shelfClamped r.body))
        (maskBytes (BitVec.ofNat 16 (numAt r.body 0 2)) ++ maskBytes 0 ++ [0x00]) u t ∧
      (∀ k : ShelfId, (BitVec.ofNat 16 (numAt r.body 0 2)).getLsbD k.val = true →
        u.shelves[k] = { s.shelves[k] with sel := u.shelves[k].sel } ∧
          u.shelves[k].sel.mode = (if byteAt r.body 2 = 1 then .priority else .auto) ∧
          u.shelves[k].sel.revertive = bitAt r.body 3 0 ∧ u.shelves[k].sel.minRank.val = min (byteAt r.body 4) 14 ∧
          u.shelves[k].sel.hopLimit.val = max 1 (min (byteAt r.body 5) 31) ∧
          u.slices[k].cfg.module = addressAt r.body 6 ∧ u.slices[k].cfg.lockS = max 1 (byteAt r.body 8) ∧
          u.slices[k].cfg.reportS = max 1 (min (byteAt r.body 9) 30) ∧
          u.slices[k].cfg.settleS = byteAt r.body 10 ∧ u.slices[k].cfg.holdoverRank.val = byteAt r.body 11 ∧
          u.slices[k].cfg.freerunRank.val = max (byteAt r.body 11) (byteAt r.body 12) ∧
          u.slices[k].cfg.budgetMin = numAt r.body 13 2 ∧ u.slices[k].timing = s.slices[k].timing ∧
          u.slices[k].target = s.slices[k].target ∧ u.slices[k].seq = s.slices[k].seq ∧
          (u.shelves[k].sel ≠ s.shelves[k].sel → k ∈ u.engine.queue.map EvalEntry.shelf)) ∧
      (∀ k : ShelfId, (BitVec.ofNat 16 (numAt r.body 0 2)).getLsbD k.val = false →
        u.shelves[k] = s.shelves[k] ∧ u.slices[k] = s.slices[k]) ∧
      sameBut [.count, .shelves, .queue, .slices, .fabric, .tripleHandovers, .noticeHandovers] s u

/-- WRITE_PORTS: a block after which two in-use entries would bind one slot is refused whole with IN_CONFLICT; otherwise
both halves of every entry of the block are stored, an entry out of use binding no slot, a slot that loses its binding
and a LINE slot that gains one become PENDING with the notice timer stopped or started, every other slot keeps its grade
record, and each port of the block, in increasing table index, takes its transmit half and, in use, has its content
compared and, within the budget, sent as an EVENT notice (R53 to R55, R138, R141, R148, R175). That the absorb flag and
the transmit fields of an entry out of use are stored as written is the model's choice (log entry 12), and that a port
which comes into use starts its periodic timer with the interval that the write carries is log entry 24 (DEDUCED). -/
def Obligations.PortWriteStores : Prop :=
  ∀ (r : Request) (s : State), Taken .writePorts r s → checkWritePorts r = none → Unheld 2 r s →
    (¬(boundSlots (writtenPorts r.body s.rxPorts)).Nodup →
      ∃ t, exec .writePorts s = .next t ∧ Answered r .inConflict [] s t) ∧
    ((boundSlots (writtenPorts r.body s.rxPorts)).Nodup →
      ∃ u t, exec .writePorts s = .next t ∧
        Answered r (doneStatus (portsClamped r.body)) [byteOf (effectiveStart r.body)] u t ∧
        (∀ p : PortId, inBlock r.body p = true →
          u.rxPorts[p].inUse = bitAt (entryFor r.body p) 0 0 ∧ u.rxPorts[p].absorb = bitAt (entryFor r.body p) 0 1 ∧
            (u.rxPorts[p].inUse = false → u.rxPorts[p].bound = none) ∧
            (∀ n : Slot, u.rxPorts[p].inUse = true → byteAt (entryFor r.body p) 1 = n.val →
              u.rxPorts[p].bound = some n) ∧
            (byteAt (entryFor r.body p) 1 = 0xFF → u.rxPorts[p].bound = none) ∧
            u.txPorts[p].inUse = u.rxPorts[p].inUse ∧ u.txPorts[p].bound = u.rxPorts[p].bound ∧
            u.txPorts[p].address = addressAt (entryFor r.body p) 2 ∧
            u.txPorts[p].tmap.val = byteAt (entryFor r.body p) 4 ∧
            u.txPorts[p].squelch.val = byteAt (entryFor r.body p) 5 ∧
            u.txPorts[p].fill.val = byteAt (entryFor r.body p) 6 ∧
            u.txPorts[p].intervalS = max 1 (min (byteAt (entryFor r.body p) 7) 10) ∧
            u.txPorts[p].pathOn = bitAt (entryFor r.body p) 0 2) ∧
        (∃ v : State, v.rxPorts = u.rxPorts ∧
          sameBut [.rxPorts, .grades, .latches, .conditions, .noticeState, .control, .queue, .gradeHandovers] s v ∧
          inOrder (fun p => transmitWritten (entryFor r.body p) p)
            ((List.finRange 256).filter fun p => inBlock r.body p) v u) ∧
        (∀ p : PortId, inBlock r.body p = false → u.rxPorts[p] = s.rxPorts[p] ∧ u.txPorts[p] = s.txPorts[p]) ∧
        (∀ n : Slot, portOf u.rxPorts n ≠ portOf s.rxPorts n →
          (portOf s.rxPorts n).isSome = true ∨ s.cands[n].kind = .line →
          u.grades[n] =
            { s.grades[n] with
              code := .pending
              path := none
              mapped := 15
              timer :=
                if s.cands[n].kind = .line ∧ (portOf u.rxPorts n).isSome = true then
                  some (s.osc + s.grades[n].timeoutS * 125000000)
                else none
              eff := effectiveGrade u n }) ∧
        (∀ n : Slot,
          portOf u.rxPorts n = portOf s.rxPorts n ∨ portOf s.rxPorts n = none ∧ s.cands[n].kind ≠ .line →
          u.grades[n] = s.grades[n]) ∧
        sameBut [.rxPorts, .txPorts, .grades, .latches, .conditions, .noticeState, .control, .queue, .gradeHandovers,
          .fabric] s u)

/-- WRITE_MAP of an attached map is refused with NOT_DETACHED and of a detached one stores its entries; DETACH_MAP
detaches, holding the candidates that use a receive map; ATTACH_MAP attaches, remapping them, or comparing the ports
that use a transmit map and sending what differs; DETACH_MAP of a detached map and ATTACH_MAP of an attached one change
nothing, and all are answered DONE (R63 to R65, R141, R146, R147, R176). -/
def Obligations.MapRequestsServed : Prop :=
  ∀ (r : Request) (m : MapId) (s : State), byteAt r.body 1 = m.val → Unheld 3 r s →
    (Taken .writeReceiveMap r s → checkWriteMap r = none →
      ∃ u t, exec .writeReceiveMap s = .next t ∧
        if s.rmaps[m].attached then u = s ∧ Answered r .notDetached [] u t
        else Answered r .done [byteOf (byteAt r.body 0), byteOf m.val] u t ∧
          (∀ c : Fin 16, u.rmaps[m].entries[c].val = byteAt r.body (2 + c.val)) ∧ u.rmaps[m].attached = false ∧
          (∀ j : MapId, j ≠ m → u.rmaps[j] = s.rmaps[j]) ∧ sameBut [.rmaps] s u) ∧
    (Taken .writeTransmitMap r s → checkWriteMap r = none →
      ∃ u t, exec .writeTransmitMap s = .next t ∧
        if s.tmaps[m].attached then u = s ∧ Answered r .notDetached [] u t
        else Answered r .done [byteOf (byteAt r.body 0), byteOf m.val] u t ∧
          (∀ c : Fin 16, u.tmaps[m].entries[c].val = byteAt r.body (2 + c.val)) ∧ u.tmaps[m].attached = false ∧
          (∀ j : MapId, j ≠ m → u.tmaps[j] = s.tmaps[j]) ∧ sameBut [.tmaps] s u) ∧
    (Taken .detachReceiveMap r s → checkMap r = none →
      ∃ u t, exec .detachReceiveMap s = .next t ∧
        Answered r .done [byteOf (byteAt r.body 0), byteOf m.val] u t ∧
        u.rmaps = s.rmaps.set m { s.rmaps[m] with attached := false } ∧
        (s.rmaps[m].attached = true → ∀ n : Slot,
          u.grades[n] = if s.grades[n].rmap = m then { s.grades[n] with held := true } else s.grades[n]) ∧
        (s.rmaps[m].attached = false → u = s) ∧
        sameBut [.rmaps, .grades] s u) ∧
    (Taken .attachReceiveMap r s → checkMap r = none →
      ∃ u t, exec .attachReceiveMap s = .next t ∧
        Answered r .done [byteOf (byteAt r.body 0), byteOf m.val] u t ∧
        u.rmaps = s.rmaps.set m { s.rmaps[m] with attached := true } ∧
        (s.rmaps[m].attached = false → ∀ n : Slot, s.grades[n].rmap = m →
          u.grades[n].held = false ∧ u.grades[n].eff = effectiveGrade u n ∧
            (∀ c : Code, s.cands[n].kind = .line → s.grades[n].code = .received c →
              u.grades[n].mapped = s.rmaps[m].entries[c])) ∧
        (∀ n : Slot, s.grades[n].rmap ≠ m → u.grades[n] = s.grades[n]) ∧
        (s.rmaps[m].attached = true → u = s) ∧
        sameBut [.rmaps, .grades, .latches, .noticeState, .control, .queue, .gradeHandovers] s u) ∧
    (Taken .detachTransmitMap r s → checkMap r = none →
      ∃ u t, exec .detachTransmitMap s = .next t ∧
        Answered r .done [byteOf (byteAt r.body 0), byteOf m.val] u t ∧
        u.tmaps = s.tmaps.set m { s.tmaps[m] with attached := false } ∧ sameBut [.tmaps] s u) ∧
    (Taken .attachTransmitMap r s → checkMap r = none →
      ∃ u t, exec .attachTransmitMap s = .next t ∧
        Answered r .done [byteOf (byteAt r.body 0), byteOf m.val] u t ∧
        u.tmaps = s.tmaps.set m { s.tmaps[m] with attached := true } ∧
        (s.tmaps[m].attached = true → u = s) ∧
        (s.tmaps[m].attached = false →
          inOrder portCompared
            ((List.finRange 256).filter fun p => s.txPorts[p].inUse && decide (s.txPorts[p].tmap = m))
            { s with tmaps := s.tmaps.set m { s.tmaps[m] with attached := true } } u) ∧
        sameBut [.tmaps, .txPorts, .fabric] s u)

/-- WRITE_NODE stores every node setting after the clamps of R49, R84, R135, R155 and R160; a new base tag queues every
shelf and recomputes every triple; the latches follow the enables and modes (R155); a changed destination ends the
resume point and makes standing latches news, a changed summary interval restarts its timer, and then the sending
decision is taken (R105, R135, R155, R159, R160, R177). -/
def Obligations.NodeWriteStores : Prop :=
  ∀ (r : Request) (s : State), Taken .writeNode r s → r.body.length = 18 → Unheld 4 r s →
    ∃ u t, exec .writeNode s = .next t ∧ Answered r (doneStatus (nodeClamped r.body)) [] u t ∧
      u.baseTag = BitVec.ofNat 48 (numAt r.body 0 6) &&& 0xFFFFFFFFFFF0#48 ∧
      u.correction = max (-10000) (min 10000 (signedAt r.body 6)) ∧ u.engine.budget = max 1 (min (byteAt r.body 8) 8) ∧
      u.events.destination = addressAt r.body 9 ∧ u.events.enables = BitVec.ofNat 13 (numAt r.body 11 2) ∧
      u.events.levels = BitVec.ofNat 13 (numAt r.body 13 2) &&& conditionKinds ∧
      u.events.spacingMs = max 100 (min (numAt r.body 15 2) 10000) / 10 * 10 ∧
      u.events.summaryS = min (byteAt r.body 17) 60 ∧
      (u.baseTag ≠ s.baseTag → ∀ k : ShelfId,
        k ∈ u.engine.queue.map EvalEntry.shelf ∧ u.slices[k] = { s.slices[k] with triple := sliceTriple u k }) ∧
      (u.baseTag = s.baseTag → sameBut [.correction, .budget, .latches, .eventSettings, .noticeState, .control] s u) ∧
      (∀ l : LatchId, u.events.enabled l = false → u.events.latches[l] = .clear) ∧
      (∀ l : LatchId, u.events.enabled l = true →
        u.events.latches[l] =
          if s.events.enabled l = true ∧ s.events.isLevel l = u.events.isLevel l then s.events.latches[l]
          else if u.events.isLevel l = true ∧ s.events.present l = true then .set
          else .clear) ∧
      (∃ v : State, sendingDecided v u ∧ sameBut [.noticeState, .control] v u ∧ v.lane.control = s.lane.control ∧
        v.events.spacingTimer = s.events.spacingTimer ∧
        v.events.summaryTimer =
          (if u.events.summaryS = s.events.summaryS then s.events.summaryTimer
            else if u.events.summaryS = 0 then none else some (s.osc + u.events.summaryS * 125000000)) ∧
        v.events.resume = (if u.events.destination = s.events.destination then s.events.resume else none) ∧
        (v.events.news = true ↔
          s.events.news = true ∨
            (∃ l : LatchId, u.events.enabled l = true ∧ u.events.isLevel l = true ∧ s.events.present l = true ∧
              (s.events.enabled l = false ∨ s.events.isLevel l = false)) ∨
            u.events.destination ≠ s.events.destination ∧ ∃ l : LatchId, u.events.latches[l] ≠ .clear)) ∧
      sameBut [.correction, .budget, .baseTag, .queue, .slices, .tripleHandovers, .noticeHandovers, .latches,
        .eventSettings, .noticeState, .control] s u

/-- R168: TAKE of a FREE semaphore makes it HELD by the requester and is answered GRANTED; of a HELD one it is left as
it is and answered HELD with the holder's address, the requester's own included. RELEASE makes it FREE whoever holds it,
answered DONE. -/
def Obligations.SemaphoresTakenAndReleased : Prop :=
  ∀ (r : Request) (b : Fin 5) (s : State), r.body = [byteOf b.val] →
    (Taken .take r s →
      (s.agent.sems[b] = none →
        ∃ u t, exec .take s = .next t ∧ Answered r .granted [] u t ∧
          u.agent.sems = s.agent.sems.set b (some r.source) ∧ sameBut [.semaphores] s u) ∧
      ∀ a, s.agent.sems[b] = some a → ∃ t, exec .take s = .next t ∧ Answered r .held (beBytes 2 a.toNat) s t) ∧
    (Taken .release r s →
      ∃ u t, exec .release s = .next t ∧ Answered r .done [] u t ∧ u.agent.sems = s.agent.sems.set b none ∧
        sameBut [.semaphores] s u)

/-- COMMAND with HOLD, FORCE e and MANUAL e: refused with PARKED, PREEMPTED or NOT_ELIGIBLE, in that order, or stored as
the shelf's command, the shelf being queued when it changed. COMMAND with LOCKOUT e: refused with PARKED, or the flag is
stored, a FORCE or MANUAL of the entry is dropped, GROUP is worked out and the shelf is queued when the flag changed;
CLEAR of a parked shelf is refused with PARKED (R93 to R96, R98, R154). An engine request whose checks pass while
evaluations come first waits at the engine (that its own row serves it again later: log entry 21, DEDUCED), and the head
of the evaluation queue gives way to a waiting operation once the budget count has reached E (R83, R84). -/
def Obligations.CommandsServed : Prop :=
  (∀ q ∈ ([(.writeListEntry, fun r s => checkWriteListEntry r = none ∧ Unheld 1 r s),
      (.writeShelf, fun r s => checkWriteShelf r = none ∧ Unheld 1 r s),
          (.commandHold, fun r _ => checkCommand r = none),
      (.commandForce, fun r _ => checkCommand r = none), (.commandManual, fun r _ => checkCommand r = none),
      (.commandClear, fun r _ => checkCommand r = none), (.commandLockout, fun r _ => checkCommand r = none),
      (.park, fun r _ => checkSlice r = none), (.unpark, fun r _ => checkSlice r = none),
      (.sliceReset, fun r _ => checkSlice r = none), (.clearMarks, fun r _ => r.body.length = 2)] :
        List (Instr × (Request → State → Prop))),
    ∀ (r : Request) (s : State), Taken q.1 r s → q.2 r s → s.engine.count < s.engine.budget → s.engine.queue ≠ [] →
      ∃ t, exec q.1 s = .next t ∧ t.agent.phase = .engineOp ∧ sameBut [.phase] s t) ∧
  (∀ s : State, s.agent.phase = .engineOp → s.engine.budget ≤ s.engine.count → exec .evaluation s = .next s) ∧
  (∀ (r : Request) (k : ShelfId) (s : State), EngineTaken .commandClear r s → checkCommand r = none →
    byteAt r.body 0 = k.val → s.slices[k].timing = .parked →
    ∃ u t, exec .commandClear s = .next t ∧ u.engine.count = 0 ∧ Answered r .parked [] u t ∧ sameBut [.count] s u) ∧
  ∀ (r : Request) (k : ShelfId) (e : EntryId) (s : State),
    checkCommand r = none → byteAt r.body 0 = k.val → byteAt r.body 2 = e.val →
    (∀ q ∈ ([(.commandHold, .hold), (.commandForce, .force e), (.commandManual, .manual e)] : List (Instr × Command)),
      EngineTaken q.1 r s →
      ∃ u t, exec q.1 s = .next t ∧ u.engine.count = 0 ∧
        if s.slices[k].timing = .parked then Answered r .parked [] u t ∧ sameBut [.count] s u
        else if precedence q.2 < precedence s.shelves[k].command then Answered r .preempted [] u t ∧
            sameBut [.count] s u
        else if q.2 = .force e ∧ forceAdmits s k e = false ∨ q.2 = .manual e ∧ manualAdmits s k e = false then
          Answered r .notEligible [] u t ∧ sameBut [.count] s u
        else
          Answered r .done [] u t ∧ u.shelves = s.shelves.set k { s.shelves[k] with command := q.2 } ∧
            queuedBy (fun j => j = k ∧ s.shelves[k].command ≠ q.2) s u ∧ sameBut [.count, .shelves, .queue] s u) ∧
    (EngineTaken .commandLockout r s →
      ∃ u t, exec .commandLockout s = .next t ∧ u.engine.count = 0 ∧
        if s.slices[k].timing = .parked then Answered r .parked [] u t ∧ sameBut [.count] s u
        else
          Answered r .done [] u t ∧
            (s.shelves[k].entries[e].lockout = bitAt r.body 3 0 → sameBut [.count] s u) ∧
            (s.shelves[k].entries[e].lockout ≠ bitAt r.body 3 0 →
              u.shelves = s.shelves.set k
                { s.shelves[k] with
                  entries := s.shelves[k].entries.set e { s.shelves[k].entries[e] with lockout := bitAt r.body 3 0 }
                  command :=
                    if s.shelves[k].command = .force e ∨ s.shelves[k].command = .manual e then .none
                    else s.shelves[k].command } ∧
              queuedBy (fun j => j = k) s u ∧ u.events.copies[condGroup k] = groupPresent u k ∧
              sameBut [.count, .shelves, .queue, .latches, .conditions, .noticeState, .control] s u))

/-- R97: CLEAR sets the command of a shelf that is not parked to NONE, whatever it was, queues the shelf when it was not
already NONE, is answered DONE either way, and touches no lockout. -/
def Obligations.ClearEndsCommand : Prop :=
  ∀ (r : Request) (k : ShelfId) (s : State),
    EngineTaken .commandClear r s → checkCommand r = none → byteAt r.body 0 = k.val → s.slices[k].timing ≠ .parked →
    ∃ u t, exec .commandClear s = .next t ∧ u.engine.count = 0 ∧ Answered r .done [] u t ∧
      u.shelves = s.shelves.set k { s.shelves[k] with command := .none } ∧
      queuedBy (fun j => j = k ∧ s.shelves[k].command ≠ .none) s u ∧ sameBut [.count, .shelves, .queue] s u

/-- SLICE, for each masked shelf: PARK of an unparked one withdraws the target, stops every timer and sends nothing;
UNPARK of a parked one enters FREERUN, directs HOLD under the next sequence and queues the shelf; RESET clears command,
lock-failed set, target, history and report, directs HOLD unless the slice is PARKED, and queues the shelf; the
Directives are offered to the FABRIC local outbound queue in increasing shelf number, and a refused one is marked
unsent; all are answered DONE for the whole mask (R102 to R104, R111, R125 to R127, R178). -/
def Obligations.SliceRequestsServed : Prop :=
  ∀ (r : Request) (mask : BitVec 16) (s : State), checkSlice r = none → mask = BitVec.ofNat 16 (numAt r.body 0 2) →
    (EngineTaken .park r s →
      ∃ u t, exec .park s = .next t ∧ u.engine.count = 0 ∧
          Answered r .done (maskBytes mask ++ maskBytes 0 ++ [0x00]) u t ∧
        (∀ k : ShelfId, mask.getLsbD k.val = true → s.slices[k].timing ≠ .parked →
          u.slices[k].timing = .parked ∧ u.slices[k].target = none ∧ targetSlot u k = none ∧
            u.slices[k].lockTimer = none ∧ u.slices[k].settleTimer = none ∧ u.slices[k].reportTimer = none ∧
            u.slices[k].holdoverSince = none ∧ u.slices[k].unreachable = false ∧ u.slices[k].unsent = false ∧
            u.slices[k].seq = s.slices[k].seq ∧ u.slices[k].action = s.slices[k].action ∧
            u.slices[k].history = s.slices[k].history ∧ u.slices[k].lastReport = s.slices[k].lastReport ∧
            u.shelves[k].command = s.shelves[k].command) ∧
        (∀ k : ShelfId, mask.getLsbD k.val = false ∨ s.slices[k].timing = .parked →
          u.slices[k] = s.slices[k] ∧ u.shelves[k] = s.shelves[k]) ∧ Part.same .fabric s u ∧
        sameBut (.count :: .queue :: .shelves :: sliceParts) s u) ∧
    (EngineTaken .unpark r s →
      let woken := (List.finRange 16).filter fun k => mask.getLsbD k.val && decide (s.slices[k].timing = .parked)
      let directives : List ShelfId → List OutFrame :=
          fun ks => ks.map fun k => directiveTo s k (s.slices[k].seq + 1) none
      ∃ u t, exec .unpark s = .next t ∧ u.engine.count = 0 ∧
        Answered r .done (maskBytes mask ++ maskBytes 0 ++ [0x00]) u t ∧
        (∀ k : ShelfId, mask.getLsbD k.val = true → s.slices[k].timing = .parked →
          u.slices[k].timing = .freerun ∧ u.slices[k].unreachable = false ∧
            u.slices[k].seq = s.slices[k].seq + 1 ∧ u.slices[k].action = .hold ∧
            u.slices[k].reportTimer = some (s.osc + s.slices[k].cfg.reportS * 125000000) ∧
            u.slices[k].history = s.slices[k].history ∧ k ∈ u.engine.queue.map EvalEntry.shelf ∧
            u.slices[k].unsent = decide (32 ≤ (offeredInOrder s.lane.live
              (directives (woken.filter fun j => decide (j < k))) s.lane.fabric).localQ.length)) ∧
        (∀ k : ShelfId, mask.getLsbD k.val = false ∨ s.slices[k].timing ≠ .parked → u.slices[k] = s.slices[k]) ∧
        u.lane.fabric = offeredInOrder s.lane.live (directives woken) s.lane.fabric ∧
        sameBut (.count :: .queue :: sliceParts) s u) ∧
    (EngineTaken .sliceReset r s →
      let held := (List.finRange 16).filter fun k => mask.getLsbD k.val && decide (s.slices[k].timing ≠ .parked)
      let directives : List ShelfId → List OutFrame :=
          fun ks => ks.map fun k => directiveTo s k (s.slices[k].seq + 1) none
      ∃ u t, exec .sliceReset s = .next t ∧ u.engine.count = 0 ∧
        Answered r .done (maskBytes mask ++ maskBytes 0 ++ [0x00]) u t ∧
        (∀ k : ShelfId, mask.getLsbD k.val = true →
          u.shelves[k] =
              { s.shelves[k] with command := .none, failed := Vector.replicate 24 false, target := none } ∧
            u.slices[k].history = false ∧ u.slices[k].lastReport = none ∧ k ∈ u.engine.queue.map EvalEntry.shelf ∧
            (s.slices[k].timing = .parked →
              u.slices[k].timing = .parked ∧ u.slices[k].seq = s.slices[k].seq) ∧
            (s.slices[k].timing ≠ .parked →
              u.slices[k].timing = .freerun ∧ u.slices[k].target = none ∧ u.slices[k].seq = s.slices[k].seq + 1 ∧
                u.slices[k].action = .hold ∧ u.slices[k].unreachable = false ∧
                u.slices[k].reportTimer = some (s.osc + s.slices[k].cfg.reportS * 125000000) ∧
                u.slices[k].unsent = decide (32 ≤ (offeredInOrder s.lane.live
                  (directives (held.filter fun j => decide (j < k))) s.lane.fabric).localQ.length))) ∧
        (∀ k : ShelfId, mask.getLsbD k.val = false → u.slices[k] = s.slices[k] ∧ u.shelves[k] = s.shelves[k]) ∧
        u.lane.fabric = offeredInOrder s.lane.live (directives held) s.lane.fabric ∧
        sameBut (.count :: .queue :: .shelves :: sliceParts) s u)

/-- R100: CLEAR_MARKS empties the lock-failed set of every masked shelf, a parked one too, and queues those whose set
held a slot. -/
def Obligations.ClearMarksEmptiesSets : Prop :=
  ∀ (r : Request) (mask : BitVec 16) (s : State),
    EngineTaken .clearMarks r s → r.body.length = 2 → mask = BitVec.ofNat 16 (numAt r.body 0 2) →
    ∃ u t, exec .clearMarks s = .next t ∧ u.engine.count = 0 ∧
      Answered r .done (maskBytes mask ++ maskBytes 0 ++ [0x00]) u t ∧
      (∀ k : ShelfId, u.shelves[k] =
        if mask.getLsbD k.val then { s.shelves[k] with failed := Vector.replicate 24 false } else s.shelves[k]) ∧
      queuedBy (fun k => mask.getLsbD k.val = true ∧ ∃ n : Slot, s.shelves[k].failed[n] = true) s u ∧
      sameBut [.count, .shelves, .queue] s u

/-- ACK_EVENTS, by pairs or for all: each named SET latch becomes CLEAR, or ACKED_WAITING when it is a level latch whose
condition is present; every other latch, the copies, the notice state and the summary timer stay as they are (R156 to
R158, R179). -/
def Obligations.AcknowledgementsApplied : Prop :=
  ∀ (r : Request) (s : State), Taken .ackEvents r s → checkAckEvents r = none →
    ∃ u t, exec .ackEvents s = .next t ∧ Answered r .done [] u t ∧
      (∀ l : LatchId, u.events.latches[l] =
        if (byteAt r.body 0 = 0 ∨ ∃ i, i < byteAt r.body 0 ∧
              latchOf (byteAt r.body (1 + 2 * i)) (byteAt r.body (2 + 2 * i)) = some l) ∧ s.events.latches[l] = .set
        then (if s.events.isLevel l && s.events.present l then .ackedWaiting else .clear)
        else s.events.latches[l]) ∧
      sameBut [.latches] s u

/-- RESTART answers DONE, with the answer marked as the one whose end of transmission is the restart, and the agent
serves no further request; with the queue full the answer waits (R181). CLEAR_RESTART_RECORD clears all three flags,
answered DONE (R180). -/
def Obligations.RestartRequestAnswered : Prop :=
  ∀ (r : Request) (s : State), r.body = [] → Unheld 4 r s →
    (Taken .restart r s →
      ∃ (a : OutFrame) (t : State), exec .restart s = .next t ∧ a.bytes = answerFrame s r .done [] ∧
          a.isRestartAnswer = true ∧
        if s.lane.control.localQ.length < 8 then
          t.lane.control = OutPort.serve s.lane.live { s.lane.control with localQ := s.lane.control.localQ ++ [a] } ∧
            t.lane.requests = s.lane.requests.tail ∧ t.agent.phase = .restarting ∧ sameBut answerParts s t
        else t.agent.phase = .answerWaiting a ∧ sameBut [.phase] s t) ∧
    (Taken .clearRestartRecord r s →
      ∃ u t, exec .clearRestartRecord s = .next t ∧ Answered r .done [] u t ∧
        u.agent.record = { powerOn := false, resetLine := false, restartRequest := false } ∧ sameBut [.record] s u)

/-! ### Invariants that every step keeps -/

/-- No step takes a queue past its capacity (R6, R7, R10, R11); none takes a port past 3 EVENT notices in a budget
window, or lets the Notice Unit's copies of use and binding, or the state of a port out of use, go astray (R138, R143,
R144, R148); and none loses the request that the agent has in service, or lets one wait at the engine that has not
passed its checks (R10, R13, R84, R164, R166). -/
def Obligations.StepKeepsQueuesBounded : Prop :=
  (∀ s t : State, QueuesBounded s → step s = .next t → QueuesBounded t) ∧
  (∀ s t : State, TransmitPortsOk s → step s = .next t → TransmitPortsOk t) ∧
  (∀ s t : State, HeadRequestKept s → step s = .next t → HeadRequestKept t)

/-- No step leaves an output port free while a frame waits for it, and none starts a transmission while the reset line
is asserted (R14, R16). -/
def Obligations.StepKeepsArbitersServing : Prop :=
  ∀ s t : State, ArbitersServe s → step s = .next t → ArbitersServe t

/-- No step puts a shelf twice into the evaluation queue, or takes the budget count or the budget out of range (R81,
R83, R84), and none takes a setting out of its range (R18, R49, R67, R79, R109, R133, R135, R138, R160), a write that
waits at the engine having passed its checks, as StepKeepsQueuesBounded says it always has. -/
def Obligations.StepKeepsEngineQueue : Prop :=
  (∀ s t : State, EngineQueueOk s → step s = .next t → EngineQueueOk t) ∧
  (∀ s t : State, SettingsInRange s → HeadRequestKept s → step s = .next t → SettingsInRange t)

/-- No step puts one slot into two used entries of a shelf list (R78) or into two port entries in use (R54), or leaves a
target or a lock-failed slot that its shelf does not list (R80, R99). -/
def Obligations.StepKeepsListsFreeOfDuplicates : Prop :=
  (∀ s t : State, ListsHaveNoDuplicates s → step s = .next t → ListsHaveNoDuplicates t) ∧
  (∀ s t : State, BindingsUnique s → step s = .next t → BindingsUnique t) ∧
  (∀ s t : State, TargetsListed s → step s = .next t → TargetsListed t)

/-- No step, whatever is commanded, closes a timing loop: the walk over the target records from a shelf never comes back
to it (R89). -/
def Obligations.StepKeepsCascadeAcyclic : Prop :=
  ∀ s t : State, CascadeAcyclic s → step s = .next t → CascadeAcyclic t

/-- In every step slice and engine go on agreeing on the target, and an unparked slice directs its module to it (R112,
R113, R125); and the timers of a slice run only in their states (R119 to R125). -/
def Obligations.StepKeepsSlicesFollowingTargets : Prop :=
  (∀ s t : State, SlicesFollowTargets s → step s = .next t → SlicesFollowTargets t) ∧
  (∀ s t : State, SliceTimersOk s → step s = .next t → SliceTimersOk t)

/-- Every step leaves every candidate in a legal combination of kind, state, health and timer (R19 to R25), and every
tick input well formed and watched exactly when its slot is bound (R36 to R42, R47, R48). -/
def Obligations.StepKeepsCandidatesLegal : Prop :=
  (∀ s t : State, CandidatesOk s → step s = .next t → CandidatesOk t) ∧
  (∀ s t : State, InputsOk s → step s = .next t → InputsOk t)

/-- After every step every effective grade is the one that R68 and R69 give, and a candidate is held exactly while its
receive map is detached (R59, R61, R64 to R66, R72). -/
def Obligations.StepKeepsGradesCurrent : Prop :=
  (∀ s t : State, GradesCurrent s → step s = .next t → GradesCurrent t) ∧
  (∀ s t : State, HeldWithMap s → step s = .next t → HeldWithMap t)

/-- After every step a latch of a disabled kind is CLEAR, and an ACKED_WAITING latch is a level latch whose condition is
present (R155 to R157); and every condition copy is up to date (R153, R154). -/
def Obligations.StepKeepsLatchesLegal : Prop :=
  (∀ s t : State, LatchesOk s → step s = .next t → LatchesOk t) ∧
  (∀ s t : State, ConditionsCurrent s → step s = .next t → ConditionsCurrent t)
end

