-- ==== Sys2Proof/Laws/State.lean ====
section
/-! SUPPORT. What each update of one record does to each field of the state. -/

namespace Sys2Proof.Machine

-- One theorem after the other: the joined text would otherwise ask for a thread per waiting proof.
set_option Elab.async false

/-- A vector after one place is set, read at an index of its finite type. -/
theorem getElem_set_fin {α : Type} {m : Nat} (v : Vector α m) (i j : Fin m) (x : α) :
    (v.set i x)[j] = if i = j then x else v[j] := by
  simp only [Fin.getElem_fin, Vector.getElem_set, Fin.ext_iff]

/-- The same in simp's normal form, which reads a vector at a natural number. -/
@[simp] theorem getElem_set_val {α : Type} {m : Nat} (v : Vector α m) (i : Fin m) (j : Nat) (x : α) (h : j < m) :
    (v.set i x)[j] = if i.val = j then x else v[j] := Vector.getElem_set ..

/-- Two indexes of one finite type are equal when their numbers are. -/
@[simp] theorem fin_val_eq {m : Nat} (i j : Fin m) : i.val = j.val ↔ i = j := Fin.val_inj


/-! ### setCand -/

@[simp] theorem State.setCand_cands (s : State) (i : Slot) (x : Cand) :
    (s.setCand i x).cands = s.cands.set i x := rfl
theorem State.setCand_cands_at (s : State) (i j : Slot) (x : Cand) :
    (s.setCand i x).cands[j] = if i = j then x else s.cands[j] := getElem_set_fin _ _ _ _
@[simp] theorem State.setCand_osc (s : State) (i : Slot) (x : Cand) : (s.setCand i x).osc = s.osc := rfl
@[simp] theorem State.setCand_lane (s : State) (i : Slot) (x : Cand) : (s.setCand i x).lane = s.lane := rfl
@[simp] theorem State.setCand_inputs (s : State) (i : Slot) (x : Cand) : (s.setCand i x).inputs = s.inputs := rfl
@[simp] theorem State.setCand_correction (s : State) (i : Slot) (x : Cand) : (s.setCand i x).correction = s.correction := rfl
@[simp] theorem State.setCand_grades (s : State) (i : Slot) (x : Cand) : (s.setCand i x).grades = s.grades := rfl
@[simp] theorem State.setCand_rxPorts (s : State) (i : Slot) (x : Cand) : (s.setCand i x).rxPorts = s.rxPorts := rfl
@[simp] theorem State.setCand_rmaps (s : State) (i : Slot) (x : Cand) : (s.setCand i x).rmaps = s.rmaps := rfl
@[simp] theorem State.setCand_triples (s : State) (i : Slot) (x : Cand) : (s.setCand i x).triples = s.triples := rfl
@[simp] theorem State.setCand_shelves (s : State) (i : Slot) (x : Cand) : (s.setCand i x).shelves = s.shelves := rfl
@[simp] theorem State.setCand_engine (s : State) (i : Slot) (x : Cand) : (s.setCand i x).engine = s.engine := rfl
@[simp] theorem State.setCand_slices (s : State) (i : Slot) (x : Cand) : (s.setCand i x).slices = s.slices := rfl
@[simp] theorem State.setCand_baseTag (s : State) (i : Slot) (x : Cand) : (s.setCand i x).baseTag = s.baseTag := rfl
@[simp] theorem State.setCand_txPorts (s : State) (i : Slot) (x : Cand) : (s.setCand i x).txPorts = s.txPorts := rfl
@[simp] theorem State.setCand_tmaps (s : State) (i : Slot) (x : Cand) : (s.setCand i x).tmaps = s.tmaps := rfl
@[simp] theorem State.setCand_copies (s : State) (i : Slot) (x : Cand) : (s.setCand i x).copies = s.copies := rfl
@[simp] theorem State.setCand_windowStart (s : State) (i : Slot) (x : Cand) : (s.setCand i x).windowStart = s.windowStart := rfl
@[simp] theorem State.setCand_events (s : State) (i : Slot) (x : Cand) : (s.setCand i x).events = s.events := rfl
@[simp] theorem State.setCand_agent (s : State) (i : Slot) (x : Cand) : (s.setCand i x).agent = s.agent := rfl
@[simp] theorem State.setCand_flight (s : State) (i : Slot) (x : Cand) : (s.setCand i x).flight = s.flight := rfl
@[simp] theorem State.setCand_pending (s : State) (i : Slot) (x : Cand) : (s.setCand i x).pending = s.pending := rfl

/-! ### setInput -/

@[simp] theorem State.setInput_inputs (s : State) (i : Slot) (x : TickInput) :
    (s.setInput i x).inputs = s.inputs.set i x := rfl
theorem State.setInput_inputs_at (s : State) (i j : Slot) (x : TickInput) :
    (s.setInput i x).inputs[j] = if i = j then x else s.inputs[j] := getElem_set_fin _ _ _ _
@[simp] theorem State.setInput_osc (s : State) (i : Slot) (x : TickInput) : (s.setInput i x).osc = s.osc := rfl
@[simp] theorem State.setInput_lane (s : State) (i : Slot) (x : TickInput) : (s.setInput i x).lane = s.lane := rfl
@[simp] theorem State.setInput_cands (s : State) (i : Slot) (x : TickInput) : (s.setInput i x).cands = s.cands := rfl
@[simp] theorem State.setInput_correction (s : State) (i : Slot) (x : TickInput) : (s.setInput i x).correction = s.correction := rfl
@[simp] theorem State.setInput_grades (s : State) (i : Slot) (x : TickInput) : (s.setInput i x).grades = s.grades := rfl
@[simp] theorem State.setInput_rxPorts (s : State) (i : Slot) (x : TickInput) : (s.setInput i x).rxPorts = s.rxPorts := rfl
@[simp] theorem State.setInput_rmaps (s : State) (i : Slot) (x : TickInput) : (s.setInput i x).rmaps = s.rmaps := rfl
@[simp] theorem State.setInput_triples (s : State) (i : Slot) (x : TickInput) : (s.setInput i x).triples = s.triples := rfl
@[simp] theorem State.setInput_shelves (s : State) (i : Slot) (x : TickInput) : (s.setInput i x).shelves = s.shelves := rfl
@[simp] theorem State.setInput_engine (s : State) (i : Slot) (x : TickInput) : (s.setInput i x).engine = s.engine := rfl
@[simp] theorem State.setInput_slices (s : State) (i : Slot) (x : TickInput) : (s.setInput i x).slices = s.slices := rfl
@[simp] theorem State.setInput_baseTag (s : State) (i : Slot) (x : TickInput) : (s.setInput i x).baseTag = s.baseTag := rfl
@[simp] theorem State.setInput_txPorts (s : State) (i : Slot) (x : TickInput) : (s.setInput i x).txPorts = s.txPorts := rfl
@[simp] theorem State.setInput_tmaps (s : State) (i : Slot) (x : TickInput) : (s.setInput i x).tmaps = s.tmaps := rfl
@[simp] theorem State.setInput_copies (s : State) (i : Slot) (x : TickInput) : (s.setInput i x).copies = s.copies := rfl
@[simp] theorem State.setInput_windowStart (s : State) (i : Slot) (x : TickInput) : (s.setInput i x).windowStart = s.windowStart := rfl
@[simp] theorem State.setInput_events (s : State) (i : Slot) (x : TickInput) : (s.setInput i x).events = s.events := rfl
@[simp] theorem State.setInput_agent (s : State) (i : Slot) (x : TickInput) : (s.setInput i x).agent = s.agent := rfl
@[simp] theorem State.setInput_flight (s : State) (i : Slot) (x : TickInput) : (s.setInput i x).flight = s.flight := rfl
@[simp] theorem State.setInput_pending (s : State) (i : Slot) (x : TickInput) : (s.setInput i x).pending = s.pending := rfl

/-! ### setGrade -/

@[simp] theorem State.setGrade_grades (s : State) (i : Slot) (x : GradeSlot) :
    (s.setGrade i x).grades = s.grades.set i x := rfl
theorem State.setGrade_grades_at (s : State) (i j : Slot) (x : GradeSlot) :
    (s.setGrade i x).grades[j] = if i = j then x else s.grades[j] := getElem_set_fin _ _ _ _
@[simp] theorem State.setGrade_osc (s : State) (i : Slot) (x : GradeSlot) : (s.setGrade i x).osc = s.osc := rfl
@[simp] theorem State.setGrade_lane (s : State) (i : Slot) (x : GradeSlot) : (s.setGrade i x).lane = s.lane := rfl
@[simp] theorem State.setGrade_cands (s : State) (i : Slot) (x : GradeSlot) : (s.setGrade i x).cands = s.cands := rfl
@[simp] theorem State.setGrade_inputs (s : State) (i : Slot) (x : GradeSlot) : (s.setGrade i x).inputs = s.inputs := rfl
@[simp] theorem State.setGrade_correction (s : State) (i : Slot) (x : GradeSlot) : (s.setGrade i x).correction = s.correction := rfl
@[simp] theorem State.setGrade_rxPorts (s : State) (i : Slot) (x : GradeSlot) : (s.setGrade i x).rxPorts = s.rxPorts := rfl
@[simp] theorem State.setGrade_rmaps (s : State) (i : Slot) (x : GradeSlot) : (s.setGrade i x).rmaps = s.rmaps := rfl
@[simp] theorem State.setGrade_triples (s : State) (i : Slot) (x : GradeSlot) : (s.setGrade i x).triples = s.triples := rfl
@[simp] theorem State.setGrade_shelves (s : State) (i : Slot) (x : GradeSlot) : (s.setGrade i x).shelves = s.shelves := rfl
@[simp] theorem State.setGrade_engine (s : State) (i : Slot) (x : GradeSlot) : (s.setGrade i x).engine = s.engine := rfl
@[simp] theorem State.setGrade_slices (s : State) (i : Slot) (x : GradeSlot) : (s.setGrade i x).slices = s.slices := rfl
@[simp] theorem State.setGrade_baseTag (s : State) (i : Slot) (x : GradeSlot) : (s.setGrade i x).baseTag = s.baseTag := rfl
@[simp] theorem State.setGrade_txPorts (s : State) (i : Slot) (x : GradeSlot) : (s.setGrade i x).txPorts = s.txPorts := rfl
@[simp] theorem State.setGrade_tmaps (s : State) (i : Slot) (x : GradeSlot) : (s.setGrade i x).tmaps = s.tmaps := rfl
@[simp] theorem State.setGrade_copies (s : State) (i : Slot) (x : GradeSlot) : (s.setGrade i x).copies = s.copies := rfl
@[simp] theorem State.setGrade_windowStart (s : State) (i : Slot) (x : GradeSlot) : (s.setGrade i x).windowStart = s.windowStart := rfl
@[simp] theorem State.setGrade_events (s : State) (i : Slot) (x : GradeSlot) : (s.setGrade i x).events = s.events := rfl
@[simp] theorem State.setGrade_agent (s : State) (i : Slot) (x : GradeSlot) : (s.setGrade i x).agent = s.agent := rfl
@[simp] theorem State.setGrade_flight (s : State) (i : Slot) (x : GradeSlot) : (s.setGrade i x).flight = s.flight := rfl
@[simp] theorem State.setGrade_pending (s : State) (i : Slot) (x : GradeSlot) : (s.setGrade i x).pending = s.pending := rfl

/-! ### setShelf -/

@[simp] theorem State.setShelf_shelves (s : State) (i : ShelfId) (x : Shelf) :
    (s.setShelf i x).shelves = s.shelves.set i x := rfl
theorem State.setShelf_shelves_at (s : State) (i j : ShelfId) (x : Shelf) :
    (s.setShelf i x).shelves[j] = if i = j then x else s.shelves[j] := getElem_set_fin _ _ _ _
@[simp] theorem State.setShelf_osc (s : State) (i : ShelfId) (x : Shelf) : (s.setShelf i x).osc = s.osc := rfl
@[simp] theorem State.setShelf_lane (s : State) (i : ShelfId) (x : Shelf) : (s.setShelf i x).lane = s.lane := rfl
@[simp] theorem State.setShelf_cands (s : State) (i : ShelfId) (x : Shelf) : (s.setShelf i x).cands = s.cands := rfl
@[simp] theorem State.setShelf_inputs (s : State) (i : ShelfId) (x : Shelf) : (s.setShelf i x).inputs = s.inputs := rfl
@[simp] theorem State.setShelf_correction (s : State) (i : ShelfId) (x : Shelf) : (s.setShelf i x).correction = s.correction := rfl
@[simp] theorem State.setShelf_grades (s : State) (i : ShelfId) (x : Shelf) : (s.setShelf i x).grades = s.grades := rfl
@[simp] theorem State.setShelf_rxPorts (s : State) (i : ShelfId) (x : Shelf) : (s.setShelf i x).rxPorts = s.rxPorts := rfl
@[simp] theorem State.setShelf_rmaps (s : State) (i : ShelfId) (x : Shelf) : (s.setShelf i x).rmaps = s.rmaps := rfl
@[simp] theorem State.setShelf_triples (s : State) (i : ShelfId) (x : Shelf) : (s.setShelf i x).triples = s.triples := rfl
@[simp] theorem State.setShelf_engine (s : State) (i : ShelfId) (x : Shelf) : (s.setShelf i x).engine = s.engine := rfl
@[simp] theorem State.setShelf_slices (s : State) (i : ShelfId) (x : Shelf) : (s.setShelf i x).slices = s.slices := rfl
@[simp] theorem State.setShelf_baseTag (s : State) (i : ShelfId) (x : Shelf) : (s.setShelf i x).baseTag = s.baseTag := rfl
@[simp] theorem State.setShelf_txPorts (s : State) (i : ShelfId) (x : Shelf) : (s.setShelf i x).txPorts = s.txPorts := rfl
@[simp] theorem State.setShelf_tmaps (s : State) (i : ShelfId) (x : Shelf) : (s.setShelf i x).tmaps = s.tmaps := rfl
@[simp] theorem State.setShelf_copies (s : State) (i : ShelfId) (x : Shelf) : (s.setShelf i x).copies = s.copies := rfl
@[simp] theorem State.setShelf_windowStart (s : State) (i : ShelfId) (x : Shelf) : (s.setShelf i x).windowStart = s.windowStart := rfl
@[simp] theorem State.setShelf_events (s : State) (i : ShelfId) (x : Shelf) : (s.setShelf i x).events = s.events := rfl
@[simp] theorem State.setShelf_agent (s : State) (i : ShelfId) (x : Shelf) : (s.setShelf i x).agent = s.agent := rfl
@[simp] theorem State.setShelf_flight (s : State) (i : ShelfId) (x : Shelf) : (s.setShelf i x).flight = s.flight := rfl
@[simp] theorem State.setShelf_pending (s : State) (i : ShelfId) (x : Shelf) : (s.setShelf i x).pending = s.pending := rfl

/-! ### setSlice -/

@[simp] theorem State.setSlice_slices (s : State) (i : ShelfId) (x : Slice) :
    (s.setSlice i x).slices = s.slices.set i x := rfl
theorem State.setSlice_slices_at (s : State) (i j : ShelfId) (x : Slice) :
    (s.setSlice i x).slices[j] = if i = j then x else s.slices[j] := getElem_set_fin _ _ _ _
@[simp] theorem State.setSlice_osc (s : State) (i : ShelfId) (x : Slice) : (s.setSlice i x).osc = s.osc := rfl
@[simp] theorem State.setSlice_lane (s : State) (i : ShelfId) (x : Slice) : (s.setSlice i x).lane = s.lane := rfl
@[simp] theorem State.setSlice_cands (s : State) (i : ShelfId) (x : Slice) : (s.setSlice i x).cands = s.cands := rfl
@[simp] theorem State.setSlice_inputs (s : State) (i : ShelfId) (x : Slice) : (s.setSlice i x).inputs = s.inputs := rfl
@[simp] theorem State.setSlice_correction (s : State) (i : ShelfId) (x : Slice) : (s.setSlice i x).correction = s.correction := rfl
@[simp] theorem State.setSlice_grades (s : State) (i : ShelfId) (x : Slice) : (s.setSlice i x).grades = s.grades := rfl
@[simp] theorem State.setSlice_rxPorts (s : State) (i : ShelfId) (x : Slice) : (s.setSlice i x).rxPorts = s.rxPorts := rfl
@[simp] theorem State.setSlice_rmaps (s : State) (i : ShelfId) (x : Slice) : (s.setSlice i x).rmaps = s.rmaps := rfl
@[simp] theorem State.setSlice_triples (s : State) (i : ShelfId) (x : Slice) : (s.setSlice i x).triples = s.triples := rfl
@[simp] theorem State.setSlice_shelves (s : State) (i : ShelfId) (x : Slice) : (s.setSlice i x).shelves = s.shelves := rfl
@[simp] theorem State.setSlice_engine (s : State) (i : ShelfId) (x : Slice) : (s.setSlice i x).engine = s.engine := rfl
@[simp] theorem State.setSlice_baseTag (s : State) (i : ShelfId) (x : Slice) : (s.setSlice i x).baseTag = s.baseTag := rfl
@[simp] theorem State.setSlice_txPorts (s : State) (i : ShelfId) (x : Slice) : (s.setSlice i x).txPorts = s.txPorts := rfl
@[simp] theorem State.setSlice_tmaps (s : State) (i : ShelfId) (x : Slice) : (s.setSlice i x).tmaps = s.tmaps := rfl
@[simp] theorem State.setSlice_copies (s : State) (i : ShelfId) (x : Slice) : (s.setSlice i x).copies = s.copies := rfl
@[simp] theorem State.setSlice_windowStart (s : State) (i : ShelfId) (x : Slice) : (s.setSlice i x).windowStart = s.windowStart := rfl
@[simp] theorem State.setSlice_events (s : State) (i : ShelfId) (x : Slice) : (s.setSlice i x).events = s.events := rfl
@[simp] theorem State.setSlice_agent (s : State) (i : ShelfId) (x : Slice) : (s.setSlice i x).agent = s.agent := rfl
@[simp] theorem State.setSlice_flight (s : State) (i : ShelfId) (x : Slice) : (s.setSlice i x).flight = s.flight := rfl
@[simp] theorem State.setSlice_pending (s : State) (i : ShelfId) (x : Slice) : (s.setSlice i x).pending = s.pending := rfl

/-! ### setTx -/

@[simp] theorem State.setTx_txPorts (s : State) (i : PortId) (x : TxPort) :
    (s.setTx i x).txPorts = s.txPorts.set i x := rfl
theorem State.setTx_txPorts_at (s : State) (i j : PortId) (x : TxPort) :
    (s.setTx i x).txPorts[j] = if i = j then x else s.txPorts[j] := getElem_set_fin _ _ _ _
@[simp] theorem State.setTx_osc (s : State) (i : PortId) (x : TxPort) : (s.setTx i x).osc = s.osc := rfl
@[simp] theorem State.setTx_lane (s : State) (i : PortId) (x : TxPort) : (s.setTx i x).lane = s.lane := rfl
@[simp] theorem State.setTx_cands (s : State) (i : PortId) (x : TxPort) : (s.setTx i x).cands = s.cands := rfl
@[simp] theorem State.setTx_inputs (s : State) (i : PortId) (x : TxPort) : (s.setTx i x).inputs = s.inputs := rfl
@[simp] theorem State.setTx_correction (s : State) (i : PortId) (x : TxPort) : (s.setTx i x).correction = s.correction := rfl
@[simp] theorem State.setTx_grades (s : State) (i : PortId) (x : TxPort) : (s.setTx i x).grades = s.grades := rfl
@[simp] theorem State.setTx_rxPorts (s : State) (i : PortId) (x : TxPort) : (s.setTx i x).rxPorts = s.rxPorts := rfl
@[simp] theorem State.setTx_rmaps (s : State) (i : PortId) (x : TxPort) : (s.setTx i x).rmaps = s.rmaps := rfl
@[simp] theorem State.setTx_triples (s : State) (i : PortId) (x : TxPort) : (s.setTx i x).triples = s.triples := rfl
@[simp] theorem State.setTx_shelves (s : State) (i : PortId) (x : TxPort) : (s.setTx i x).shelves = s.shelves := rfl
@[simp] theorem State.setTx_engine (s : State) (i : PortId) (x : TxPort) : (s.setTx i x).engine = s.engine := rfl
@[simp] theorem State.setTx_slices (s : State) (i : PortId) (x : TxPort) : (s.setTx i x).slices = s.slices := rfl
@[simp] theorem State.setTx_baseTag (s : State) (i : PortId) (x : TxPort) : (s.setTx i x).baseTag = s.baseTag := rfl
@[simp] theorem State.setTx_tmaps (s : State) (i : PortId) (x : TxPort) : (s.setTx i x).tmaps = s.tmaps := rfl
@[simp] theorem State.setTx_copies (s : State) (i : PortId) (x : TxPort) : (s.setTx i x).copies = s.copies := rfl
@[simp] theorem State.setTx_windowStart (s : State) (i : PortId) (x : TxPort) : (s.setTx i x).windowStart = s.windowStart := rfl
@[simp] theorem State.setTx_events (s : State) (i : PortId) (x : TxPort) : (s.setTx i x).events = s.events := rfl
@[simp] theorem State.setTx_agent (s : State) (i : PortId) (x : TxPort) : (s.setTx i x).agent = s.agent := rfl
@[simp] theorem State.setTx_flight (s : State) (i : PortId) (x : TxPort) : (s.setTx i x).flight = s.flight := rfl
@[simp] theorem State.setTx_pending (s : State) (i : PortId) (x : TxPort) : (s.setTx i x).pending = s.pending := rfl

/-! ### setEngine -/

@[simp] theorem State.setEngine_osc (s : State) (x : Engine) : (s.setEngine x).osc = s.osc := rfl
@[simp] theorem State.setEngine_lane (s : State) (x : Engine) : (s.setEngine x).lane = s.lane := rfl
@[simp] theorem State.setEngine_cands (s : State) (x : Engine) : (s.setEngine x).cands = s.cands := rfl
@[simp] theorem State.setEngine_inputs (s : State) (x : Engine) : (s.setEngine x).inputs = s.inputs := rfl
@[simp] theorem State.setEngine_correction (s : State) (x : Engine) : (s.setEngine x).correction = s.correction := rfl
@[simp] theorem State.setEngine_grades (s : State) (x : Engine) : (s.setEngine x).grades = s.grades := rfl
@[simp] theorem State.setEngine_rxPorts (s : State) (x : Engine) : (s.setEngine x).rxPorts = s.rxPorts := rfl
@[simp] theorem State.setEngine_rmaps (s : State) (x : Engine) : (s.setEngine x).rmaps = s.rmaps := rfl
@[simp] theorem State.setEngine_triples (s : State) (x : Engine) : (s.setEngine x).triples = s.triples := rfl
@[simp] theorem State.setEngine_shelves (s : State) (x : Engine) : (s.setEngine x).shelves = s.shelves := rfl
@[simp] theorem State.setEngine_engine (s : State) (x : Engine) : (s.setEngine x).engine = x := rfl
@[simp] theorem State.setEngine_slices (s : State) (x : Engine) : (s.setEngine x).slices = s.slices := rfl
@[simp] theorem State.setEngine_baseTag (s : State) (x : Engine) : (s.setEngine x).baseTag = s.baseTag := rfl
@[simp] theorem State.setEngine_txPorts (s : State) (x : Engine) : (s.setEngine x).txPorts = s.txPorts := rfl
@[simp] theorem State.setEngine_tmaps (s : State) (x : Engine) : (s.setEngine x).tmaps = s.tmaps := rfl
@[simp] theorem State.setEngine_copies (s : State) (x : Engine) : (s.setEngine x).copies = s.copies := rfl
@[simp] theorem State.setEngine_windowStart (s : State) (x : Engine) : (s.setEngine x).windowStart = s.windowStart := rfl
@[simp] theorem State.setEngine_events (s : State) (x : Engine) : (s.setEngine x).events = s.events := rfl
@[simp] theorem State.setEngine_agent (s : State) (x : Engine) : (s.setEngine x).agent = s.agent := rfl
@[simp] theorem State.setEngine_flight (s : State) (x : Engine) : (s.setEngine x).flight = s.flight := rfl
@[simp] theorem State.setEngine_pending (s : State) (x : Engine) : (s.setEngine x).pending = s.pending := rfl

/-! ### setAgent -/

@[simp] theorem State.setAgent_osc (s : State) (x : Agent) : (s.setAgent x).osc = s.osc := rfl
@[simp] theorem State.setAgent_lane (s : State) (x : Agent) : (s.setAgent x).lane = s.lane := rfl
@[simp] theorem State.setAgent_cands (s : State) (x : Agent) : (s.setAgent x).cands = s.cands := rfl
@[simp] theorem State.setAgent_inputs (s : State) (x : Agent) : (s.setAgent x).inputs = s.inputs := rfl
@[simp] theorem State.setAgent_correction (s : State) (x : Agent) : (s.setAgent x).correction = s.correction := rfl
@[simp] theorem State.setAgent_grades (s : State) (x : Agent) : (s.setAgent x).grades = s.grades := rfl
@[simp] theorem State.setAgent_rxPorts (s : State) (x : Agent) : (s.setAgent x).rxPorts = s.rxPorts := rfl
@[simp] theorem State.setAgent_rmaps (s : State) (x : Agent) : (s.setAgent x).rmaps = s.rmaps := rfl
@[simp] theorem State.setAgent_triples (s : State) (x : Agent) : (s.setAgent x).triples = s.triples := rfl
@[simp] theorem State.setAgent_shelves (s : State) (x : Agent) : (s.setAgent x).shelves = s.shelves := rfl
@[simp] theorem State.setAgent_engine (s : State) (x : Agent) : (s.setAgent x).engine = s.engine := rfl
@[simp] theorem State.setAgent_slices (s : State) (x : Agent) : (s.setAgent x).slices = s.slices := rfl
@[simp] theorem State.setAgent_baseTag (s : State) (x : Agent) : (s.setAgent x).baseTag = s.baseTag := rfl
@[simp] theorem State.setAgent_txPorts (s : State) (x : Agent) : (s.setAgent x).txPorts = s.txPorts := rfl
@[simp] theorem State.setAgent_tmaps (s : State) (x : Agent) : (s.setAgent x).tmaps = s.tmaps := rfl
@[simp] theorem State.setAgent_copies (s : State) (x : Agent) : (s.setAgent x).copies = s.copies := rfl
@[simp] theorem State.setAgent_windowStart (s : State) (x : Agent) : (s.setAgent x).windowStart = s.windowStart := rfl
@[simp] theorem State.setAgent_events (s : State) (x : Agent) : (s.setAgent x).events = s.events := rfl
@[simp] theorem State.setAgent_agent (s : State) (x : Agent) : (s.setAgent x).agent = x := rfl
@[simp] theorem State.setAgent_flight (s : State) (x : Agent) : (s.setAgent x).flight = s.flight := rfl
@[simp] theorem State.setAgent_pending (s : State) (x : Agent) : (s.setAgent x).pending = s.pending := rfl

/-! ### setFlight -/

@[simp] theorem State.setFlight_osc (s : State) (x : InFlight) : (s.setFlight x).osc = s.osc := rfl
@[simp] theorem State.setFlight_lane (s : State) (x : InFlight) : (s.setFlight x).lane = s.lane := rfl
@[simp] theorem State.setFlight_cands (s : State) (x : InFlight) : (s.setFlight x).cands = s.cands := rfl
@[simp] theorem State.setFlight_inputs (s : State) (x : InFlight) : (s.setFlight x).inputs = s.inputs := rfl
@[simp] theorem State.setFlight_correction (s : State) (x : InFlight) : (s.setFlight x).correction = s.correction := rfl
@[simp] theorem State.setFlight_grades (s : State) (x : InFlight) : (s.setFlight x).grades = s.grades := rfl
@[simp] theorem State.setFlight_rxPorts (s : State) (x : InFlight) : (s.setFlight x).rxPorts = s.rxPorts := rfl
@[simp] theorem State.setFlight_rmaps (s : State) (x : InFlight) : (s.setFlight x).rmaps = s.rmaps := rfl
@[simp] theorem State.setFlight_triples (s : State) (x : InFlight) : (s.setFlight x).triples = s.triples := rfl
@[simp] theorem State.setFlight_shelves (s : State) (x : InFlight) : (s.setFlight x).shelves = s.shelves := rfl
@[simp] theorem State.setFlight_engine (s : State) (x : InFlight) : (s.setFlight x).engine = s.engine := rfl
@[simp] theorem State.setFlight_slices (s : State) (x : InFlight) : (s.setFlight x).slices = s.slices := rfl
@[simp] theorem State.setFlight_baseTag (s : State) (x : InFlight) : (s.setFlight x).baseTag = s.baseTag := rfl
@[simp] theorem State.setFlight_txPorts (s : State) (x : InFlight) : (s.setFlight x).txPorts = s.txPorts := rfl
@[simp] theorem State.setFlight_tmaps (s : State) (x : InFlight) : (s.setFlight x).tmaps = s.tmaps := rfl
@[simp] theorem State.setFlight_copies (s : State) (x : InFlight) : (s.setFlight x).copies = s.copies := rfl
@[simp] theorem State.setFlight_windowStart (s : State) (x : InFlight) : (s.setFlight x).windowStart = s.windowStart := rfl
@[simp] theorem State.setFlight_events (s : State) (x : InFlight) : (s.setFlight x).events = s.events := rfl
@[simp] theorem State.setFlight_agent (s : State) (x : InFlight) : (s.setFlight x).agent = s.agent := rfl
@[simp] theorem State.setFlight_flight (s : State) (x : InFlight) : (s.setFlight x).flight = x := rfl
@[simp] theorem State.setFlight_pending (s : State) (x : InFlight) : (s.setFlight x).pending = s.pending := rfl

/-! ### setLane -/

@[simp] theorem State.setLane_osc (s : State) (x : Lane) : (s.setLane x).osc = s.osc := rfl
@[simp] theorem State.setLane_lane (s : State) (x : Lane) : (s.setLane x).lane = x := rfl
@[simp] theorem State.setLane_cands (s : State) (x : Lane) : (s.setLane x).cands = s.cands := rfl
@[simp] theorem State.setLane_inputs (s : State) (x : Lane) : (s.setLane x).inputs = s.inputs := rfl
@[simp] theorem State.setLane_correction (s : State) (x : Lane) : (s.setLane x).correction = s.correction := rfl
@[simp] theorem State.setLane_grades (s : State) (x : Lane) : (s.setLane x).grades = s.grades := rfl
@[simp] theorem State.setLane_rxPorts (s : State) (x : Lane) : (s.setLane x).rxPorts = s.rxPorts := rfl
@[simp] theorem State.setLane_rmaps (s : State) (x : Lane) : (s.setLane x).rmaps = s.rmaps := rfl
@[simp] theorem State.setLane_triples (s : State) (x : Lane) : (s.setLane x).triples = s.triples := rfl
@[simp] theorem State.setLane_shelves (s : State) (x : Lane) : (s.setLane x).shelves = s.shelves := rfl
@[simp] theorem State.setLane_engine (s : State) (x : Lane) : (s.setLane x).engine = s.engine := rfl
@[simp] theorem State.setLane_slices (s : State) (x : Lane) : (s.setLane x).slices = s.slices := rfl
@[simp] theorem State.setLane_baseTag (s : State) (x : Lane) : (s.setLane x).baseTag = s.baseTag := rfl
@[simp] theorem State.setLane_txPorts (s : State) (x : Lane) : (s.setLane x).txPorts = s.txPorts := rfl
@[simp] theorem State.setLane_tmaps (s : State) (x : Lane) : (s.setLane x).tmaps = s.tmaps := rfl
@[simp] theorem State.setLane_copies (s : State) (x : Lane) : (s.setLane x).copies = s.copies := rfl
@[simp] theorem State.setLane_windowStart (s : State) (x : Lane) : (s.setLane x).windowStart = s.windowStart := rfl
@[simp] theorem State.setLane_events (s : State) (x : Lane) : (s.setLane x).events = s.events := rfl
@[simp] theorem State.setLane_agent (s : State) (x : Lane) : (s.setLane x).agent = s.agent := rfl
@[simp] theorem State.setLane_flight (s : State) (x : Lane) : (s.setLane x).flight = s.flight := rfl
@[simp] theorem State.setLane_pending (s : State) (x : Lane) : (s.setLane x).pending = s.pending := rfl

/-! ### advanceTo -/

@[simp] theorem State.advanceTo_osc (s : State) (t : Nat) : (s.advanceTo t).osc = max s.osc t := rfl
@[simp] theorem State.advanceTo_lane (s : State) (t : Nat) : (s.advanceTo t).lane = s.lane := rfl
@[simp] theorem State.advanceTo_cands (s : State) (t : Nat) : (s.advanceTo t).cands = s.cands := rfl
@[simp] theorem State.advanceTo_inputs (s : State) (t : Nat) : (s.advanceTo t).inputs = s.inputs := rfl
@[simp] theorem State.advanceTo_correction (s : State) (t : Nat) : (s.advanceTo t).correction = s.correction := rfl
@[simp] theorem State.advanceTo_grades (s : State) (t : Nat) : (s.advanceTo t).grades = s.grades := rfl
@[simp] theorem State.advanceTo_rxPorts (s : State) (t : Nat) : (s.advanceTo t).rxPorts = s.rxPorts := rfl
@[simp] theorem State.advanceTo_rmaps (s : State) (t : Nat) : (s.advanceTo t).rmaps = s.rmaps := rfl
@[simp] theorem State.advanceTo_triples (s : State) (t : Nat) : (s.advanceTo t).triples = s.triples := rfl
@[simp] theorem State.advanceTo_shelves (s : State) (t : Nat) : (s.advanceTo t).shelves = s.shelves := rfl
@[simp] theorem State.advanceTo_engine (s : State) (t : Nat) : (s.advanceTo t).engine = s.engine := rfl
@[simp] theorem State.advanceTo_slices (s : State) (t : Nat) : (s.advanceTo t).slices = s.slices := rfl
@[simp] theorem State.advanceTo_baseTag (s : State) (t : Nat) : (s.advanceTo t).baseTag = s.baseTag := rfl
@[simp] theorem State.advanceTo_txPorts (s : State) (t : Nat) : (s.advanceTo t).txPorts = s.txPorts := rfl
@[simp] theorem State.advanceTo_tmaps (s : State) (t : Nat) : (s.advanceTo t).tmaps = s.tmaps := rfl
@[simp] theorem State.advanceTo_copies (s : State) (t : Nat) : (s.advanceTo t).copies = s.copies := rfl
@[simp] theorem State.advanceTo_windowStart (s : State) (t : Nat) : (s.advanceTo t).windowStart = s.windowStart := rfl
@[simp] theorem State.advanceTo_events (s : State) (t : Nat) : (s.advanceTo t).events = s.events := rfl
@[simp] theorem State.advanceTo_agent (s : State) (t : Nat) : (s.advanceTo t).agent = s.agent := rfl
@[simp] theorem State.advanceTo_flight (s : State) (t : Nat) : (s.advanceTo t).flight = s.flight := rfl
@[simp] theorem State.advanceTo_pending (s : State) (t : Nat) : (s.advanceTo t).pending = s.pending := rfl

end Sys2Proof.Machine
end

