-- ==== Sys2Proof/Laws/Frames.lean ====
section
/-! SUPPORT. The frame of each shared operation: the parts of the state that it can change. A frame of a longer
operation is put together from these by `sameBut.andThen`. -/

namespace Sys2Proof.Machine

-- One theorem after the other: the joined text would otherwise ask for a thread per waiting proof.
set_option Elab.async false

/-! ### Frames as such -/

theorem Part.same_refl (p : Part) (s : State) : p.same s s := by cases p <;> simp [Part.same]

theorem Part.same_trans (p : Part) {s t u : State} (h : p.same s t) (g : p.same t u) : p.same s u := by
  cases p <;> simp_all [Part.same]

theorem sameBut.refl (ps : List Part) (s : State) : sameBut ps s s := fun p _ => p.same_refl s

theorem sameBut.mono {ps qs : List Part} {s t : State} (h : sameBut ps s t) (hq : ps ⊆ qs := by decide) :
    sameBut qs s t := fun p hp => h p fun hm => hp (hq hm)

theorem sameBut.trans {ps : List Part} {s t u : State} (h : sameBut ps s t) (g : sameBut ps t u) : sameBut ps s u :=
  fun p hp => p.same_trans (h p hp) (g p hp)

/-- Two operations one after the other change no more than both lists name. -/
theorem sameBut.andThen {ps qs rs : List Part} {s t u : State} (h : sameBut ps s t) (g : sameBut qs t u)
    (hp : ps ⊆ rs := by decide) (hq : qs ⊆ rs := by decide) : sameBut rs s u := (h.mono hp).trans (g.mono hq)

theorem sameBut.ite {ps : List Part} {c : Prop} [Decidable c] {s t u : State} (h : sameBut ps s t) (g : sameBut ps s u) :
    sameBut ps s (if c then t else u) := by split <;> assumption

theorem foldl_sameBut {α : Type} {ps : List Part} (f : α → State → State) (h : ∀ a t, sameBut ps t (f a t)) (l : List α)
    (s : State) : sameBut ps s (l.foldl (fun t a => f a t) s) := by
  induction l generalizing s with
  | nil => exact sameBut.refl _ _
  | cons a l ih => exact (h a s).trans (ih (f a s))

theorem overSlots_sameBut {ps : List Part} (f : Slot → State → State) (h : ∀ n t, sameBut ps t (f n t)) (s : State) :
    sameBut ps s (overSlots f s) := foldl_sameBut f h _ s

theorem overShelves_sameBut {ps : List Part} (f : ShelfId → State → State) (h : ∀ k t, sameBut ps t (f k t)) (s : State) :
    sameBut ps s (overShelves f s) := foldl_sameBut f h _ s

theorem overPorts_sameBut {ps : List Part} (f : PortId → State → State) (h : ∀ p t, sameBut ps t (f p t)) (s : State) :
    sameBut ps s (overPorts f s) := foldl_sameBut f h _ s

/-! ### Updates of one record -/

theorem advanceTo_sameBut (s : State) (n : Nat) : sameBut [.osc] s (s.advanceTo n) := by
  intro p; cases p <;> simp [Part.same]

theorem setCand_sameBut (s : State) (n : Slot) (c : Cand) : sameBut [.cands] s (s.setCand n c) := by
  intro p; cases p <;> simp [Part.same]

theorem setInput_sameBut (s : State) (n : Slot) (i : TickInput) : sameBut [.inputs] s (s.setInput n i) := by
  intro p; cases p <;> simp [Part.same]

theorem setGrade_sameBut (s : State) (n : Slot) (g : GradeSlot) : sameBut [.grades] s (s.setGrade n g) := by
  intro p; cases p <;> simp [Part.same]

theorem setShelf_sameBut (s : State) (k : ShelfId) (h : Shelf) : sameBut [.shelves] s (s.setShelf k h) := by
  intro p; cases p <;> simp [Part.same]

theorem setSlice_sameBut (s : State) (k : ShelfId) (v : Slice) : sameBut [.slices] s (s.setSlice k v) := by
  intro p; cases p <;> simp [Part.same]

theorem setTx_sameBut (s : State) (q : PortId) (t : TxPort) : sameBut [.txPorts] s (s.setTx q t) := by
  intro p; cases p <;> simp [Part.same]

/-! ### Lane -/

theorem offerFabric_sameBut (f : Frame) (s : State) : sameBut [.fabric] s (offerFabric f s).1 := by
  intro p; unfold offerFabric; split <;> cases p <;> simp [Part.same]

theorem offerControl_sameBut (f : OutFrame) (s : State) : sameBut [.control] s (offerControl f s).1 := by
  intro p; unfold offerControl; split <;> cases p <;> simp [Part.same]

/-! ### The Event Unit -/

theorem sendNotice_sameBut (fresh : Bool) (ls : List LatchId) (s : State) :
    sameBut [.noticeState, .control] s (sendNotice fresh ls s) := by
  intro p hp
  have h := offerControl_sameBut
    { bytes := buildFrame s.events.destination s.lane.strap kindEventNotice
        (noticeBody s.events (decide (Config.noticeEntries < ls.length)) (ls.take Config.noticeEntries)),
      isRestartAnswer := false } s p
  cases p <;> simp_all [Part.same, sendNotice]

theorem setNews_sameBut (s : State) (news : Bool) (resume : Option LatchId) :
    sameBut [.noticeState, .control] s { s with events := { s.events with news := news, resume := resume } } := by
  intro p; cases p <;> simp [Part.same]

theorem freshNotice_sameBut (s : State) : sameBut [.noticeState, .control] s (freshNotice s) := by
  unfold freshNotice
  split
  · exact setNews_sameBut s false s.events.resume
  · exact sendNotice_sameBut _ _ _

theorem sendDecision_sameBut (s : State) : sameBut [.noticeState, .control] s (sendDecision s) := by
  unfold sendDecision
  split
  · exact sameBut.refl _ _
  · split
    · exact (freshNotice_sameBut s).ite (sameBut.refl _ _)
    · split
      · exact sendNotice_sameBut _ _ _
      · exact (setNews_sameBut s s.events.news none).trans ((freshNotice_sameBut _).ite (sameBut.refl _ _))

theorem EventUnit.occur_keeps (l : LatchId) (e : EventUnit) :
    (e.occur l).copies = e.copies ∧ (e.occur l).enables = e.enables ∧ (e.occur l).levels = e.levels ∧
      (e.occur l).destination = e.destination ∧ (e.occur l).spacingMs = e.spacingMs ∧ (e.occur l).summaryS = e.summaryS ∧
      (e.occur l).resume = e.resume ∧ (e.occur l).spacingTimer = e.spacingTimer ∧
      (e.occur l).summaryTimer = e.summaryTimer := by
  unfold EventUnit.occur; split <;> simp

theorem EventUnit.condition_keeps (c : CondId) (b : Bool) (e : EventUnit) :
    (e.condition c b).copies = e.copies.set c b ∧ (e.condition c b).enables = e.enables ∧
      (e.condition c b).levels = e.levels ∧ (e.condition c b).destination = e.destination ∧
      (e.condition c b).spacingMs = e.spacingMs ∧ (e.condition c b).summaryS = e.summaryS ∧
      (e.condition c b).resume = e.resume ∧ (e.condition c b).spacingTimer = e.spacingTimer ∧
      (e.condition c b).summaryTimer = e.summaryTimer := by
  unfold EventUnit.condition
  cases b
  · dsimp only
    rw [if_neg (by simp)]
    split <;> simp
  · have h := EventUnit.occur_keeps (condLatch c) { e with copies := e.copies.set c true }
    simpa using h

/-- An event whose action keeps the Event Unit's settings changes latches, condition copies and notice state only. -/
theorem eventStep_sameBut (f : EventUnit → EventUnit) (s : State)
    (h : ∀ e : EventUnit, (f e).enables = e.enables ∧ (f e).levels = e.levels ∧ (f e).destination = e.destination ∧
      (f e).spacingMs = e.spacingMs ∧ (f e).summaryS = e.summaryS) :
    sameBut [.latches, .conditions, .noticeState, .control] s (eventStep f s) := by
  have h1 := h { s.events with news := false }
  have g : sameBut [.latches, .conditions, .noticeState, .control] s
      { s with events :=
          { f { s.events with news := false } with
            news := (f { s.events with news := false }).news || s.events.news } } := by
    intro p; cases p <;> simp_all [Part.same]
  unfold eventStep
  exact sameBut.ite (g.andThen (sendDecision_sameBut _)) g

theorem raiseEdge_sameBut (l : LatchId) (s : State) :
    sameBut [.latches, .noticeState, .control] s (raiseEdge l s) := by
  have h1 := EventUnit.occur_keeps l { s.events with news := false }
  have g : sameBut [.latches, .noticeState, .control] s
      { s with events :=
          { EventUnit.occur l { s.events with news := false } with
            news := (EventUnit.occur l { s.events with news := false }).news || s.events.news } } := by
    intro p; cases p <;> simp_all [Part.same]
  unfold raiseEdge eventStep
  exact sameBut.ite (g.andThen (sendDecision_sameBut _)) g

theorem raiseCondition_sameBut (c : CondId) (b a : Bool) (s : State) :
    sameBut [.latches, .conditions, .noticeState, .control] s (raiseCondition c b a s) := by
  unfold raiseCondition
  refine (sameBut.refl _ _).ite (eventStep_sameBut _ _ fun e => ?_)
  have h := EventUnit.condition_keeps c a e
  simp [h]

theorem EventUnit.regroup_keeps (s : State) (k : ShelfId) (e : EventUnit) :
    (e.regroup s k).enables = e.enables ∧ (e.regroup s k).levels = e.levels ∧ (e.regroup s k).destination = e.destination ∧
      (e.regroup s k).spacingMs = e.spacingMs ∧ (e.regroup s k).summaryS = e.summaryS := by
  unfold EventUnit.regroup
  have h := EventUnit.condition_keeps (condGroup k) (groupPresent s k) e
  split <;> simp [h]

theorem raiseCandState_sameBut (n : Slot) (s : State) :
    sameBut [.latches, .conditions, .noticeState, .control] s (raiseCandState n s) := by
  refine eventStep_sameBut _ _ fun e => ?_
  have h0 := EventUnit.occur_keeps (candLatch 0 n) e
  have key : ∀ (l : List ShelfId) (e1 : EventUnit),
      let e2 := l.foldl (fun e k => if s.shelves[k].holds n then e.regroup s k else e) e1
      e2.enables = e1.enables ∧ e2.levels = e1.levels ∧ e2.destination = e1.destination ∧
        e2.spacingMs = e1.spacingMs ∧ e2.summaryS = e1.summaryS := by
    intro l
    induction l with
    | nil => simp
    | cons k l ih =>
      intro e1
      have h1 := ih (if s.shelves[k].holds n then e1.regroup s k else e1)
      have h2 := EventUnit.regroup_keeps s k e1
      simp only [List.foldl_cons]
      split at h1 <;> simp_all
  have h1 := key (List.finRange 16) (e.occur (candLatch 0 n))
  simp_all

theorem raiseListChange_sameBut (k : ShelfId) (s : State) :
    sameBut [.latches, .conditions, .noticeState, .control] s (raiseListChange k s) :=
  eventStep_sameBut _ _ (EventUnit.regroup_keeps s k)

/-! ### Transit frames -/

theorem joinToControl_sameBut (f : Frame) (s : State) :
    sameBut [.latches, .noticeState, .control] s (joinToControl f s) := by
  unfold joinToControl
  split
  · intro p; cases p <;> simp [Part.same]
  · exact raiseEdge_sameBut _ _

theorem joinToFabric_sameBut (f : Frame) (s : State) :
    sameBut [.latches, .noticeState, .control, .fabric] s (joinToFabric f s) := by
  unfold joinToFabric
  split
  · intro p; cases p <;> simp [Part.same]
  · exact (raiseEdge_sameBut _ _).mono

/-! ### Evaluation requests -/

theorem requestEvaluation_sameBut (k : ShelfId) (m : Option Slot) (s : State) :
    sameBut [.queue] s (requestEvaluation k m s) := by
  intro p; cases p <;> simp [Part.same, requestEvaluation]

theorem requestWhere_sameBut (q : ShelfId → Bool) (s : State) : sameBut [.queue] s (requestWhere q s) :=
  overShelves_sameBut _ (fun _ _ => (requestEvaluation_sameBut _ _ _).ite (sameBut.refl _ _)) s

theorem requestListing_sameBut (n : Slot) (s : State) : sameBut [.queue] s (requestListing n s) :=
  requestWhere_sameBut _ s

theorem requestCascade_sameBut (k : ShelfId) (s : State) : sameBut [.queue] s (requestCascade k s) :=
  requestWhere_sameBut _ s

/-! ### Candidate and grade changes -/

theorem commitCand_sameBut (n : Slot) (c : Cand) (b : Bool) (s : State) :
    sameBut [.cands, .latches, .conditions, .noticeState, .control, .queue, .removals] s (commitCand n c b s) := by
  have h1 := setCand_sameBut s n c
  have h2 := (raiseCandState_sameBut n (s.setCand n c)).andThen (requestListing_sameBut n _)
    (rs := [.cands, .latches, .conditions, .noticeState, .control, .queue, .removals])
  unfold commitCand
  refine sameBut.ite (sameBut.ite ?_ (h1.andThen h2)) h1.mono
  refine (h1.andThen h2 (hq := fun _ h => h)).trans ?_
  intro p; cases p <;> simp [Part.same]

theorem handGrade_sameBut (n : Slot) (s : State) : sameBut [.gradeHandovers] s (handGrade n s) := by
  refine overShelves_sameBut _ (fun k t => sameBut.ite ?_ (sameBut.refl _ _)) s
  intro p; cases p <;> simp [Part.same]

theorem regrade_sameBut (n : Slot) (s : State) :
    sameBut [.grades, .latches, .noticeState, .control, .queue, .gradeHandovers] s (regrade n s) := by
  have h1 := setGrade_sameBut s n { s.grades[n] with eff := effectiveGrade s n }
  unfold regrade
  refine sameBut.ite (sameBut.refl _ _) ?_
  have h2 : sameBut [.grades, .latches, .noticeState, .control, .queue, .gradeHandovers] s
      (if (effectiveGrade s n).rank = s.grades[n].eff.rank then
        s.setGrade n { s.grades[n] with eff := effectiveGrade s n }
      else raiseEdge (candLatch 1 n) (s.setGrade n { s.grades[n] with eff := effectiveGrade s n })) :=
    sameBut.ite h1.mono (h1.andThen (raiseEdge_sameBut _ _))
  exact h2.trans ((requestListing_sameBut n _).andThen (handGrade_sameBut n _))

theorem commitGrade_sameBut (n : Slot) (g : GradeSlot) (s : State) :
    sameBut [.grades, .latches, .conditions, .noticeState, .control, .queue, .gradeHandovers] s (commitGrade n g s) :=
  ((setGrade_sameBut s n _).andThen (regrade_sameBut n _)
    (rs := [.grades, .latches, .conditions, .noticeState, .control, .queue, .gradeHandovers])).andThen
    (raiseCondition_sameBut _ _ _ _) (hp := fun _ h => h)

theorem commitInput_sameBut (n : Slot) (i : TickInput) (s : State) :
    sameBut [.inputs, .healthReports, .latches, .conditions, .noticeState, .control] s (commitInput n i s) := by
  have h1 := setInput_sameBut s n i
  refine sameBut.andThen (ps := [.inputs, .healthReports]) ?_ (raiseCondition_sameBut _ _ _ _)
  refine sameBut.ite h1.mono (h1.andThen (qs := [.healthReports]) ?_)
  intro p; cases p <;> simp [Part.same]

/-! ### Slices -/

theorem sendDirective_sameBut (k : ShelfId) (s : State) : sameBut [.slices, .fabric] s (sendDirective k s) :=
  (offerFabric_sameBut _ _).andThen (setSlice_sameBut _ _ _)

theorem newDirective_sameBut (k : ShelfId) (a : Action) (s : State) : sameBut [.slices, .fabric] s (newDirective k a s) :=
  (setSlice_sameBut _ _ _).andThen (sendDirective_sameBut k _)

theorem retriple_sameBut (k : ShelfId) (tell : Bool) (s : State) :
    sameBut [.slices, .tripleHandovers, .noticeHandovers] s (retriple k tell s) := by
  intro p; cases p <;> simp [Part.same, retriple]

/-- The end of a slice event sends no Directive. -/
theorem closeSlice_keeps (k : ShelfId) (old : Slice) (s : State) :
    sameBut [.slices, .latches, .conditions, .noticeState, .control, .tripleHandovers, .noticeHandovers] s
      (closeSlice k old s) := by
  have h1 : sameBut [.slices, .latches, .conditions, .noticeState, .control, .tripleHandovers, .noticeHandovers] s
      (if s.slices[k].timing = old.timing then s else raiseEdge (shelfLatch 1 k) s) :=
    sameBut.ite (sameBut.refl _ _) (raiseEdge_sameBut _ _).mono
  have h2 := h1.trans (raiseCondition_sameBut (condModuleSilent k) old.unreachable s.slices[k].unreachable _).mono
  exact sameBut.ite (h2.trans (retriple_sameBut _ _ _).mono) h2

theorem closeSlice_sameBut (k : ShelfId) (old : Slice) (s : State) : sameBut sliceParts s (closeSlice k old s) :=
  (closeSlice_keeps k old s).mono

theorem targetToSlot_sameBut (k : ShelfId) (c : Slot) (s : State) : sameBut sliceParts s (targetToSlot k c s) := by
  refine sameBut.ite (sameBut.refl _ _) ?_
  exact (((setSlice_sameBut _ _ _).andThen (newDirective_sameBut _ _ _) (rs := sliceParts)).andThen
    (setSlice_sameBut _ _ _) (hp := fun _ h => h)).trans (closeSlice_sameBut _ _ _)

theorem targetToNone_sameBut (k : ShelfId) (s : State) : sameBut sliceParts s (targetToNone k s) := by
  refine sameBut.ite (sameBut.refl _ _) ?_
  exact (((setSlice_sameBut _ _ _).andThen (newDirective_sameBut _ _ _) (rs := sliceParts)).andThen
    (setSlice_sameBut _ _ _) (hp := fun _ h => h)).trans (closeSlice_sameBut _ _ _)

theorem takeTarget_sameBut (k : ShelfId) (t : Option Slot) (s : State) : sameBut sliceParts s (takeTarget k t s) := by
  cases t with
  | none => exact targetToNone_sameBut k s
  | some c => exact targetToSlot_sameBut k c s

/-- The parts that a target change can change. -/
def targetParts : List Part := .shelves :: .queue :: sliceParts

theorem changeTarget_sameBut (k : ShelfId) (t : Option Target) (s : State) :
    sameBut targetParts s (changeTarget k t s) :=
  ((((setShelf_sameBut _ _ _).andThen (takeTarget_sameBut _ _ _) (rs := targetParts)).andThen
    (raiseEdge_sameBut _ _) (rs := targetParts) (hp := fun _ h => h))).andThen (requestCascade_sameBut _ _)
    (hp := fun _ h => h)

/-! ### The Notice Unit -/

theorem offerNotice_sameBut (p : PortId) (ty : NoticeType) (c : Content) (s : State) :
    sameBut [.txPorts, .fabric] s (offerNotice p ty c s) :=
  (offerFabric_sameBut _ _).andThen (setTx_sameBut _ _ _)

theorem recomputePort_sameBut (p : PortId) (s : State) : sameBut [.txPorts, .fabric] s (recomputePort p s) := by
  have h := fun t => (setTx_sameBut s p t).mono (qs := [.txPorts, .fabric])
  exact sameBut.ite (h _) (sameBut.ite ((h _).trans (offerNotice_sameBut _ _ _ _)) (h _))

/-! ### The Selection Engine -/

theorem applyMark_sameBut (k : ShelfId) (m : Option Slot) (s : State) : sameBut [.shelves] s (applyMark k m s) := by
  cases m with
  | none => exact sameBut.refl _ _
  | some c => exact sameBut.ite (setShelf_sameBut _ _ _) (sameBut.refl _ _)

theorem dropManual_sameBut (k : ShelfId) (s : State) : sameBut targetParts s (dropManual k s) :=
  (setShelf_sameBut _ _ _).andThen (raiseEdge_sameBut _ _)

theorem applyTarget_sameBut (k : ShelfId) (t : Option Slot) (s : State) : sameBut targetParts s (applyTarget k t s) :=
  sameBut.ite (sameBut.refl _ _)
    (sameBut.ite ((setShelf_sameBut _ _ _).andThen (requestCascade_sameBut _ _)) (changeTarget_sameBut _ _ _))

theorem evaluate_sameBut (k : ShelfId) (m : Option Slot) (s : State) : sameBut targetParts s (evaluate k m s) := by
  refine sameBut.ite (sameBut.refl _ _) ?_
  have h1 := (applyMark_sameBut k m s).mono (qs := targetParts)
  exact (h1.trans (sameBut.ite (dropManual_sameBut _ _) (sameBut.refl _ _))).trans (applyTarget_sameBut _ _ _)

theorem withdrawTarget_sameBut (k : ShelfId) (s : State) : sameBut targetParts s (withdrawTarget k s) := by
  unfold withdrawTarget
  split
  · exact sameBut.refl _ _
  · exact ((setShelf_sameBut _ _ _).andThen (raiseEdge_sameBut _ _) (rs := targetParts)).andThen
      (requestCascade_sameBut _ _) (hp := fun _ h => h)

/-! ### The Management Agent -/

theorem placeAnswer_sameBut (a : OutFrame) (s : State) : sameBut answerParts s (placeAnswer a s) := by
  have h := offerControl_sameBut a s
  refine sameBut.ite (h.andThen (qs := answerParts) ?_ (hq := fun _ h => h)) ?_ <;>
    (intro p; cases p <;> simp [Part.same, dequeueRequest, answerParts])

theorem answer_sameBut (r : Request) (o : Served) : sameBut answerParts o.state (answer r o) := placeAnswer_sameBut _ _

/-- A row that the agent serves by itself changes what its service changes, and what its answer takes. -/
theorem serveAgent_sameBut {ps : List Part} (row : Instr) (check : Request → State → Option RefusalAnswer)
    (run : Request → State → Served) (h : ∀ r t, sameBut ps t (run r t).state) (hp : answerParts ⊆ ps) (s : State) :
    sameBut ps s (serveAgent row check run s) := by
  unfold serveAgent
  split
  · split
    · split
      · exact sameBut.refl _ _
      · split
        · exact (answer_sameBut _ _).mono hp
        · exact (h _ _).trans ((answer_sameBut _ _).mono hp)
    · exact sameBut.refl _ _
  · exact sameBut.refl _ _

theorem runOperation_sameBut {ps : List Part} (run : Request → State → Served) (r : Request)
    (h : ∀ t, sameBut ps t (run r t).state) (hp : .count :: answerParts ⊆ ps) (s : State) :
    sameBut ps s (runOperation run r s) := by
  have h0 : sameBut ps s (s.setEngine { s.engine with count := 0 }) := by
    refine sameBut.mono (ps := [.count]) ?_ fun _ hm => hp (by simp_all)
    intro p; cases p <;> simp [Part.same]
  exact (h0.trans (h _)).trans ((answer_sameBut _ _).mono fun _ hm => hp (List.mem_cons_of_mem _ hm))

/-- A row that the engine serves changes what its service changes, what its answer takes, and the budget count. -/
theorem serveEngine_sameBut {ps : List Part} (row : Instr) (check : Request → State → Option RefusalAnswer)
    (run : Request → State → Served) (h : ∀ r t, sameBut ps t (run r t).state) (hp : .count :: answerParts ⊆ ps)
    (s : State) : sameBut ps s (serveEngine row check run s) := by
  have ha : answerParts ⊆ ps := fun _ hm => hp (List.mem_cons_of_mem _ hm)
  have hphase : ∀ ph, sameBut ps s (s.setAgent { s.agent with phase := ph }) := by
    intro ph
    refine sameBut.mono (ps := [.phase]) ?_ fun _ hm => ha (by simp_all [answerParts])
    intro p; cases p <;> simp [Part.same]
  unfold serveEngine
  split
  · exact sameBut.refl _ _
  · split
    · split
      · split
        · exact (answer_sameBut _ _).mono ha
        · exact sameBut.ite (runOperation_sameBut _ _ (h _) hp s) (hphase _)
      · exact sameBut.ite (runOperation_sameBut _ _ (h _) hp s) (sameBut.refl _ _)
      · exact sameBut.refl _ _
    · exact sameBut.refl _ _

end Sys2Proof.Machine
end

