-- ==== Sys2Proof/Laws/Folds.lean ====
section
/-! SUPPORT. What a walk over all slots, shelves or ports does at one index, when the work at an index leaves the others
alone; and the taking of the oldest hand-over of an index. -/

namespace Sys2Proof.Machine

-- One theorem after the other: the joined text would otherwise ask for a thread per waiting proof.
set_option Elab.async false

/-- A property that the work at every index keeps holds after the walk. -/
theorem foldl_keeps {σ ι : Type} (f : ι → σ → σ) (I : σ → Prop) (hI : ∀ i t, I t → I (f i t)) (l : List ι) (s : σ)
    (h : I s) : I (l.foldl (fun t i => f i t) s) := by
  induction l generalizing s with
  | nil => exact h
  | cons i l ih => exact ih _ (hI i s h)

/-- A walk whose work at an index depends on a test that the work before it leaves as it was: it is that work, in order,
at the indexes that pass the test at the start. -/
theorem foldl_inOrder {ι : Type} (f : ι → State → State) (c : ι → State → Bool) (R : ι → State → State → Prop)
    (I : State → Prop) (s : State) (hI : ∀ i t, I t → c i s = true → I (f i t)) (hc : ∀ i t, I t → c i t = c i s)
    (hR : ∀ i t, I t → R i t (f i t)) (l : List ι) (t : State) (ht : I t) :
    inOrder R (l.filter fun i => c i s) t (l.foldl (fun t i => if c i t then f i t else t) t) ∧
      I (l.foldl (fun t i => if c i t then f i t else t) t) := by
  induction l generalizing t with
  | nil => exact ⟨rfl, ht⟩
  | cons i l ih =>
    rw [List.foldl_cons, hc i t ht]
    by_cases h : c i s = true
    · rw [List.filter_cons_of_pos (by simpa using h), if_pos h]
      exact ⟨⟨f i t, hR i t ht, (ih _ (hI i t ht h)).1⟩, (ih _ (hI i t ht h)).2⟩
    · rw [List.filter_cons_of_neg (by simpa using h), if_neg h]
      exact ih t ht

/-- A reading `get j` that the work at other indexes leaves alone: an index outside the list reads as before, and an
index of the list has the property Q that its own work gives it, where the other work keeps Q. -/
theorem foldl_at {σ ι β : Type} (f : ι → σ → σ) (get : ι → σ → β) (I : σ → Prop) (Q : ι → σ → Prop)
    (hI : ∀ i t, I t → I (f i t)) (hget : ∀ i j t, I t → i ≠ j → get j (f i t) = get j t) (s : σ)
    (hself : ∀ i t, I t → get i t = get i s → Q i (f i t)) (hother : ∀ i j t, I t → i ≠ j → Q j t → Q j (f i t))
    (l : List ι) (hl : l.Nodup) (hs : I s) :
    (∀ j, j ∉ l → get j (l.foldl (fun t i => f i t) s) = get j s) ∧
      ∀ j ∈ l, Q j (l.foldl (fun t i => f i t) s) := by
  have outside : ∀ (l : List ι) (t : σ), I t → ∀ j, j ∉ l → get j (l.foldl (fun t i => f i t) t) = get j t := by
    intro l
    induction l with
    | nil => intros; rfl
    | cons i l ih =>
      intro t ht j hj
      rw [List.mem_cons, not_or] at hj
      rw [List.foldl_cons, ih _ (hI i t ht) j hj.2, hget i j t ht (Ne.symm hj.1)]
  have kept : ∀ (l : List ι) (t : σ), I t → ∀ j, j ∉ l → Q j t → Q j (l.foldl (fun t i => f i t) t) := by
    intro l
    induction l with
    | nil => intros; assumption
    | cons i l ih =>
      intro t ht j hj hq
      rw [List.mem_cons, not_or] at hj
      exact ih _ (hI i t ht) j hj.2 (hother i j t ht (Ne.symm hj.1) hq)
  have inside : ∀ (l : List ι) (t : σ), l.Nodup → I t → (∀ j ∈ l, get j t = get j s) →
      ∀ j ∈ l, Q j (l.foldl (fun t i => f i t) t) := by
    intro l
    induction l with
    | nil => simp
    | cons i l ih =>
      intro t hn ht hg j hj
      rw [List.nodup_cons] at hn
      have hi := hself i t ht (hg i (List.mem_cons_self ..))
      rcases List.mem_cons.1 hj with rfl | hj
      · exact kept l _ (hI j t ht) j hn.1 hi
      · refine ih (f i t) hn.2 (hI i t ht) (fun m hm => ?_) j hj
        rw [hget i m t ht fun h => hn.1 (h ▸ hm)]
        exact hg m (List.mem_cons_of_mem _ hm)
  exact ⟨outside l s hs, inside l s hl hs fun _ _ => rfl⟩

/-- A walk over every shelf gives each shelf what its own work gives it. -/
theorem overShelves_at {β : Type} (f : ShelfId → State → State) (get : ShelfId → State → β) (I : State → Prop)
    (Q : ShelfId → State → Prop) (s : State) (hI : ∀ i t, I t → I (f i t))
    (hget : ∀ i j t, I t → i ≠ j → get j (f i t) = get j t)
    (hself : ∀ i t, I t → get i t = get i s → Q i (f i t))
    (hother : ∀ i j t, I t → i ≠ j → Q j t → Q j (f i t)) (hs : I s) (j : ShelfId) : Q j (overShelves f s) :=
  (foldl_at f get I Q hI hget s hself hother _ (List.nodup_finRange 16) hs).2 j (List.mem_finRange j)

/-- A walk over every slot gives each slot what its own work gives it. -/
theorem overSlots_at {β : Type} (f : Slot → State → State) (get : Slot → State → β) (I : State → Prop)
    (Q : Slot → State → Prop) (s : State) (hI : ∀ i t, I t → I (f i t))
    (hget : ∀ i j t, I t → i ≠ j → get j (f i t) = get j t)
    (hself : ∀ i t, I t → get i t = get i s → Q i (f i t))
    (hother : ∀ i j t, I t → i ≠ j → Q j t → Q j (f i t)) (hs : I s) (j : Slot) : Q j (overSlots f s) :=
  (foldl_at f get I Q hI hget s hself hother _ (List.nodup_finRange 24) hs).2 j (List.mem_finRange j)

/-- A walk over every port gives each port what its own work gives it. -/
theorem overPorts_at {β : Type} (f : PortId → State → State) (get : PortId → State → β) (I : State → Prop)
    (Q : PortId → State → Prop) (s : State) (hI : ∀ i t, I t → I (f i t))
    (hget : ∀ i j t, I t → i ≠ j → get j (f i t) = get j t)
    (hself : ∀ i t, I t → get i t = get i s → Q i (f i t))
    (hother : ∀ i j t, I t → i ≠ j → Q j t → Q j (f i t)) (hs : I s) (j : PortId) : Q j (overPorts f s) :=
  (foldl_at f get I Q hI hget s hself hother _ (List.nodup_finRange 256) hs).2 j (List.mem_finRange j)

/-- `takeFirst` takes the first element that p accepts and keeps the others in their order. -/
theorem takeFirst_append {α : Type} (p : α → Bool) (before after : List α) (x : α) (hx : p x = true)
    (hb : ∀ y ∈ before, p y = false) : takeFirst p (before ++ x :: after) = some (x, before ++ after) := by
  induction before with
  | nil => simp [takeFirst, hx]
  | cons y ys ih =>
    have hy := hb y (List.mem_cons_self ..)
    simp [takeFirst, hy, ih fun z hz => hb z (List.mem_cons_of_mem _ hz)]

/-- What `takeFirst` answers: an accepted element, with the list put together from before, it and after. -/
theorem takeFirst_some {α : Type} (p : α → Bool) (l : List α) (x : α) (rest : List α) (h : takeFirst p l = some (x, rest)) :
    p x = true ∧ ∃ before after, l = before ++ x :: after ∧ rest = before ++ after := by
  induction l generalizing rest with
  | nil => simp [takeFirst] at h
  | cons y ys ih =>
    unfold takeFirst at h
    split at h
    · cases h; exact ⟨by assumption, [], ys, rfl, rfl⟩
    · cases hy : takeFirst p ys with
      | none => simp [hy] at h
      | some r =>
        obtain ⟨z, zs⟩ := r
        simp only [hy, Option.map_some, Option.some.injEq, Prod.mk.injEq] at h
        obtain ⟨rfl, rfl⟩ := h
        obtain ⟨hp, b, a, rfl, rfl⟩ := ih zs hy
        exact ⟨hp, y :: b, a, rfl, rfl⟩

end Sys2Proof.Machine
end

