-- ==== Sys2Proof/Laws/Values.lean ====
section
/-! SUPPORT. What each shared operation leaves in the parts that it changes, said once; Laws/Frames.lean says what it
    leaves
alone. -/

namespace Sys2Proof.Machine

-- One theorem after the other: the joined text would otherwise ask for a thread per waiting proof.
set_option Elab.async false

/-! ### Time -/

/-- A timer of n seconds, in oscillator periods. -/
theorem startMs_s (now n : Nat) : startMs now (n * 1000) = some (now + n * 125000000) := by
  unfold startMs Config.periodsPerMs; rw [Nat.mul_assoc]

/-! ### Lane -/

/-- A generated frame joins the FABRIC local outbound queue when fewer than 32 frames wait there (R11, R12). -/
theorem offerFabric_eq (f : Frame) (s : State) :
    offerFabric f s =
      if s.lane.fabric.localQ.length < 32 then
        ({ s with lane :=
            { s.lane with
              fabric := OutPort.serve s.lane.live { s.lane.fabric with localQ := s.lane.fabric.localQ ++ [⟨f, false⟩]
                  } } },
          true)
      else (s, false) := by
  by_cases h : s.lane.fabric.localQ.length < 32 <;> simp [offerFabric, OutPort.offer, Config.fabricOutCapacity, h]

/-- A generated frame joins the CONTROL local outbound queue when fewer than 8 frames wait there (R11, R12). -/
theorem offerControl_eq (f : OutFrame) (s : State) :
    offerControl f s =
      if s.lane.control.localQ.length < 8 then
        ({ s with lane :=
            { s.lane with
              control := OutPort.serve s.lane.live { s.lane.control with localQ := s.lane.control.localQ ++ [f] } } },
          true)
      else (s, false) := by
  by_cases h : s.lane.control.localQ.length < 8 <;> simp [offerControl, OutPort.offer, Config.controlOutCapacity, h]

/-- The arbiter leaves a transmission in progress alone, and a claimant that does not wait stays empty (R14). -/
theorem serve_keeps (live : Bool) (p : OutPort) :
    (p.sending.isSome = true → OutPort.serve live p = p) ∧ (p.transitQ = [] → (OutPort.serve live p).transitQ = []) ∧
      (p.localQ = [] → (OutPort.serve live p).localQ = []) := by
  obtain ⟨tq, lq, sv, sn⟩ := p
  cases sn <;> cases live <;> cases tq <;> cases lq <;> cases sv <;>
    simp [OutPort.serve, OutPort.choice]

/-- A transit frame toward CONTROL joins its queue when fewer than 64 frames wait there, else TRANSIT_OVERFLOW is raised
(R6). -/
theorem joinToControl_eq (f : Frame) (s : State) :
    joinToControl f s =
      if s.lane.control.transitQ.length < 64 then
        s.setLane
          { s.lane with
            control := OutPort.serve s.lane.live { s.lane.control with transitQ := s.lane.control.transitQ ++ [f] } }
      else raiseEdge (deviceLatch 0) s := by
  by_cases h : s.lane.control.transitQ.length < 64 <;>
    simp [joinToControl, OutPort.joinTransit, Config.transitCapacity, h]

/-- A transit frame toward FABRIC joins its queue when fewer than 64 frames wait there, else TRANSIT_OVERFLOW is raised
(R6). -/
theorem joinToFabric_eq (f : Frame) (s : State) :
    joinToFabric f s =
      if s.lane.fabric.transitQ.length < 64 then
        s.setLane
          { s.lane with
            fabric := OutPort.serve s.lane.live { s.lane.fabric with transitQ := s.lane.fabric.transitQ ++ [f] } }
      else raiseEdge (deviceLatch 0) s := by
  by_cases h : s.lane.fabric.transitQ.length < 64 <;>
    simp [joinToFabric, OutPort.joinTransit, Config.transitCapacity, h]

/-- A notice or report joins the local inbound queue when fewer than 16 frames wait there; else LOCAL_OVERFLOW is raised
and a notice goes to transit (R7, R8). -/
theorem joinLocal_eq (f : Frame) (s : State) :
    joinLocal f s =
      if s.lane.localIn.length < 16 then s.setLane { s.lane with localIn := s.lane.localIn ++ [f] }
      else if frameKind f = 0x31 then joinToControl f (raiseEdge (deviceLatch 1) s) else raiseEdge (deviceLatch 1) s
          := rfl

/-- A request joins the request queue when fewer than 4 wait there; else REQUEST_OVERFLOW is raised (R10). -/
theorem joinRequests_eq (f : Frame) (s : State) :
    joinRequests f s =
      if s.lane.requests.length < 4 then s.setLane { s.lane with requests := s.lane.requests ++ [f] }
      else raiseEdge (deviceLatch 2) s := rfl

/-- A frame that passes the check on a live lane, by its treatment (R2, R4, R5). -/
theorem receiveFrame_live (port : LanePort) (f : Frame) (s : State) (hr : s.lane.resetAsserted = false)
    (hf : frameCheck f = true) :
    (classify s.lane.strap port f = .localInbound → receiveFrame port f false s = joinLocal f s) ∧
      (classify s.lane.strap port f = .request → receiveFrame port f false s = joinRequests f s) ∧
      (classify s.lane.strap port f = .transit → receiveFrame port f false s = passOn port f s) ∧
      (classify s.lane.strap port f = .discard → receiveFrame port f false s = s) := by
  refine ⟨?_, ?_, ?_, ?_⟩ <;> intro h <;> simp [receiveFrame, hr, hf, h]

/-! ### The Event Unit -/

/-- The latches of the four kinds of condition (R153). -/
theorem condLatch_val (c : CondId) : (condLatch c).val = if c.val < 48 then c.val + 48 else c.val + 112 := by
  unfold condLatch; split <;> rfl

theorem condLatch_noticeLost (n : Slot) : condLatch (condNoticeLost n) = candLatch 2 n := by
  have h : (condNoticeLost n).val = n.val := rfl
  ext; rw [condLatch_val, h, if_pos (by omega)]; simp [candLatch]; omega

theorem condLatch_freqFail (n : Slot) : condLatch (condFreqFail n) = candLatch 3 n := by
  have h : (condFreqFail n).val = 24 + n.val := rfl
  ext; rw [condLatch_val, h, if_pos (by omega)]; simp [candLatch]; omega

theorem condLatch_moduleSilent (k : ShelfId) : condLatch (condModuleSilent k) = shelfLatch 4 k := by
  have h : (condModuleSilent k).val = 48 + k.val := rfl
  ext; rw [condLatch_val, h, if_neg (by omega)]; simp [shelfLatch]; omega

theorem condLatch_group (k : ShelfId) : condLatch (condGroup k) = shelfLatch 5 k := by
  have h : (condGroup k).val = 64 + k.val := rfl
  ext; rw [condLatch_val, h, if_neg (by omega)]; simp [shelfLatch]; omega

/-- The sending decision leaves the latches as they are. -/
theorem sendDecision_latches (s : State) : (sendDecision s).events.latches = s.events.latches :=
  sendDecision_sameBut s .latches (by decide)

/-- The sending decision leaves the condition copies as they are. -/
theorem sendDecision_copies (s : State) : (sendDecision s).events.copies = s.events.copies :=
  sendDecision_sameBut s .conditions (by decide)

/-- After an event at the Event Unit the latches are those that its action gives. -/
theorem eventStep_latches (f : EventUnit → EventUnit) (s : State) :
    (eventStep f s).events.latches = (f { s.events with news := false }).latches := by
  unfold eventStep
  dsimp only
  split
  · rw [sendDecision_latches]
  · rfl

/-- After an event at the Event Unit the condition copies are those that its action gives. -/
theorem eventStep_copies (f : EventUnit → EventUnit) (s : State) :
    (eventStep f s).events.copies = (f { s.events with news := false }).copies := by
  unfold eventStep
  dsimp only
  split
  · rw [sendDecision_copies]
  · rfl

/-- An occurrence makes a CLEAR latch of an enabled kind SET and leaves every other latch as it is (R156, R157). -/
theorem EventUnit.occur_latches (l m : LatchId) (e : EventUnit) :
    (e.occur l).latches[m] = if m = l ∧ e.enabled l = true ∧ e.latches[l] = .clear then .set else e.latches[m] := by
  unfold EventUnit.occur
  split <;> rename_i h
  · simp only [Bool.and_eq_true, decide_eq_true_eq] at h
    rw [getElem_set_fin]
    by_cases hm : m = l
    · subst hm; simp [h]
    · simp [hm, Ne.symm hm]
  · simp only [Bool.and_eq_true, decide_eq_true_eq] at h
    symm
    refine if_neg ?_
    rintro ⟨-, h1, h2⟩
    exact h ⟨h1, h2⟩

/-- An edge occurrence raises its latch. -/
theorem raiseEdge_raisedBy (l : LatchId) (s : State) : raisedBy l s (raiseEdge l s) := by
  intro m
  rw [raiseEdge, eventStep_latches, EventUnit.occur_latches]
  rfl

/-- Offering an Event Notice is R159's. -/
theorem sendNotice_offered (fresh : Bool) (ls : List LatchId) (s : State) :
    noticeOffered fresh ls s (sendNotice fresh ls s) := by
  unfold noticeOffered
  refine ⟨?_, ?_, sendNotice_sameBut fresh ls s, ?_⟩
  · rfl
  · rfl
  · unfold sendNotice
    dsimp only
    rw [offerControl_eq]
    by_cases h : s.lane.control.localQ.length < 8
    · rw [if_pos h, if_pos h]
      refine ⟨rfl, ?_, ?_⟩
      · cases fresh <;> rfl
      · dsimp only [Config.noticeEntries]
        by_cases h2 : 79 < ls.length <;> simp [h2]
    · rw [if_neg h, if_neg h]
      exact ⟨rfl, rfl, rfl⟩

/-- A fresh notice, when it is due, is R159's. -/
theorem freshNotice_due (s : State) : freshDue s (freshNotice s) := by
  unfold freshDue freshNotice
  cases h : s.events.standing with
  | nil => rfl
  | cons l ls => rw [if_neg (by simp)]; exact sendNotice_offered true (l :: ls) s

/-- The sending decision is R159's. -/
theorem sendDecision_decided (s : State) : sendingDecided s (sendDecision s) := by
  unfold sendingDecided sendDecision
  by_cases h : s.events.destination = 0 ∨ s.events.spacingTimer.isSome = true
  · rw [if_pos h, if_pos (by simpa using h)]
  · have hb : (decide (s.events.destination = 0) || s.events.spacingTimer.isSome) = false := by simpa using h
    rw [if_neg h, hb, if_neg Bool.false_ne_true]
    cases s.events.resume with
    | none =>
      dsimp only
      split
      · exact freshNotice_due s
      · rfl
    | some r =>
      dsimp only
      cases hl : s.events.standing.filter fun l => decide (r < l) with
      | nil =>
        rw [if_neg (by simp)]
        dsimp only
        split
        · exact freshNotice_due _
        · rfl
      | cons l ls => rw [if_pos (by simp)]; exact sendNotice_offered false (l :: ls) s

/-- An edge occurrence is R156's. -/
theorem raiseEdge_edge (l : LatchId) (s : State) : edgeRaised l s (raiseEdge l s) := by
  unfold edgeRaised raiseEdge eventStep EventUnit.occur
  have he : EventUnit.enabled { s.events with news := false } l = s.events.enabled l := rfl
  by_cases h : s.events.enabled l = true ∧ s.events.latches[l] = .clear
  · have h2 : (s.events.enabled l && decide (s.events.latches[l] = .clear)) = true := by simpa using h
    rw [if_pos h, he]
    dsimp only
    rw [h2, if_pos rfl, if_pos rfl]
    exact sendDecision_decided _
  · have h2 : (s.events.enabled l && decide (s.events.latches[l] = .clear)) = false := by simpa using h
    rw [if_neg h, he]
    dsimp only
    rw [h2, if_neg Bool.false_ne_true, if_neg Bool.false_ne_true]
    rfl

/-- An offered notice is at most one on the CONTROL port. -/
theorem noticeOffered.told {fresh : Bool} {ls : List LatchId} {s t : State} (h : noticeOffered fresh ls s t)
    (hd : ¬(s.events.destination = 0 ∨ s.events.spacingTimer.isSome = true)) : eventTold s t := by
  obtain ⟨-, -, -, h⟩ := h
  rw [not_or] at hd
  split at h
  · exact .inr ⟨hd.1, by simpa using hd.2, by assumption, _, h.1⟩
  · exact .inl h.1

/-- The sending decision sends at most one notice. -/
theorem sendingDecided.told {s t : State} (h : sendingDecided s t) : eventTold s t := by
  unfold sendingDecided at h
  by_cases hd : s.events.destination = 0 ∨ s.events.spacingTimer.isSome = true
  · rw [if_pos hd] at h; exact .inl (by rw [h])
  · rw [if_neg hd] at h
    cases hr : s.events.resume with
    | none =>
      simp only [hr] at h
      by_cases hn : s.events.news = true
      · rw [if_pos hn] at h
        unfold freshDue at h
        split at h
        · exact .inl (by rw [h])
        · exact h.told hd
      · rw [if_neg hn] at h; exact .inl (by rw [h])
    | some r =>
      simp only [hr] at h
      split at h
      · exact h.told hd
      · split at h
        · unfold freshDue at h
          split at h
          · exact .inl (by rw [h])
          · exact (noticeOffered.told h hd : eventTold { s with events := { s.events with resume := none } } t)
        · exact .inl (by rw [h])

/-- The event of a latch sends at most one Event Notice. -/
theorem edgeRaised.told {l : LatchId} {s t : State} (h : edgeRaised l s t) : eventTold s t := by
  unfold edgeRaised at h
  split at h
  · exact (sendingDecided.told h : eventTold { s with events := { s.events with latches := _, news := true } } t)
  · exact .inl (by rw [h])

/-- On a CONTROL port that serves what waits, an event leaves the transit queue as it is. -/
theorem eventTold.transitQ {s u : State} (h : eventTold s u) (hw : s.lane.control.workConserving) :
    u.lane.control.transitQ = s.lane.control.transitQ := by
  rcases h with h | ⟨-, -, -, body, h⟩
  · rw [h]
  · rw [h]
    cases hs : s.lane.control.sending with
    | none => rw [(hw hs).1]; exact (serve_keeps _ _).2.1 (hw hs).1
    | some f => rw [(serve_keeps _ _).1 (by simp only [hs, Option.isSome])]

/-- A raised latch of an enabled kind is not CLEAR. -/
theorem raisedBy.not_clear {l : LatchId} {s t : State} (h : raisedBy l s t) (he : s.events.enabled l = true) :
    t.events.latches[l] ≠ .clear := by
  rw [h l]
  split
  · simp
  · rename_i hc; simpa [he] using hc

/-- A condition that is handed over: the copy holds the new presence, the other copies stay. -/
theorem raiseCondition_copies (c : CondId) (b a : Bool) (s : State) :
    (raiseCondition c b a s).events.copies = if b = a then s.events.copies else s.events.copies.set c a := by
  unfold raiseCondition
  split
  · rfl
  · rw [eventStep_copies]
    exact (EventUnit.condition_keeps c a _).1

/-- A latch that is not CLEAR stays so. -/
def latchStays (l : LatchId) (s t : State) : Prop := s.events.latches[l] ≠ .clear → t.events.latches[l] ≠ .clear

theorem latchStays.of_eq {s t : State} (l : LatchId) (h : t.events.latches = s.events.latches) : latchStays l s t := by
  unfold latchStays; simp only [h]; exact id

theorem latchStays.trans {l : LatchId} {s t u : State} (h : latchStays l s t) (g : latchStays l t u) : latchStays l s
    u :=
  fun hs => g (h hs)

/-- No edge occurrence clears a latch. -/
theorem raiseEdge_stays (l m : LatchId) (s : State) : latchStays l s (raiseEdge m s) := by
  intro h
  rw [raiseEdge_raisedBy m s l]
  split
  · simp
  · exact h

/-- A condition occurrence clears no latch but its own (R157). -/
theorem raiseCondition_stays (l : LatchId) (c : CondId) (b a : Bool) (s : State) (hc : condLatch c ≠ l) :
    latchStays l s (raiseCondition c b a s) := by
  intro h
  by_cases hb : b = a
  · simp only [raiseCondition, if_pos hb]; exact h
  · simp only [raiseCondition, if_neg hb, eventStep_latches]
    unfold EventUnit.condition
    dsimp only
    split
    · rw [EventUnit.occur_latches]
      split
      · simp
      · exact h
    · split
      · rw [getElem_set_fin, if_neg hc]; exact h
      · exact h

/-- A condition occurrence leaves every latch but its own as it is (R156, R157). -/
theorem raiseCondition_other (l : LatchId) (c : CondId) (b a : Bool) (s : State) (hc : condLatch c ≠ l) :
    (raiseCondition c b a s).events.latches[l] = s.events.latches[l] := by
  by_cases hb : b = a
  · simp only [raiseCondition, if_pos hb]
  · simp only [raiseCondition, if_neg hb, eventStep_latches]
    unfold EventUnit.condition
    dsimp only
    split
    · rw [EventUnit.occur_latches, if_neg fun h => hc h.1.symm]
    · split
      · rw [getElem_set_fin, if_neg hc]
      · rfl

/-- A condition that goes absent sends no Event Notice. -/
theorem raiseCondition_absent_control (c : CondId) (b : Bool) (s : State) :
    (raiseCondition c b false s).lane.control = s.lane.control := by
  unfold raiseCondition
  split
  · rfl
  · unfold eventStep
    rw [if_neg]
    unfold EventUnit.condition
    dsimp only
    rw [if_neg Bool.false_ne_true]
    split <;> exact Bool.false_ne_true

/-- GROUP of a shelf is told by its list and the candidates (R154). -/
theorem groupPresent_congr {s t : State} (k : ShelfId) (hs : t.shelves[k].entries = s.shelves[k].entries)
    (hc : t.cands = s.cands) : groupPresent t k = groupPresent s k := by
  unfold groupPresent; simp only [hs, hc]

/-- After a changed list was handed over, the GROUP copy of the shelf is up to date (R154). -/
theorem raiseListChange_group (k : ShelfId) (s : State) :
    (raiseListChange k s).events.copies[condGroup k] = groupPresent s k := by
  unfold raiseListChange
  simp only [eventStep_copies]
  unfold EventUnit.regroup
  split <;> rename_i h
  · exact h
  · simp only [(EventUnit.condition_keeps (condGroup k) (groupPresent s k) _).1, getElem_set_fin, if_pos]

/-! ### Evaluation requests -/

/-- The shelves that wait after a request: the requested one and those that waited before (R81). -/
theorem mem_joinQueue (k j : ShelfId) (m : Option Slot) (q : List EvalEntry) :
    j ∈ (joinQueue k m q).map EvalEntry.shelf ↔ j = k ∨ j ∈ q.map EvalEntry.shelf := by
  unfold joinQueue
  split <;> rename_i h
  · have hs : (q.map fun e : EvalEntry => if e.shelf = k then { e with mark := m.or e.mark } else e).map
        EvalEntry.shelf =
        q.map EvalEntry.shelf := by
      rw [List.map_map]; refine List.map_congr_left fun e _ => ?_
      simp only [Function.comp_apply]; split <;> rfl
    rw [hs]
    simp only [List.any_eq_true, decide_eq_true_eq] at h
    obtain ⟨e, he, hk⟩ := h
    refine ⟨Or.inr, ?_⟩
    rintro (rfl | h)
    · exact List.mem_map.2 ⟨e, he, hk⟩
    · exact h
  · simp [or_comm]

/-- A request keeps the evaluation queue free of duplicates (R81). -/
theorem joinQueue_nodup (k : ShelfId) (m : Option Slot) (q : List EvalEntry) (h : (q.map EvalEntry.shelf).Nodup) :
    ((joinQueue k m q).map EvalEntry.shelf).Nodup := by
  unfold joinQueue
  split <;> rename_i hk
  · have hs : (q.map fun e : EvalEntry => if e.shelf = k then { e with mark := m.or e.mark } else e).map
        EvalEntry.shelf =
        q.map EvalEntry.shelf := by
      rw [List.map_map]; refine List.map_congr_left fun e _ => ?_
      simp only [Function.comp_apply]; split <;> rfl
    rw [hs]; exact h
  · rw [List.map_append]
    refine List.Nodup.append h (by simp) ?_
    intro x hx hy
    simp only [List.map_cons, List.map_nil, List.mem_singleton] at hy
    subst hy
    obtain ⟨e, he, rfl⟩ := List.mem_map.1 hx
    simp only [List.any_eq_true, decide_eq_true_eq, not_exists, not_and] at hk
    exact hk e he rfl

/-- After a request with a mark note the entry of the shelf carries that note (R81). -/
theorem joinQueue_mark (k : ShelfId) (c : Slot) (q : List EvalEntry) :
    ∀ e ∈ joinQueue k (some c) q, e.shelf = k → e.mark = some c := by
  unfold joinQueue
  intro e he hk
  split at he <;> rename_i h
  · obtain ⟨x, _, rfl⟩ := List.mem_map.1 he
    by_cases hx : x.shelf = k
    · rw [if_pos hx]; rfl
    · rw [if_neg hx] at hk; exact absurd hk hx
  · rcases List.mem_append.1 he with he | he
    · simp only [List.any_eq_true, decide_eq_true_eq, not_exists, not_and] at h
      exact absurd hk (h e he)
    · simp only [List.mem_singleton] at he; subst he; rfl

theorem requestEvaluation_queued (k : ShelfId) (m : Option Slot) (s : State) :
    queuedBy (fun j => j = k) s (requestEvaluation k m s) := fun j => mem_joinQueue k j m s.engine.queue

theorem queuedBy.refl (s t : State) (h : t.engine.queue = s.engine.queue) : queuedBy (fun _ => False) s t := by
  intro k; simp [h]

/-- Requests for the shelves of a list that p picks. -/
theorem foldl_request_queued (p : ShelfId → Bool) (l : List ShelfId) (s : State) (j : ShelfId) :
    j ∈ (l.foldl (fun t k => if p k then requestEvaluation k none t else t) s).engine.queue.map EvalEntry.shelf ↔
      (j ∈ l ∧ p j = true) ∨ j ∈ s.engine.queue.map EvalEntry.shelf := by
  induction l generalizing s with
  | nil => simp
  | cons k l ih =>
    rw [List.foldl_cons, ih]
    split <;> rename_i hk
    · rw [requestEvaluation_queued k none s j, List.mem_cons]
      constructor
      · rintro (⟨h1, h2⟩ | rfl | h)
        exacts [Or.inl ⟨Or.inr h1, h2⟩, Or.inl ⟨Or.inl rfl, hk⟩, Or.inr h]
      · rintro (⟨rfl | h1, h2⟩ | h)
        exacts [Or.inr (Or.inl rfl), Or.inl ⟨h1, h2⟩, Or.inr (Or.inr h)]
    · rw [List.mem_cons]
      constructor
      · rintro (⟨h1, h2⟩ | h)
        exacts [Or.inl ⟨Or.inr h1, h2⟩, Or.inr h]
      · rintro (⟨rfl | h1, h2⟩ | h)
        exacts [absurd h2 hk, Or.inl ⟨h1, h2⟩, Or.inr h]

/-- Exactly the shelves that p picks join the queue, beside those that waited. -/
theorem requestWhere_queued (p : ShelfId → Bool) (s : State) : queuedBy (fun k => p k = true) s (requestWhere p s) := by
  intro j
  have h := foldl_request_queued p (List.finRange 16) s j
  simpa [requestWhere, overShelves] using h

theorem requestListing_queued (n : Slot) (s : State) :
    queuedBy (fun k => s.shelves[k].lists n = true) s (requestListing n s) := requestWhere_queued _ s

/-! ### Candidates and grades -/

/-- The records after a commit: the new one at its slot. -/
theorem commitCand_cands (n : Slot) (c : Cand) (b : Bool) (s : State) : (commitCand n c b s).cands = s.cands.set n c
    := by
  have h : (requestListing n (raiseCandState n (s.setCand n c))).cands = s.cands.set n c :=
    ((raiseCandState_sameBut n (s.setCand n c)).andThen (requestListing_sameBut n _)
      (rs := [.latches, .conditions, .noticeState, .control, .queue])) .cands (by decide)
  unfold commitCand
  extract_lets old s1 s2
  split
  · split
    · rw [State.setFlight_cands]; exact h
    · exact h
  · rfl

theorem commitCand_at (n m : Slot) (c : Cand) (b : Bool) (s : State) :
    (commitCand n c b s).cands[m] = if n = m then c else s.cands[m] := by
  simp only [commitCand_cands, getElem_set_fin]

/-- The removals after a commit: one more when the candidate left AVAILABLE, or was rebound in it (R32). -/
theorem commitCand_removals (n : Slot) (c : Cand) (b : Bool) (s : State) :
    (commitCand n c b s).flight.removals =
      if (s.cands[n].state ≠ c.state ∨ b = true) ∧ s.cands[n].state = .available then s.flight.removals ++ [n]
      else s.flight.removals := by
  have h : (requestListing n (raiseCandState n (s.setCand n c))).flight.removals = s.flight.removals :=
    ((raiseCandState_sameBut n (s.setCand n c)).andThen (requestListing_sameBut n _)
      (rs := [.latches, .conditions, .noticeState, .control, .queue])) .removals (by decide)
  unfold commitCand
  extract_lets old s1 s2
  by_cases h1 : s.cands[n].state ≠ c.state ∨ b = true
  · have h1' : (decide (s.cands[n].state ≠ c.state) || b) = true := by simpa using h1
    rw [if_pos h1']
    by_cases h2 : s.cands[n].state = .available
    · rw [if_pos h2, if_pos ⟨h1, h2⟩, State.setFlight_flight, h]
    · rw [if_neg h2, if_neg fun hh => h2 hh.2, h]
  · have h1' : (decide (s.cands[n].state ≠ c.state) || b) = false := by simpa using h1
    rw [h1', if_neg (by simp), if_neg fun hh => h1 hh.1]; rfl

/-- A CAND_STATE occurrence leaves the candidate's latch set when its kind is enabled (R30). -/
theorem raiseCandState_not_clear (n : Slot) (s : State) (he : s.events.enabled (candLatch 0 n) = true) :
    (raiseCandState n s).events.latches[candLatch 0 n] ≠ .clear := by
  rw [raiseCandState, eventStep_latches]
  have h0 : (EventUnit.occur (candLatch 0 n) { s.events with news := false }).latches[candLatch 0 n] ≠ .clear := by
    rw [EventUnit.occur_latches]
    split
    · simp
    · rename_i hc
      intro h
      exact hc ⟨rfl, he, h⟩
  have key : ∀ (l : List ShelfId) (e : EventUnit), e.latches[candLatch 0 n] ≠ .clear →
      (l.foldl (fun e k => if s.shelves[k].holds n then e.regroup s k else e) e).latches[candLatch 0 n] ≠ .clear := by
    intro l
    induction l with
    | nil => intro e h; exact h
    | cons k l ih =>
      intro e h
      refine ih _ ?_
      dsimp only
      split
      · unfold EventUnit.regroup
        split
        · exact h
        · have hne : candLatch 0 n ≠ condLatch (condGroup k) := by
            intro hh
            have h2 := congrArg Fin.val (hh.trans (condLatch_group k))
            simp only [candLatch, shelfLatch] at h2
            have hn := n.isLt
            simp at h2
            omega
          unfold EventUnit.condition
          dsimp only
          split
          · rw [EventUnit.occur_latches]; simp [hne]; exact h
          · split
            · rw [getElem_set_fin, if_neg (Ne.symm hne)]; exact h
            · exact h
      · exact h
  exact key _ _ h0

/-- A commit that changes the state, or rebinds, tells it (R30, R31). -/
theorem commitCand_told (n : Slot) (c : Cand) (b : Bool) (s : State) (h : s.cands[n].state ≠ c.state ∨ b = true) :
    candStateTold n s (commitCand n c b s) := by
  have h' : (decide (s.cands[n].state ≠ c.state) || b) = true := by simpa using h
  have told : candStateTold n s (requestListing n (raiseCandState n (s.setCand n c))) := by
    refine ⟨fun he => ?_, ?_⟩
    · rw [requestListing_sameBut n _ .latches (by decide)]
      exact raiseCandState_not_clear n _ he
    · have hq := requestListing_queued n (raiseCandState n (s.setCand n c))
      intro k
      have h1 := hq k
      rw [raiseCandState_sameBut n (s.setCand n c) .shelves (by decide),
        raiseCandState_sameBut n (s.setCand n c) .queue (by decide)] at h1
      exact h1
  have flight : ∀ f, candStateTold n s ((requestListing n (raiseCandState n (s.setCand n c))).setFlight f) := by
    intro f
    unfold candStateTold queuedBy at told ⊢
    rw [State.setFlight_events, State.setFlight_engine]
    exact told
  unfold commitCand
  extract_lets old s1 s2
  rw [if_pos h']
  split
  · exact flight _
  · exact told

/-- A commit that keeps the state, and rebinds nothing, only stores the record. -/
theorem commitCand_quiet (n : Slot) (c : Cand) (s : State) (h : s.cands[n].state = c.state) :
    commitCand n c false s = s.setCand n c := by
  unfold commitCand
  rw [if_neg (by simp only [h]; simp)]

/-- Working GROUP out for a shelf leaves the other copies (R154). -/
theorem EventUnit.regroup_copy (s : State) (k : ShelfId) (e : EventUnit) (c : CondId) (hc : c ≠ condGroup k) :
    (e.regroup s k).copies[c] = e.copies[c] := by
  unfold EventUnit.regroup
  split
  · rfl
  · simp only [(EventUnit.condition_keeps _ _ _).1, getElem_set_fin, if_neg (Ne.symm hc)]

/-- A CAND_STATE occurrence moves only GROUP copies (R30, R154). -/
theorem raiseCandState_copy (n : Slot) (s : State) (c : CondId) (hc : ∀ k, c ≠ condGroup k) :
    (raiseCandState n s).events.copies[c] = s.events.copies[c] := by
  unfold raiseCandState
  simp only [eventStep_copies]
  have key : ∀ (l : List ShelfId) (e : EventUnit),
      (l.foldl (fun e k => if s.shelves[k].holds n then e.regroup s k else e) e).copies[c] = e.copies[c] := by
    intro l
    induction l with
    | nil => intro e; rfl
    | cons k l ih =>
      intro e
      rw [List.foldl_cons, ih]
      split
      · exact EventUnit.regroup_copy s k e c (hc k)
      · rfl
  rw [key]
  have : (EventUnit.occur (candLatch 0 n) { s.events with news := false }).copies = s.events.copies := by
    unfold EventUnit.occur; split <;> rfl
  simp only [this]

/-- A commit of a candidate moves only GROUP copies (R30, R154). -/
theorem commitCand_copy (n : Slot) (x : Cand) (b : Bool) (s : State) (c : CondId) (hc : ∀ k, c ≠ condGroup k) :
    (commitCand n x b s).events.copies[c] = s.events.copies[c] := by
  have h := raiseCandState_copy n (s.setCand n x) c hc
  have hq : (requestListing n (raiseCandState n (s.setCand n x))).events.copies =
      (raiseCandState n (s.setCand n x)).events.copies :=
      requestListing_sameBut n (raiseCandState n (s.setCand n x)) .conditions (by decide)
  unfold commitCand
  extract_lets old s1 s2
  split
  · split
    · simp only [State.setFlight_events, s2, s1, hq]; exact h
    · simp only [s2, s1, hq]; exact h
  · rfl

/-- The effective grade of a slot reads the candidates, the triples and the slot's grade state only. -/
theorem effectiveGrade_congr {s t : State} (n : Slot) (hc : t.cands = s.cands) (ht : t.triples = s.triples)
    (hg : t.grades[n].code = s.grades[n].code ∧ t.grades[n].path = s.grades[n].path ∧
      t.grades[n].mapped = s.grades[n].mapped ∧ t.grades[n].floor = s.grades[n].floor ∧
      t.grades[n].setRank = s.grades[n].setRank ∧ t.grades[n].setRankOn = s.grades[n].setRankOn ∧
      t.grades[n].assumedHops = s.grades[n].assumedHops) :
    effectiveGrade t n = effectiveGrade s n := by
  obtain ⟨h1, h2, h3, h4, h5, h6, h7⟩ := hg
  simp only [effectiveGrade, baseRank, effectiveHop, effectiveOrigin, hc, ht, h1, h2, h3, h4, h5, h6, h7]

/-- The grade records after a regrade: the effective grade of the slot as R68 and R69 give it (R71). -/
theorem regrade_grades (n : Slot) (s : State) :
    (regrade n s).grades = s.grades.set n { s.grades[n] with eff := effectiveGrade s n } := by
  unfold regrade
  dsimp only
  split <;> rename_i h
  · rw [h]
    have : s.grades.set n s.grades[n] = s.grades := by simp
    exact this.symm
  · rw [handGrade_sameBut n _ .grades (by decide), requestListing_sameBut n _ .grades (by decide)]
    split
    · rfl
    · rw [raiseEdge_sameBut _ _ .grades (by decide)]; rfl

theorem regrade_at (n m : Slot) (s : State) :
    (regrade n s).grades[m] = if n = m then { s.grades[n] with eff := effectiveGrade s n } else s.grades[m] := by
  simp only [regrade_grades, getElem_set_fin]

/-- The grade records after a commit: the new one, its effective grade recomputed (R71). -/
theorem commitGrade_grades (n : Slot) (g : GradeSlot) (s : State) :
    (commitGrade n g s).grades = s.grades.set n { g with eff := effectiveGrade (s.setGrade n g) n } := by
  unfold commitGrade
  dsimp only
  rw [raiseCondition_sameBut _ _ _ _ .grades (by decide), regrade_grades]
  have h : effectiveGrade (s.setGrade n { g with eff := s.grades[n].eff }) n = effectiveGrade (s.setGrade n g) n :=
    effectiveGrade_congr n rfl rfl (by simp)
  rw [h]
  simp [State.setGrade]

theorem commitGrade_at (n m : Slot) (g : GradeSlot) (s : State) :
    (commitGrade n g s).grades[m] =
      if n = m then { g with eff := effectiveGrade (s.setGrade n g) n } else s.grades[m] := by
  simp only [commitGrade_grades, getElem_set_fin]

/-- The slot handed to the slices whose current target it is (R71, R132). -/
theorem handGrade_grades (n : Slot) (s : State) :
    (handGrade n s).flight.grades =
      s.flight.grades ++
        ((List.finRange 16).filter fun k => decide (s.slices[k].target = some n)).map (fun k => (k, n)) := by
  have h : ∀ (c : ShelfId → Bool) (l : List ShelfId) (t : State),
      (l.foldl (fun t k => if c k = true then t.setFlight { t.flight with grades := t.flight.grades ++ [(k, n)] }
          else t)
        t).flight.grades = t.flight.grades ++ (l.filter c).map fun k => (k, n) := by
    intro c l
    induction l with
    | nil => intro t; simp
    | cons k l ih =>
      intro t
      rw [List.foldl_cons, ih]
      cases hk : c k <;> simp [hk]
  have h := h (fun k => decide (s.slices[k].target = some n)) (List.finRange 16) s
  simp only [decide_eq_true_eq] at h
  exact h

/-- A regrade hands on what R71 says, and sends at most one Event Notice. -/
theorem regrade_told (n : Slot) (s : State) : gradeTold n s (regrade n s) ∧ eventTold s (regrade n s) := by
  have hg : (regrade n s).grades[n].eff = effectiveGrade s n := by rw [regrade_at, if_pos rfl]
  unfold gradeTold
  rw [hg]
  have hr : regrade n s =
      if effectiveGrade s n = s.grades[n].eff then s
      else handGrade n (requestListing n
        (if (effectiveGrade s n).rank = s.grades[n].eff.rank
          then s.setGrade n { s.grades[n] with eff := effectiveGrade s n }
          else raiseEdge (candLatch 1 n) (s.setGrade n { s.grades[n] with eff := effectiveGrade s n }))) := rfl
  by_cases h : effectiveGrade s n = s.grades[n].eff
  · rw [if_pos h] at hr
    rw [hr]
    refine ⟨⟨fun _ => ⟨rfl, rfl⟩, fun h' => absurd h h', ?_⟩, .inl rfl⟩
    rw [if_neg fun hh => hh.1 (by rw [h])]
  · rw [if_neg h] at hr
    generalize hs1 : s.setGrade n { s.grades[n] with eff := effectiveGrade s n } = s1 at hr
    have h01 : sameBut [.grades] s s1 := by subst hs1; exact setGrade_sameBut _ _ _
    generalize hs2 : (if (effectiveGrade s n).rank = s.grades[n].eff.rank then s1 else raiseEdge (candLatch 1 n) s1) =
        s2 at hr
    have h12 : sameBut [.latches, .noticeState, .control] s1 s2 := by
      subst hs2; exact (sameBut.refl _ _).ite (raiseEdge_sameBut _ _)
    have h23 := requestListing_sameBut n s2
    have h34 := handGrade_sameBut n (requestListing n s2)
    rw [← hr] at h34
    have hq2 : s2.engine.queue = s.engine.queue := (h12 .queue (by decide)).trans (h01 .queue (by decide))
    have hsh : s2.shelves = s.shelves := (h12 .shelves (by decide)).trans (h01 .shelves (by decide))
    have hsl : (requestListing n s2).slices = s.slices :=
      (h23 .slices (by decide)).trans ((h12 .slices (by decide)).trans (h01 .slices (by decide)))
    have hfg : (requestListing n s2).flight.grades = s.flight.grades :=
      (h23 .gradeHandovers (by decide)).trans
          ((h12 .gradeHandovers (by decide)).trans (h01 .gradeHandovers (by decide)))
    have hla : (regrade n s).events.latches = s2.events.latches :=
        (h34 .latches (by decide)).trans (h23 .latches (by decide))
    have hl1 : s1.events = s.events := by subst hs1; rfl
    refine ⟨⟨fun h' => absurd h' h, fun _ => ⟨fun k => ?_, ?_⟩, ?_⟩, ?_⟩
    · rw [h34 .queue (by decide)]
      have := requestListing_queued n s2 k
      simpa only [hsh, hq2] using this
    · rw [hr, handGrade_grades, hfg]
      simp only [hsl]
    · have hl2 : s2.events.latches[candLatch 1 n] =
          if (effectiveGrade s n).rank ≠ s.grades[n].eff.rank ∧ s.events.enabled (candLatch 1 n) = true ∧
              s.events.latches[candLatch 1 n] = .clear
          then .set else s.events.latches[candLatch 1 n] := by
        subst hs2
        by_cases hrk : (effectiveGrade s n).rank = s.grades[n].eff.rank
        · rw [if_pos hrk, if_neg fun hh => hh.1 hrk]; simp only [hl1]
        · rw [if_neg hrk, raiseEdge_raisedBy]
          simp only [hl1]
          by_cases hh : s.events.enabled (candLatch 1 n) = true ∧ s.events.latches[candLatch 1 n] = .clear
          · rw [if_pos ⟨trivial, hh⟩, if_pos ⟨hrk, hh⟩]
          · rw [if_neg fun x => hh x.2, if_neg fun x => hh x.2]
      rw [← hl2]
      simp only [hla]
    · have hc : (regrade n s).lane.control = s2.lane.control :=
          (h34 .control (by decide)).trans (h23 .control (by decide))
      have ht : eventTold s s2 := by
        subst hs2
        split
        · exact .inl (h01 .control (by decide))
        · have := (raiseEdge_edge (candLatch 1 n) s1).told
          subst hs1
          exact this
      unfold eventTold
      rw [hc]
      exact ht

/-- CAND_RANK is the latch of no condition (R153). -/
theorem condLatch_rank (c : CondId) (n : Slot) : condLatch c ≠ candLatch 1 n := by
  intro h
  have := congrArg Fin.val h
  rw [condLatch_val] at this
  simp only [candLatch] at this
  have := n.isLt
  split at * <;> omega

/-- A commit of a grade record hands on what R71 says; when NOTICE_LOST does not come up with it, it sends at most one
Event Notice. -/
theorem commitGrade_told (n : Slot) (g : GradeSlot) (s : State) :
    gradeTold n s (commitGrade n g s) ∧ (g.noticeLost = false → eventTold s (commitGrade n g s)) := by
  obtain ⟨s1, hs1⟩ : ∃ s1, s1 = s.setGrade n { g with eff := s.grades[n].eff } := ⟨_, rfl⟩
  have hd : commitGrade n g s = raiseCondition (condNoticeLost n) s.grades[n].noticeLost g.noticeLost (regrade n s1)
      := by
    rw [hs1]; rfl
  obtain ⟨⟨a, b, c⟩, d⟩ := regrade_told n s1
  have he : s1.grades[n].eff = s.grades[n].eff := by rw [hs1, State.setGrade_grades_at, if_pos rfl]
  have hc := raiseCondition_sameBut (condNoticeLost n) s.grades[n].noticeLost g.noticeLost (regrade n s1)
  have hl := raiseCondition_other (candLatch 1 n) (condNoticeLost n) s.grades[n].noticeLost g.noticeLost (regrade n s1)
    (condLatch_rank _ _)
  rw [← hd] at hc hl
  have hq : (commitGrade n g s).engine.queue = (regrade n s1).engine.queue := hc .queue (by decide)
  have hf : (commitGrade n g s).flight.grades = (regrade n s1).flight.grades := hc .gradeHandovers (by decide)
  have hg : (commitGrade n g s).grades = (regrade n s1).grades := hc .grades (by decide)
  rw [he] at a b c
  refine ⟨⟨?_, ?_, ?_⟩, fun hn => ?_⟩
  · rw [hq, hf]; simp only [hg]; subst hs1; exact a
  · unfold queuedBy at b ⊢
    rw [hq, hf]; simp only [hg]; subst hs1; exact b
  · rw [hl]; simp only [hg]; subst hs1; exact c
  · have h := raiseCondition_absent_control (condNoticeLost n) s.grades[n].noticeLost (regrade n s1)
    rw [← hn, ← hd] at h
    unfold eventTold at d ⊢
    rw [h]
    subst hs1
    exact d
/-! ### Tick inputs -/

/-- The record after an event at a tick input. -/
theorem commitInput_inputs (n : Slot) (i : TickInput) (s : State) : (commitInput n i s).inputs = s.inputs.set n i := by
  unfold commitInput
  dsimp only
  rw [raiseCondition_sameBut _ _ _ _ .inputs (by decide)]
  split <;> rfl

/-- The health reports after an event at a tick input: one more when the health changed (R45). -/
theorem commitInput_health (n : Slot) (i : TickInput) (s : State) :
    (commitInput n i s).flight.health =
      if i.health = s.inputs[n].health then s.flight.health else s.flight.health ++ [(n, i.health)] := by
  unfold commitInput
  dsimp only
  rw [raiseCondition_sameBut _ _ _ _ .healthReports (by decide)]
  split <;> rfl

/-- An event that changes neither the health nor FREQ_FAIL only stores the record. -/
theorem commitInput_quiet (n : Slot) (i : TickInput) (s : State) (h : i.health = s.inputs[n].health)
    (hf : i.freqFail = s.inputs[n].freqFail) : commitInput n i s = s.setInput n i := by
  unfold commitInput raiseCondition
  dsimp only
  rw [if_pos hf.symm, if_pos h]

theorem inRange_iff (c : Nat) : inRange c = true ↔ 124993750 ≤ c ∧ c ≤ 125006250 := by
  unfold inRange; rw [Bool.and_eq_true, decide_eq_true_eq, decide_eq_true_eq]; rfl

theorem not_inRange_iff (c : Nat) : inRange c = false ↔ c < 124993750 ∨ 125006250 < c := by
  rw [← Bool.not_eq_true, inRange_iff]; omega

/-- The last element of a list that p accepts, when p accepts none after it. -/
theorem reverse_find?_append (p : Nat → Bool) (a : List Nat) (c : Nat) (b : List Nat) (hc : p c = true)
    (hb : ∀ x ∈ b, p x = false) : (a ++ c :: b).reverse.find? p = some c := by
  have hb : b.reverse.find? p = none := by simpa using hb
  simp [List.find?_append, hb, hc]

/-! ### Slices -/

/-- A slice's record after its Directive is sent: only the unsent flag moves (R111). -/
theorem sendDirective_slices (k : ShelfId) (s : State) :
    (sendDirective k s).slices =
      s.slices.set k { s.slices[k] with unsent := decide (32 ≤ s.lane.fabric.localQ.length) } := by
  unfold sendDirective
  rw [offerFabric_eq]
  split <;> rename_i h
  · rw [decide_eq_false (by omega)]; rfl
  · rw [decide_eq_true (by omega)]; rfl

theorem sendDirective_at (k j : ShelfId) (s : State) :
    (sendDirective k s).slices[j] =
      if k = j then { s.slices[k] with unsent := decide (32 ≤ s.lane.fabric.localQ.length) } else s.slices[j] := by
  simp only [sendDirective_slices, getElem_set_fin]

/-- A slice's record after a new Directive: next sequence, action and unsent flag (R111). -/
theorem newDirective_slices (k : ShelfId) (a : Action) (s : State) :
    (newDirective k a s).slices =
      s.slices.set k
        { s.slices[k] with
          seq := s.slices[k].seq + 1
          action := a
          unsent := decide (32 ≤ s.lane.fabric.localQ.length) } := by
  unfold newDirective
  rw [sendDirective_slices]
  simp only [State.setSlice_slices, Fin.getElem_fin, Vector.getElem_set_self, Vector.set_set, State.setSlice_lane]
  rfl

theorem newDirective_at (k j : ShelfId) (a : Action) (s : State) :
    (newDirective k a s).slices[j] =
      if k = j then
        { s.slices[k] with
          seq := s.slices[k].seq + 1
          action := a
          unsent := decide (32 ≤ s.lane.fabric.localQ.length) }
      else s.slices[j] := by simp only [newDirective_slices, getElem_set_fin]

/-- The FABRIC port after a Directive of the record is sent: the frame joins the queue when it has a free place (R111).
-/
theorem sendDirective_fabric (k : ShelfId) (s : State) :
    (sendDirective k s).lane.fabric =
      if s.lane.fabric.localQ.length < 32 then
        OutPort.serve s.lane.live
          { s.lane.fabric with localQ := s.lane.fabric.localQ ++ [⟨directiveFrame s k, false⟩] }
      else s.lane.fabric := by
  unfold sendDirective
  rw [offerFabric_eq]
  by_cases h : s.lane.fabric.localQ.length < 32
  · simp only [if_pos h]; rfl
  · simp only [if_neg h]; rfl

/-- Frames offered one after the other, in two runs. -/
theorem offeredInOrder_append (live : Bool) (as bs : List OutFrame) (p : OutPort) :
    offeredInOrder live (as ++ bs) p = offeredInOrder live bs (offeredInOrder live as p) := List.foldl_append

/-- A walk whose work at index i offers the frames of g i to the FABRIC port, where the work at other indexes keeps what
that depends on: all the frames are offered in the walk's order. -/
theorem foldl_offers {ι : Type} (live : Bool) (f : ι → State → State) (g : ι → List OutFrame) (I : ι → State → Prop)
    (hf : ∀ i t, I i t → (f i t).lane.fabric = offeredInOrder live (g i) t.lane.fabric)
    (hI : ∀ i j t, i ≠ j → I i t → I j t → I j (f i t)) (l : List ι) (hl : l.Nodup) (t : State) (ht : ∀ i, I i t) :
    (l.foldl (fun t i => f i t) t).lane.fabric = offeredInOrder live (l.flatMap g) t.lane.fabric ∧
      ∀ j, j ∉ l → I j (l.foldl (fun t i => f i t) t) := by
  have gen : ∀ (l : List ι) (t : State), l.Nodup → (∀ i ∈ l, I i t) →
      (l.foldl (fun t i => f i t) t).lane.fabric = offeredInOrder live (l.flatMap g) t.lane.fabric ∧
        ∀ j, j ∉ l → I j t → I j (l.foldl (fun t i => f i t) t) := by
    intro l
    induction l with
    | nil => exact fun t _ _ => ⟨rfl, fun j _ h => h⟩
    | cons i l ih =>
      intro t hn hi
      rw [List.nodup_cons] at hn
      have hi0 := hi i (List.mem_cons_self ..)
      have h := ih (f i t) hn.2 fun j hj =>
        hI i j t (fun h => hn.1 (h ▸ hj)) hi0 (hi j (List.mem_cons_of_mem _ hj))
      refine ⟨?_, fun j hj hij => ?_⟩
      · rw [List.foldl_cons, h.1, hf i t hi0, List.flatMap_cons, offeredInOrder_append]
      · rw [List.mem_cons, not_or] at hj
        exact h.2 j hj.2 (hI i j t (Ne.symm hj.1) hi0 hij)
  exact ⟨(gen l t hl fun i _ => ht i).1, fun j hj => (gen l t hl fun i _ => ht i).2 j hj (ht j)⟩

/-- The shelves in increasing order: those before shelf k, k, and those after it. -/
theorem finRange_split (k : ShelfId) :
    List.finRange 16 = (List.finRange 16).filter (fun j => decide (j < k)) ++ k :: (List.finRange 16).filter
        (fun j => decide (k < j)) := by
  revert k; decide

/-- A walk over every shelf that offers frames: what the FABRIC port is after it, and, at each shelf, what its own work
gives it on the port that the shelves before it left. -/
theorem overShelves_offers (live : Bool) (f : ShelfId → State → State) (g : ShelfId → List OutFrame)
    (I Q : ShelfId → State → Prop) (s : State)
    (hf : ∀ i t, I i t → (f i t).lane.fabric = offeredInOrder live (g i) t.lane.fabric)
    (hI : ∀ i j t, i ≠ j → I i t → I j t → I j (f i t))
    (hself : ∀ k t, I k t →
      t.lane.fabric =
        offeredInOrder live (((List.finRange 16).filter fun j => decide (j < k)).flatMap g) s.lane.fabric → Q k (f k t))
    (hother : ∀ i j t, i ≠ j → Q j t → Q j (f i t)) (hs : ∀ k, I k s) :
    (overShelves f s).lane.fabric = offeredInOrder live ((List.finRange 16).flatMap g) s.lane.fabric ∧
      ∀ k, Q k (overShelves f s) := by
  refine ⟨(foldl_offers live f g I hf hI _ (List.nodup_finRange 16) s hs).1, fun k => ?_⟩
  unfold overShelves
  rw [finRange_split k, List.foldl_append, List.foldl_cons]
  have h := foldl_offers live f g I hf hI ((List.finRange 16).filter fun j => decide (j < k))
    ((List.nodup_finRange 16).filter _) s hs
  have hq := hself k _ (h.2 k (by simp)) h.1
  refine List.foldlRecOn (motive := Q k) _ _ hq fun t ht i hi => hother i k t (fun h => ?_) ht
  subst h; simp at hi

/-- Frames for the shelves that pass a test, as the frames that each shelf offers. -/
theorem flatMap_filter {ι α : Type} (c : ι → Bool) (d : ι → α) (l : List ι) :
    (l.flatMap fun i => if c i then [d i] else []) = (l.filter c).map d := by
  induction l with
  | nil => rfl
  | cons i l ih =>
    rw [List.flatMap_cons, ih]
    cases h : c i <;> simp [h]

/-- The arbiter never adds a frame. -/
theorem serve_keeps_length (live : Bool) (p : OutPort) : (OutPort.serve live p).localQ.length ≤ p.localQ.length := by
  obtain ⟨tq, lq, sv, sn⟩ := p
  cases sn <;> cases live <;> cases tq <;> cases lq <;> cases sv <;> simp [OutPort.serve, OutPort.choice]

/-- Offering frames never lengthens the queue by more than their number. -/
theorem offeredInOrder_length (live : Bool) (fs : List OutFrame) (p : OutPort) :
    (offeredInOrder live fs p).localQ.length ≤ p.localQ.length + fs.length := by
  induction fs generalizing p with
  | nil => exact Nat.le_refl _
  | cons f fs ih =>
    refine Nat.le_trans (ih _) ?_
    have h := (serve_keeps_length live { p with localQ := p.localQ ++ [f] })
    rw [List.length_append, List.length_singleton] at h
    dsimp only
    rw [List.length_cons]
    split
    · omega
    · omega

/-- The Directive that a slice sends under a new sequence (R111). -/
theorem newDirective_fabric (k : ShelfId) (a : Action) (c : Option Slot) (s : State)
    (ha : a = match c with | some n => .track n | none => .hold) :
    (newDirective k a s).lane.fabric =
      offeredInOrder s.lane.live [directiveTo s k (s.slices[k].seq + 1) c] s.lane.fabric := by
  have hf : directiveFrame (s.setSlice k { s.slices[k] with seq := s.slices[k].seq + 1, action := a }) k =
      (directiveTo s k (s.slices[k].seq + 1) c).bytes := by
    unfold directiveFrame directiveTo
    rw [State.setSlice_slices_at, if_pos rfl, ha]
    cases c <;> rfl
  unfold newDirective
  rw [sendDirective_fabric, hf]
  rfl

/-- The triple of a slice reads the slice, the base tag and the effective grades only. -/
theorem sliceTriple_congr {s t : State} (k : ShelfId) (hb : t.baseTag = s.baseTag) (hg : t.grades = s.grades)
    (hs : t.slices[k] = { s.slices[k] with triple := t.slices[k].triple }) : sliceTriple t k = sliceTriple s k := by
  unfold sliceTriple ownTriple lockedTriple
  rw [hb, hg, hs]

/-- A slice's record after its triple is recomputed. -/
theorem retriple_slices (k : ShelfId) (tell : Bool) (s : State) :
    (retriple k tell s).slices = s.slices.set k { s.slices[k] with triple := sliceTriple s k } := rfl

theorem retriple_at (k j : ShelfId) (tell : Bool) (s : State) :
    (retriple k tell s).slices[j] = if k = j then { s.slices[k] with triple := sliceTriple s k } else s.slices[j] := by
  simp only [retriple_slices, getElem_set_fin]

/-- A slice's record at the end of an event: the triple recomputed when the timing state, the target, the unreachable
flag or the history flag moved (R110). -/
theorem closeSlice_slices (k : ShelfId) (old : Slice) (s : State) :
    (closeSlice k old s).slices =
      if s.slices[k].timing ≠ old.timing ∨ s.slices[k].target ≠ old.target ∨ s.slices[k].unreachable ≠ old.unreachable ∨
          s.slices[k].history ≠ old.history
      then s.slices.set k { s.slices[k] with triple := sliceTriple s k }
      else s.slices := by
  have h2 : ∀ b, sameBut [.latches, .conditions, .noticeState, .control] s
      (raiseCondition (condModuleSilent k) b s.slices[k].unreachable
        (if s.slices[k].timing = old.timing then s else raiseEdge (shelfLatch 1 k) s)) := by
    intro b
    have h1 : sameBut [.latches, .conditions, .noticeState, .control] s
        (if s.slices[k].timing = old.timing then s else raiseEdge (shelfLatch 1 k) s) :=
      sameBut.ite (sameBut.refl _ _) (raiseEdge_sameBut _ _).mono
    exact h1.trans (raiseCondition_sameBut _ _ _ _)
  have h := h2 old.unreachable
  have hs := h .slices (by decide)
  have ht := sliceTriple_congr k (h .baseTag (by decide)) (h .grades (by decide)) (by rw [hs])
  unfold closeSlice
  dsimp only
  by_cases hc : s.slices[k].timing ≠ old.timing ∨ s.slices[k].target ≠ old.target ∨
      s.slices[k].unreachable ≠ old.unreachable ∨ s.slices[k].history ≠ old.history
  · rw [if_pos hc, if_pos (by simpa [or_assoc] using hc), retriple_slices, ht, hs]
  · rw [if_neg hc, if_neg (by simpa [or_assoc] using hc), hs]

theorem closeSlice_at (k j : ShelfId) (old : Slice) (s : State) :
    (closeSlice k old s).slices[j] =
      if k = j ∧ (s.slices[k].timing ≠ old.timing ∨ s.slices[k].target ≠ old.target ∨
          s.slices[k].unreachable ≠ old.unreachable ∨ s.slices[k].history ≠ old.history)
      then { s.slices[k] with triple := sliceTriple s k }
      else s.slices[j] := by
  simp only [closeSlice_slices]
  split <;> rename_i h
  · simp only [getElem_set_fin, h, and_true]
  · simp only [h, and_false, if_false]

/-! ### Loop exclusion, eligibility and keys (R87 to R91) -/

/-- The walk reads the target records only (R89). -/
theorem walkReaches_congr {s t : State} (h : ∀ k : ShelfId, t.shelves[k].target = s.shelves[k].target) (k : ShelfId) :
    ∀ n j, walkReaches t k n j = walkReaches s k n j
  | 0, _ => rfl
  | n + 1, j => by
    unfold walkReaches
    rw [h j]
    cases s.shelves[j].target with
    | none => rfl
    | some x => dsimp only; rw [walkReaches_congr h k n]

/-- Loop exclusion reads the target records, the candidates, the grades and the base tag only (R88, R89). -/
theorem loopExcluded_congr {s t : State} (h : ∀ k : ShelfId, t.shelves[k].target = s.shelves[k].target)
    (hc : t.cands = s.cands) (hg : t.grades = s.grades) (hb : t.baseTag = s.baseTag) (k : ShelfId) (c : Slot) :
    loopExcluded t k c = loopExcluded s k c := by
  simp only [loopExcluded, excludedByOrigin, excludedByCascade, hc, hg, hb, walkReaches_congr h]

/-- Eligibility reads the shelves, the candidates, the grades and the base tag only (R87). -/
theorem eligible_congr {s t : State} (h : t.shelves = s.shelves) (hc : t.cands = s.cands) (hg : t.grades = s.grades)
    (hb : t.baseTag = s.baseTag) (k : ShelfId) (e : EntryId) : eligible t k e = eligible s k e := by
  have hl := loopExcluded_congr (s := s) (t := t) (by simp only [h, implies_true]) hc hg hb
  simp only [eligible, targetSlot, h, hc, hg, hl]
  rfl

theorem mem_eligibleEntries (s : State) (k : ShelfId) (e : EntryId) : e ∈ eligibleEntries s k ↔ eligible s k e = true
    := by
  simp [eligibleEntries]

/-- A candidate is outranked in AUTO mode when an eligible entry has a strictly lower rank (R91). -/
theorem outranked_eq_false (s : State) (k : ShelfId) (c : Slot) :
    outranked s k c = false ↔
      (s.shelves[k].sel.mode = .auto → ∀ f : EntryId, eligible s k f = true →
        s.grades[c].eff.rank ≤ s.grades[s.shelves[k].entries[f].slot].eff.rank) := by
  unfold outranked strictlyBetter
  rw [Bool.and_eq_false_imp]
  simp only [decide_eq_true_eq, List.any_eq_false, mem_eligibleEntries, not_lt]

theorem keyLt_irrefl : ∀ a : List Nat, keyLt a a = false
  | [] => rfl
  | a :: as => by simp [keyLt, keyLt_irrefl as]

theorem keyLt_trans : ∀ a b c : List Nat, keyLt a b = true → keyLt b c = true → keyLt a c = true
  | [], [], _ => by simp [keyLt]
  | [], _ :: _, [] => by simp [keyLt]
  | [], _ :: _, _ :: _ => by simp [keyLt]
  | _ :: _, [], _ => by simp [keyLt]
  | _ :: _, _ :: _, [] => by simp [keyLt]
  | a :: as, b :: bs, c :: cs => by
    simp only [keyLt, Bool.or_eq_true, Bool.and_eq_true, decide_eq_true_eq]
    rintro (h1 | ⟨rfl, h1⟩) (h2 | ⟨rfl, h2⟩)
    · exact Or.inl (h1.trans h2)
    · exact Or.inl h1
    · exact Or.inl h2
    · exact Or.inr ⟨rfl, keyLt_trans as bs cs h1 h2⟩

theorem keyLt_cotrans : ∀ a b c : List Nat, keyLt a c = true → keyLt a b = true ∨ keyLt b c = true
  | [], [], _ => Or.inr
  | [], _ :: _, _ => fun _ => Or.inl rfl
  | _ :: _, _, [] => by simp [keyLt]
  | _ :: _, [], _ :: _ => fun _ => Or.inr rfl
  | a :: as, b :: bs, c :: cs => by
    simp only [keyLt, Bool.or_eq_true, Bool.and_eq_true, decide_eq_true_eq]
    rintro (h | ⟨rfl, h⟩)
    · rcases Nat.lt_trichotomy a b with hab | rfl | hab
      · exact Or.inl (Or.inl hab)
      · exact Or.inr (Or.inl h)
      · exact Or.inr (Or.inl (hab.trans h))
    · rcases Nat.lt_trichotomy a b with hab | rfl | hab
      · exact Or.inl (Or.inl hab)
      · rcases keyLt_cotrans as bs cs h with h | h
        · exact Or.inl (Or.inr ⟨rfl, h⟩)
        · exact Or.inr (Or.inr ⟨rfl, h⟩)
      · exact Or.inr (Or.inl hab)

/-- The best entry: none when no entry is eligible, else an eligible one that no eligible entry beats (R90). -/
theorem bestEntry_spec (s : State) (k : ShelfId) :
    match bestEntry s k with
    | none => ∀ e, eligible s k e = false
    | some e =>
      eligible s k e = true ∧ ∀ f, eligible s k f = true → keyLt (selectionKey s k f) (selectionKey s k e) = false := by
  have key : ∀ (l : List EntryId) (b : Option EntryId),
      match l.foldl (betterEntry s k) b with
      | none => b = none ∧ l = []
      | some e =>
        (e ∈ l ∨ b = some e) ∧ (∀ f ∈ l, keyLt (selectionKey s k f) (selectionKey s k e) = false) ∧
          ∀ f, b = some f → keyLt (selectionKey s k f) (selectionKey s k e) = false := by
    intro l
    induction l with
    | nil =>
      intro b
      cases b with
      | none => exact ⟨rfl, rfl⟩
      | some f =>
        refine ⟨Or.inr rfl, by simp, ?_⟩
        rintro g hg
        rw [Option.some.inj hg]
        exact keyLt_irrefl _
    | cons x l ih =>
      intro b
      have hx := ih (betterEntry s k b x)
      rw [List.foldl_cons]
      have hsome : ∃ y, betterEntry s k b x = some y := by
        unfold betterEntry; split
        · exact ⟨_, rfl⟩
        · split <;> exact ⟨_, rfl⟩
      obtain ⟨y, hy⟩ := hsome
      cases hr : l.foldl (betterEntry s k) (betterEntry s k b x) with
      | none => rw [hr] at hx; rw [hx.1] at hy; cases hy
      | some e =>
        rw [hr] at hx
        obtain ⟨hin, hl, hb⟩ := hx
        have hey := hb y hy
        have hxe : keyLt (selectionKey s k x) (selectionKey s k e) = false ∧
            ∀ f, b = some f → keyLt (selectionKey s k f) (selectionKey s k e) = false := by
          unfold betterEntry at hy
          cases b with
          | none => cases hy; exact ⟨hey, by simp⟩
          | some f =>
            dsimp only at hy
            split at hy <;> rename_i hlt
            · cases hy
              refine ⟨hey, ?_⟩
              rintro g hg
              cases hg
              rw [← Bool.not_eq_true]
              intro h
              rw [keyLt_trans _ _ _ hlt h] at hey
              cases hey
            · cases hy
              refine ⟨?_, ?_⟩
              · rw [← Bool.not_eq_true]
                intro h
                rcases keyLt_cotrans _ (selectionKey s k y) _ h with h | h
                · exact hlt h
                · rw [h] at hey; cases hey
              · rintro g hg; cases hg; exact hey
        refine ⟨?_, ?_, hxe.2⟩
        · rcases hin with h | h
          · exact Or.inl (List.mem_cons_of_mem _ h)
          · rw [hy] at h
            cases h
            unfold betterEntry at hy
            cases b with
            | none => cases hy; exact Or.inl (List.mem_cons_self ..)
            | some f =>
              dsimp only at hy
              split at hy
              · cases hy; exact Or.inl (List.mem_cons_self ..)
              · cases hy; exact Or.inr rfl
        · intro f hf
          rcases List.mem_cons.1 hf with rfl | hf
          · exact hxe.1
          · exact hl f hf
  have h := key (eligibleEntries s k) none
  unfold bestEntry
  cases hr : (eligibleEntries s k).foldl (betterEntry s k) none with
  | none =>
    rw [hr] at h
    intro e
    rw [← Bool.not_eq_true, ← mem_eligibleEntries, h.2]
    simp
  | some e =>
    rw [hr] at h
    obtain ⟨h1, h2, -⟩ := h
    refine ⟨(mem_eligibleEntries s k e).1 (h1.resolve_right (by simp)), fun f hf => h2 f ((mem_eligibleEntries s k
        f).2 hf)⟩

/-- The best eligible slot: NONE when no entry is eligible, else that of an eligible entry no eligible entry beats
(R90). -/
theorem bestSlot_spec (s : State) (k : ShelfId) :
    (bestSlot s k = none ∧ ∀ e, eligible s k e = false) ∨
      ∃ e, bestSlot s k = some s.shelves[k].entries[e].slot ∧ eligible s k e = true ∧
        ∀ f, eligible s k f = true → keyLt (selectionKey s k f) (selectionKey s k e) = false := by
  have h := bestEntry_spec s k
  unfold bestSlot
  cases hb : bestEntry s k with
  | none => rw [hb] at h; exact Or.inl ⟨rfl, h⟩
  | some e => rw [hb] at h; exact Or.inr ⟨e, rfl, h⟩

theorem targetEligible_iff (s : State) (k : ShelfId) (c : Slot) :
    targetEligible s k c = true ↔ ∃ e : EntryId, eligible s k e = true ∧ s.shelves[k].entries[e].slot = c := by
  simp only [targetEligible, List.any_eq_true, mem_eligibleEntries, decide_eq_true_eq]

/-! ### Target changes -/

/-- The slice after a target change that names a slot (R112), its triple apart. -/
theorem targetToSlot_at (k j : ShelfId) (c : Slot) (s : State) (hp : s.slices[k].timing ≠ .parked) :
    (targetToSlot k c s).slices[j] =
      if k = j then
        { s.slices[k] with
          target := some c
          seq := s.slices[k].seq + 1
          action := .track c
          unsent := decide (32 ≤ s.lane.fabric.localQ.length)
          timing := .acquiring
          settleTimer := none
          holdoverSince := none
          exhausted := false
          lockTimer := some (s.osc + s.slices[k].cfg.lockS * 125000000)
          triple := (targetToSlot k c s).slices[k].triple }
      else s.slices[j] := by
  unfold targetToSlot
  dsimp only
  rw [if_neg hp, startMs_s]
  by_cases h : k = j
  · subst h
    rw [if_pos rfl, closeSlice_at, State.setSlice_slices_at, if_pos rfl, newDirective_at, if_pos rfl,
      State.setSlice_slices_at, if_pos rfl]
    split <;> rfl
  · rw [if_neg h, closeSlice_at, if_neg fun hh => h hh.1, State.setSlice_slices_at, if_neg h, newDirective_at, if_neg h,
      State.setSlice_slices_at, if_neg h]

/-- The slice after a target change that names NONE (R113), its triple apart. -/
theorem targetToNone_at (k j : ShelfId) (s : State) (hp : s.slices[k].timing ≠ .parked) :
    (targetToNone k s).slices[j] =
      if k = j then
        let v : Slice :=
          { s.slices[k] with
            target := none
            seq := s.slices[k].seq + 1
            action := .hold
            unsent := decide (32 ≤ s.lane.fabric.localQ.length)
            lockTimer := none
            settleTimer := none
            triple := (targetToNone k s).slices[k].triple }
        if s.slices[k].lastReport.map Report.holdoverReady = some true then v.enterHoldover s.osc else v.enterFreerun
      else s.slices[j] := by
  have hr : ∀ o : Option Bool, o.getD false = true ↔ o = some true := by intro o; cases o <;> simp
  unfold targetToNone
  dsimp only
  rw [if_neg hp]
  by_cases h : k = j
  · subst h
    rw [if_pos rfl, closeSlice_at, State.setSlice_slices_at, if_pos rfl, newDirective_at, if_pos rfl,
      State.setSlice_slices_at, if_pos rfl]
    by_cases hh : s.slices[k].lastReport.map Report.holdoverReady = some true
    · rw [if_pos hh, if_pos ((hr _).2 hh)]; split <;> rfl
    · rw [if_neg hh, if_neg (mt (hr _).1 hh)]; split <;> rfl
  · rw [if_neg h, closeSlice_at, if_neg fun hh => h hh.1, State.setSlice_slices_at, if_neg h, newDirective_at, if_neg h,
      State.setSlice_slices_at, if_neg h]

theorem changeTarget_shelves (k : ShelfId) (t : Option Target) (s : State) :
    (changeTarget k t s).shelves = s.shelves.set k { s.shelves[k] with target := t } := by
  unfold changeTarget
  dsimp only
  rw [requestCascade_sameBut _ _ .shelves (by decide), raiseEdge_sameBut _ _ .shelves (by decide),
    takeTarget_sameBut _ _ _ .shelves (by decide)]
  rfl

theorem changeTarget_slices (k : ShelfId) (t : Option Target) (s : State) :
    (changeTarget k t s).slices =
      (takeTarget k (t.map Target.slot) (s.setShelf k { s.shelves[k] with target := t })).slices := by
  unfold changeTarget
  dsimp only
  rw [requestCascade_sameBut _ _ .slices (by decide), raiseEdge_sameBut _ _ .slices (by decide)]

/-- A target change leaves the TARGET latch set when its kind is enabled (R92). -/
theorem changeTarget_not_clear (k : ShelfId) (t : Option Target) (s : State)
    (he : s.events.enabled (shelfLatch 0 k) = true) : (changeTarget k t s).events.latches[shelfLatch 0 k] ≠ .clear := by
  unfold changeTarget
  dsimp only
  rw [requestCascade_sameBut _ _ .latches (by decide)]
  refine (raiseEdge_raisedBy _ _).not_clear ?_
  have h := takeTarget_sameBut k (t.map Target.slot) (s.setShelf k { s.shelves[k] with target := t }) .eventSettings
    (by decide)
  unfold EventUnit.enabled at he ⊢
  rw [h.1]
  exact he

/-- The end of a slice event clears no latch but the one of MODULE_SILENT (R122, R157). -/
theorem closeSlice_stays (l : LatchId) (k : ShelfId) (old : Slice) (s : State) (hl : shelfLatch 4 k ≠ l) :
    latchStays l s (closeSlice k old s) := by
  have h1 : latchStays l s (if s.slices[k].timing = old.timing then s else raiseEdge (shelfLatch 1 k) s) := by
    split
    · exact id
    · exact raiseEdge_stays _ _ _
  have h2 := h1.trans (raiseCondition_stays l (condModuleSilent k) old.unreachable s.slices[k].unreachable _
    (by rw [condLatch_moduleSilent]; exact hl))
  unfold closeSlice
  dsimp only
  split
  · exact h2.trans (latchStays.of_eq l (retriple_sameBut _ _ _ .latches (by decide)))
  · exact h2

theorem takeTarget_stays (l : LatchId) (k : ShelfId) (t : Option Slot) (s : State) (hl : shelfLatch 4 k ≠ l) :
    latchStays l s (takeTarget k t s) := by
  have hd : ∀ a v, latchStays l s (newDirective k a (s.setSlice k v)) := fun a v =>
    latchStays.of_eq l (newDirective_sameBut k a (s.setSlice k v) .latches (by decide))
  have hc : ∀ (old v : Slice) (u : State), latchStays l s u → latchStays l s (closeSlice k old (u.setSlice k v)) :=
    fun old v u h => h.trans (closeSlice_stays l k old (u.setSlice k v) hl)
  cases t with
  | none =>
    show latchStays l s (targetToNone k s)
    unfold targetToNone
    dsimp only
    split
    · exact id
    · exact hc _ _ _ (hd _ _)
  | some c =>
    show latchStays l s (targetToSlot k c s)
    unfold targetToSlot
    dsimp only
    split
    · exact id
    · exact hc _ _ _ (hd _ _)

theorem changeTarget_stays (l : LatchId) (k : ShelfId) (t : Option Target) (s : State) (hl : shelfLatch 4 k ≠ l) :
    latchStays l s (changeTarget k t s) := by
  unfold changeTarget
  dsimp only
  have h1 : latchStays l s (takeTarget k (t.map Target.slot) (s.setShelf k { s.shelves[k] with target := t })) :=
    takeTarget_stays l k _ (s.setShelf k { s.shelves[k] with target := t }) hl
  exact (h1.trans (raiseEdge_stays l _ _)).trans (latchStays.of_eq l (requestCascade_sameBut _ _ .latches (by decide)))

/-! ### Evaluation (R85 to R96) -/

/-- The target records after the computed target was applied: that target, frozen with its kind and source (R92). -/
theorem applyTarget_shelves (k : ShelfId) (t : Option Slot) (s : State) :
    (applyTarget k t s).shelves = s.shelves.set k { s.shelves[k] with target := t.map (freezeTarget s) } := by
  unfold applyTarget
  dsimp only
  split <;> rename_i h
  · rw [h]
    have : s.shelves.set k s.shelves[k] = s.shelves := by simp
    exact this.symm
  · split
    · rw [requestCascade_sameBut _ _ .shelves (by decide)]; rfl
    · rw [changeTarget_shelves]

theorem applyTarget_at (k j : ShelfId) (t : Option Slot) (s : State) :
    (applyTarget k t s).shelves[j] =
      if k = j then { s.shelves[k] with target := t.map (freezeTarget s) } else s.shelves[j] := by
  simp only [applyTarget_shelves, getElem_set_fin]

theorem freezeTarget_slot (t : Option Slot) (s : State) : (t.map (freezeTarget s)).map Target.slot = t := by
  cases t <;> rfl

theorem applyTarget_targetSlot (k : ShelfId) (t : Option Slot) (s : State) : targetSlot (applyTarget k t s) k = t := by
  unfold targetSlot
  rw [applyTarget_at, if_pos rfl]
  exact freezeTarget_slot t s

/-- The slices after the computed target was applied: a target change at the slice when the slot differs (R92). -/
theorem applyTarget_slices (k : ShelfId) (t : Option Slot) (s : State) :
    (applyTarget k t s).slices =
      if t = targetSlot s k then s.slices
      else (takeTarget k t (s.setShelf k { s.shelves[k] with target := t.map (freezeTarget s) })).slices := by
  unfold applyTarget
  dsimp only
  split <;> rename_i h
  · rw [if_pos]
    unfold targetSlot; rw [← h, freezeTarget_slot]
  · split <;> rename_i h2
    · rw [requestCascade_sameBut _ _ .slices (by decide)]; rfl
    · rw [changeTarget_slices, freezeTarget_slot]

theorem applyTarget_stays (l : LatchId) (k : ShelfId) (t : Option Slot) (s : State) (hl : shelfLatch 4 k ≠ l) :
    latchStays l s (applyTarget k t s) := by
  unfold applyTarget
  dsimp only
  split
  · exact id
  · split
    · exact latchStays.of_eq l (requestCascade_sameBut _ _ .latches (by decide))
    · exact changeTarget_stays l k _ s hl

/-- The end of a slice event that changed the timing state leaves the TIMING_STATE latch set when its kind is enabled
(R110). -/
theorem closeSlice_timing_told (k : ShelfId) (old : Slice) (s : State) (ht : s.slices[k].timing ≠ old.timing)
    (he : s.events.enabled (shelfLatch 1 k) = true) : (closeSlice k old s).events.latches[shelfLatch 1 k] ≠ .clear := by
  have hne : shelfLatch 4 k ≠ shelfLatch 1 k := fun h => by
    have := congrArg Fin.val h; simp only [shelfLatch] at this; omega
  have h1 := (raiseEdge_raisedBy (shelfLatch 1 k) s).not_clear he
  have h2 := raiseCondition_stays (shelfLatch 1 k) (condModuleSilent k) old.unreachable s.slices[k].unreachable
    (raiseEdge (shelfLatch 1 k) s) (by rw [condLatch_moduleSilent]; exact hne) h1
  unfold closeSlice
  dsimp only
  rw [if_neg ht]
  split
  · exact latchStays.of_eq _ (retriple_sameBut _ _ _ .latches (by decide)) h2
  · exact h2

/-- A slice that is not PARKED sends its new Directive as it takes a target change (R111 to R113). -/
theorem takeTarget_fabric (k : ShelfId) (t : Option Slot) (s : State) (hp : s.slices[k].timing ≠ .parked) :
    (takeTarget k t s).lane.fabric =
      offeredInOrder s.lane.live [directiveTo s k (s.slices[k].seq + 1) t] s.lane.fabric := by
  have hd : ∀ v : Slice, v.cfg = s.slices[k].cfg →
      directiveTo (s.setSlice k v) k (s.slices[k].seq + 1) t = directiveTo s k (s.slices[k].seq + 1) t := by
    intro v hv
    unfold directiveTo
    rw [State.setSlice_slices_at, if_pos rfl, hv]
    rfl
  cases t with
  | none =>
    show (targetToNone k s).lane.fabric = _
    unfold targetToNone
    dsimp only
    rw [if_neg hp, closeSlice_keeps _ _ _ .fabric (by decide), State.setSlice_lane,
      newDirective_fabric k .hold none _ rfl, State.setSlice_slices_at, if_pos rfl]
    exact congrArg (fun f => offeredInOrder s.lane.live [f] s.lane.fabric) (hd _ rfl)
  | some c =>
    show (targetToSlot k c s).lane.fabric = _
    unfold targetToSlot
    dsimp only
    rw [if_neg hp, closeSlice_keeps _ _ _ .fabric (by decide), State.setSlice_lane,
      newDirective_fabric k (.track c) (some c) _ rfl, State.setSlice_slices_at, if_pos rfl]
    exact congrArg (fun f => offeredInOrder s.lane.live [f] s.lane.fabric) (hd _ rfl)

/-- A target change that moves the timing state leaves the TIMING_STATE latch set when its kind is enabled (R110, R112,
R113). -/
theorem takeTarget_timing_told (k : ShelfId) (t : Option Slot) (s : State)
    (ht : (takeTarget k t s).slices[k].timing ≠ s.slices[k].timing) (he : s.events.enabled (shelfLatch 1 k) = true) :
    (takeTarget k t s).events.latches[shelfLatch 1 k] ≠ .clear := by
  have hgen : ∀ (a : Action) (v w : Slice),
      (closeSlice k s.slices[k] ((newDirective k a (s.setSlice k v)).setSlice k w)).slices[k].timing ≠
          s.slices[k].timing →
      (closeSlice k s.slices[k] ((newDirective k a (s.setSlice k v)).setSlice k w)).events.latches[shelfLatch 1 k] ≠
          .clear := by
    intro a v w h
    refine closeSlice_timing_told k _ _ (fun hh => h ?_) ?_
    · rw [closeSlice_at]
      split
      · exact hh
      · exact hh
    · have := ((newDirective_sameBut k a (s.setSlice k v)) .eventSettings (by decide)).1
      unfold EventUnit.enabled at he ⊢
      rw [State.setSlice_events, this]
      exact he
  cases t with
  | none =>
    change (targetToNone k s).slices[k].timing ≠ _ at ht
    show (targetToNone k s).events.latches[shelfLatch 1 k] ≠ _
    unfold targetToNone at ht ⊢
    dsimp only at ht ⊢
    split at ht
    · exact absurd rfl ht
    · rename_i hp; rw [if_neg hp]; exact hgen _ _ _ ht
  | some c =>
    change (targetToSlot k c s).slices[k].timing ≠ _ at ht
    show (targetToSlot k c s).events.latches[shelfLatch 1 k] ≠ _
    unfold targetToSlot at ht ⊢
    dsimp only at ht ⊢
    split at ht
    · exact absurd rfl ht
    · rename_i hp; rw [if_neg hp]; exact hgen _ _ _ ht

/-- The closing of a slice event moves only its own MODULE_SILENT copy (R122). -/
theorem closeSlice_copy (k : ShelfId) (old : Slice) (s : State) (c : CondId) (hc : c ≠ condModuleSilent k) :
    (closeSlice k old s).events.copies[c] = s.events.copies[c] := by
  unfold closeSlice
  dsimp only
  have h1 : ∀ t : State, (raiseCondition (condModuleSilent k) old.unreachable s.slices[k].unreachable
      t).events.copies[c] = t.events.copies[c] := by
    intro t; simp only [raiseCondition_copies]
    split
    · rfl
    · rw [getElem_set_fin, if_neg (Ne.symm hc)]
  have h2 : (if s.slices[k].timing = old.timing then s else raiseEdge (shelfLatch 1 k) s).events.copies =
      s.events.copies := by
    split
    · rfl
    · exact raiseEdge_sameBut _ _ .conditions (by decide)
  have h3 := h1 (if s.slices[k].timing = old.timing then s else raiseEdge (shelfLatch 1 k) s)
  simp only [h2] at h3
  split
  · exact h3
  · exact h3

/-- A target change at a slice moves only its own MODULE_SILENT copy (R112, R113, R122). -/
theorem takeTarget_copy (k : ShelfId) (t : Option Slot) (s : State) (c : CondId) (hc : c ≠ condModuleSilent k) :
    (takeTarget k t s).events.copies[c] = s.events.copies[c] := by
  have hn : ∀ a (u : State), (newDirective k a u).events = u.events := fun a u => by
    unfold newDirective sendDirective offerFabric
    dsimp only
    split <;> rfl
  cases t with
  | none =>
    show (targetToNone k s).events.copies[c] = _
    unfold targetToNone; dsimp only
    split
    · rfl
    · rw [closeSlice_copy _ _ _ _ hc]
      show (newDirective k _ _).events.copies[c] = _
      rw [hn]; rfl
  | some d =>
    show (targetToSlot k d s).events.copies[c] = _
    unfold targetToSlot; dsimp only
    split
    · rfl
    · rw [closeSlice_copy _ _ _ _ hc]
      show (newDirective k _ _).events.copies[c] = _
      rw [hn]; rfl

/-- A target change at a slice leaves the other slices (R112, R113). -/
theorem takeTarget_slices (k : ShelfId) (t : Option Slot) (s : State) (j : ShelfId) (hj : j ≠ k) :
    (takeTarget k t s).slices[j] = s.slices[j] := by
  by_cases hp : s.slices[k].timing = .parked
  · cases t <;> simp only [takeTarget, targetToNone, targetToSlot, hp, if_true]
  · cases t with
    | none => show (targetToNone k s).slices[j] = _; rw [targetToNone_at k j s hp, if_neg (Ne.symm hj)]
    | some d => show (targetToSlot k d s).slices[j] = _; rw [targetToSlot_at k j d s hp, if_neg (Ne.symm hj)]

/-- The shelves queued, with the pick and the state before said otherwise. -/
theorem queuedBy.congr {p q : ShelfId → Prop} {s u t : State} (h : queuedBy p u t) (hpq : ∀ j, p j ↔ q j)
    (hq : u.engine.queue = s.engine.queue) : queuedBy q s t := fun j => by rw [h j, hpq j, hq]

/-- The cascade queues every other shelf that lists a candidate of kind SHELF (R92). -/
theorem requestCascade_queued (k : ShelfId) (s : State) :
    queuedBy (fun j => j ≠ k ∧ listsShelfKind s j = true) s (requestCascade k s) :=
  (requestWhere_queued (fun j => decide (j ≠ k) && listsShelfKind s j) s).congr (fun j => by simp) rfl

/-- Which shelves list a candidate of kind SHELF is told by the lists and the candidates. -/
theorem listsShelfKind_congr {s t : State} (j : ShelfId) (hs : t.shelves[j].entries = s.shelves[j].entries)
    (hc : t.cands = s.cands) : listsShelfKind t j = listsShelfKind s j := by
  unfold listsShelfKind; simp only [hs, hc]

/-- What applying the computed target queues: nothing when the record stays, else the cascade (R92). -/
theorem applyTarget_queued (k : ShelfId) (t : Option Slot) (s : State) :
    if t.map (freezeTarget s) = s.shelves[k].target then (applyTarget k t s).engine.queue = s.engine.queue
    else queuedBy (fun j => j ≠ k ∧ listsShelfKind s j = true) s (applyTarget k t s) := by
  have hset : ∀ (x : Option Target) (j : ShelfId),
      (s.setShelf k { s.shelves[k] with target := x }).shelves[j].entries = s.shelves[j].entries := by
    intro x j
    rw [State.setShelf_shelves_at]
    split
    · rename_i h; rw [h]
    · rfl
  unfold applyTarget
  dsimp only
  split
  · rfl
  · split
    · exact (requestCascade_queued k _).congr (fun j => by rw [listsShelfKind_congr j (hset _ j) rfl]) rfl
    · unfold changeTarget
      dsimp only
      generalize hu : raiseEdge (shelfLatch 0 k) (takeTarget k ((t.map (freezeTarget s)).map Target.slot)
        (s.setShelf k { s.shelves[k] with target := t.map (freezeTarget s) })) = u
      have h1 : sameBut sliceParts (s.setShelf k { s.shelves[k] with target := t.map (freezeTarget s) }) u := by
        subst hu; exact (takeTarget_sameBut _ _ _).andThen (raiseEdge_sameBut _ _)
      have he : ∀ j, listsShelfKind u j = listsShelfKind s j := fun j =>
        (listsShelfKind_congr j (congrArg (fun v : Vector Shelf 16 => v[j].entries) (h1 .shelves (by decide)))
          (h1 .cands (by decide))).trans (listsShelfKind_congr j (hset _ j) rfl)
      exact (requestCascade_queued k u).congr (fun j => by rw [he j]) (h1 .queue (by decide))

/-- The FABRIC port and the TIMING_STATE latch after the computed target was applied to a slice that is not PARKED: a
target change sends its Directive (R92, R110 to R113). -/
theorem applyTarget_directs (k : ShelfId) (t : Option Slot) (s : State) (hp : s.slices[k].timing ≠ .parked) :
    (t = targetSlot s k → (applyTarget k t s).lane.fabric = s.lane.fabric) ∧
      (t ≠ targetSlot s k →
        (applyTarget k t s).lane.fabric =
            offeredInOrder s.lane.live [directiveTo s k (s.slices[k].seq + 1) t] s.lane.fabric ∧
          ((applyTarget k t s).slices[k].timing ≠ s.slices[k].timing → s.events.enabled (shelfLatch 1 k) = true →
            (applyTarget k t s).events.latches[shelfLatch 1 k] ≠ .clear)) := by
  have hnew : t ≠ targetSlot s k → t.map (freezeTarget s) ≠ s.shelves[k].target := by
    intro h hh; apply h; unfold targetSlot; rw [← hh, freezeTarget_slot]
  refine ⟨fun h => ?_, fun h => ?_⟩
  · unfold applyTarget
    dsimp only
    split
    · rfl
    · exact requestCascade_sameBut _ _ .fabric (by decide)
  · have hd : applyTarget k t s = changeTarget k (t.map (freezeTarget s)) s := by
      unfold applyTarget; dsimp only; rw [if_neg (hnew h), if_neg h]
    rw [hd]
    unfold changeTarget
    dsimp only
    rw [freezeTarget_slot]
    generalize hw : s.setShelf k { s.shelves[k] with target := t.map (freezeTarget s) } = w
    have hf := takeTarget_fabric k t w (by subst hw; exact hp)
    have htold := takeTarget_timing_told k t w
    refine ⟨?_, fun h1 h2 => ?_⟩
    · rw [requestCascade_sameBut _ _ .fabric (by decide), raiseEdge_sameBut _ _ .fabric (by decide), hf]
      subst hw
      rfl
    · have hsl : (requestCascade k (raiseEdge (shelfLatch 0 k) (takeTarget k t w))).slices = (takeTarget k t w).slices
          :=
        (requestCascade_sameBut _ _ .slices (by decide)).trans (raiseEdge_sameBut _ _ .slices (by decide))
      simp only [hsl] at h1
      refine latchStays.of_eq _ (requestCascade_sameBut _ _ .latches (by decide)) ?_
      refine raiseEdge_stays _ _ _ (htold ?_ ?_)
      · subst hw; exact h1
      · subst hw; exact h2
/-- The shelf record after a mark note was applied (R86). -/
theorem applyMark_at (k j : ShelfId) (m : Option Slot) (s : State) :
    (applyMark k m s).shelves[j] =
      if k = j then { s.shelves[k] with failed := (applyMark k m s).shelves[k].failed } else s.shelves[j] := by
  by_cases h : k = j
  · subst h
    rw [if_pos rfl]
    unfold applyMark
    cases m with
    | none => rfl
    | some c =>
      dsimp only
      split
      · rw [State.setShelf_shelves_at, if_pos rfl]
      · rfl
  · rw [if_neg h]
    unfold applyMark
    cases m with
    | none => rfl
    | some c =>
      dsimp only
      split
      · rw [State.setShelf_shelves_at, if_neg h]
      · rfl

/-- The evaluation of an unparked shelf: the state after the mark, its MANUAL dropped if it cannot be honoured, and the
computed target applied (R85, R86, R96). -/
theorem evaluate_unparked (k : ShelfId) (m : Option Slot) (s : State) (hp : s.slices[k].timing ≠ .parked) :
    evaluate k m s =
      applyTarget k (computeTarget (applyMark k m s) k)
        (if dropsManual (applyMark k m s) k then dropManual k (applyMark k m s) else applyMark k m s) := by
  unfold evaluate; rw [if_neg hp]

theorem dropManual_shelves (k : ShelfId) (s : State) :
    (dropManual k s).shelves = s.shelves.set k { s.shelves[k] with command := .none } := by
  unfold dropManual; rw [raiseEdge_sameBut _ _ .shelves (by decide)]; rfl

/-- The shelf record after the evaluation of an unparked shelf: the target computed, and the command dropped when it was
a MANUAL that cannot be honoured; list and settings stay. -/
theorem evaluate_at (k j : ShelfId) (m : Option Slot) (s : State) (hp : s.slices[k].timing ≠ .parked) :
    (evaluate k m s).shelves[j] =
      if k = j then
        { s.shelves[k] with
          failed := (applyMark k m s).shelves[k].failed
          command := if dropsManual (applyMark k m s) k then .none else s.shelves[k].command
          target := (evaluate k m s).shelves[k].target }
      else s.shelves[j] := by
  rw [evaluate_unparked k m s hp]
  have hd : ∀ i : ShelfId,
      (if dropsManual (applyMark k m s) k then dropManual k (applyMark k m s) else applyMark k m s).shelves[i] =
        if k = i then
          { s.shelves[k] with
            failed := (applyMark k m s).shelves[k].failed
            command := if dropsManual (applyMark k m s) k then .none else s.shelves[k].command }
        else s.shelves[i] := by
    intro i
    by_cases h : dropsManual (applyMark k m s) k = true
    · rw [if_pos h, if_pos h]
      simp only [dropManual_shelves, getElem_set_fin]
      by_cases hi : k = i
      · rw [if_pos hi, if_pos hi, applyMark_at k k, if_pos rfl]
      · rw [if_neg hi, if_neg hi, applyMark_at k i, if_neg hi]
    · rw [if_neg h, if_neg h]
      by_cases hi : k = i
      · subst hi; rw [if_pos rfl, applyMark_at k k, if_pos rfl]
      · rw [if_neg hi, applyMark_at k i, if_neg hi]
  rw [applyTarget_at, applyTarget_at, if_pos rfl, hd k, if_pos rfl]
  by_cases h : k = j
  · rw [if_pos h, if_pos h]
  · rw [if_neg h, if_neg h, hd j, if_neg h]

theorem evaluate_targetSlot (k : ShelfId) (m : Option Slot) (s : State) (hp : s.slices[k].timing ≠ .parked) :
    targetSlot (evaluate k m s) k = computeTarget (applyMark k m s) k := by
  rw [evaluate_unparked k m s hp, applyTarget_targetSlot]

/-! ### The Notice Unit -/

/-- The content of a port reads the port's own settings and held code, the shelf's copy and the transmit maps only. -/
theorem portContent_congr {s t : State} (p : PortId) (hc : t.copies = s.copies) (hm : t.tmaps = s.tmaps)
    (h : t.txPorts[p].bound = s.txPorts[p].bound ∧ t.txPorts[p].squelch = s.txPorts[p].squelch ∧
      t.txPorts[p].fill = s.txPorts[p].fill ∧ t.txPorts[p].tmap = s.txPorts[p].tmap ∧
      t.txPorts[p].pathOn = s.txPorts[p].pathOn ∧ t.txPorts[p].heldCode = s.txPorts[p].heldCode) :
    portContent t p = portContent s p := by
  obtain ⟨h1, h2, h3, h4, h5, h6⟩ := h
  simp only [portContent, portCode, towardSource, squelched, hc, hm, h1, h2, h3, h4, h5, h6]
  rfl

/-- Storing the held code that R140 gives leaves the content as it is. -/
theorem portContent_held {s t : State} (p : PortId) (hc : t.copies = s.copies) (hm : t.tmaps = s.tmaps)
    (h : t.txPorts[p].bound = s.txPorts[p].bound ∧ t.txPorts[p].squelch = s.txPorts[p].squelch ∧
      t.txPorts[p].fill = s.txPorts[p].fill ∧ t.txPorts[p].tmap = s.txPorts[p].tmap ∧
      t.txPorts[p].pathOn = s.txPorts[p].pathOn) (hh : t.txPorts[p].heldCode = portHeld s p) :
    portContent t p = portContent s p := by
  obtain ⟨h1, h2, h3, h4, h5⟩ := h
  have ht : towardSource t p = towardSource s p := by simp only [towardSource, hc, h1]
  have hs : squelched t p = squelched s p := by simp only [squelched, hc, h2]
  simp only [portContent, portCode, ht, hs, hc, hm, h3, h4, h5, hh, portHeld]
  congr 1
  split
  · rfl
  · split <;> rfl

/-- The ports after a notice of port p was offered. -/
theorem offerNotice_at (p q : PortId) (ty : NoticeType) (c : Content) (s : State) :
    (offerNotice p ty c s).txPorts[q] =
      if p = q then s.txPorts[p].afterOffer ty c (decide (s.lane.fabric.localQ.length < 32)) else s.txPorts[q] := by
  unfold offerNotice
  rw [offerFabric_eq]
  by_cases h : s.lane.fabric.localQ.length < 32
  · simp only [if_pos h, State.setTx_txPorts_at, decide_eq_true h]
  · simp only [if_neg h, State.setTx_txPorts_at, decide_eq_false h]

/-- The ports after port p was recomputed: the port itself, its content settled or a change pending (R141); every other
port as it was. -/
theorem recomputePort_at (p q : PortId) (s : State) :
    (recomputePort p s).txPorts[q] =
      if p = q then
        if s.txPorts[p].lastSent = some (portContent s p) then
          { s.txPorts[p] with heldCode := portHeld s p, changePending := false }
        else if s.txPorts[p].count < 3 then
          TxPort.afterOffer .event (portContent s p) (decide (s.lane.fabric.localQ.length < 32))
            { s.txPorts[p] with heldCode := portHeld s p }
        else { s.txPorts[p] with heldCode := portHeld s p, changePending := true }
      else s.txPorts[q] := by
  unfold recomputePort Config.noticeBudget
  dsimp only
  by_cases h1 : s.txPorts[p].lastSent = some (portContent s p)
  · rw [if_pos h1, if_pos h1, State.setTx_txPorts_at]
  · rw [if_neg h1, if_neg h1]
    by_cases h2 : s.txPorts[p].count < 3
    · rw [if_pos h2, if_pos h2, offerNotice_at]
      by_cases h : p = q
      · rw [if_pos h, if_pos h, State.setTx_txPorts_at, if_pos rfl]; rfl
      · rw [if_neg h, if_neg h, State.setTx_txPorts_at, if_neg h]
    · rw [if_neg h2, if_neg h2, State.setTx_txPorts_at]

/-- A recomputation compares the content of the port (R141, R145). -/
theorem recomputePort_compared (p : PortId) (s : State) : portCompared p s (recomputePort p s) := by
  refine ⟨recomputePort_sameBut p s, ?_⟩
  have hf : transmitFrame (s.setTx p { s.txPorts[p] with heldCode := portHeld s p }) p .event (portContent s p) =
      transmitFrame s p .event (portContent s p) := by
    unfold transmitFrame; rw [State.setTx_txPorts_at, if_pos rfl]; rfl
  have hs : ∀ x y : TxPort, ((s.setTx p x).setTx p y).txPorts = s.txPorts.set p y := fun x y => by
    simp [State.setTx, Vector.set_set]
  unfold recomputePort Config.noticeBudget
  dsimp only
  by_cases h1 : s.txPorts[p].lastSent = some (portContent s p)
  · rw [if_pos h1, if_pos h1]; exact ⟨rfl, rfl⟩
  · rw [if_neg h1, if_neg h1]
    by_cases h2 : s.txPorts[p].count < 3
    · rw [if_pos h2]
      unfold offerNotice
      rw [offerFabric_eq, hf]
      by_cases h3 : s.lane.fabric.localQ.length < 32
      · rw [if_pos ⟨h2, h3⟩, if_pos (show (s.setTx p _).lane.fabric.localQ.length < 32 from h3)]
        refine ⟨rfl, (hs _ _).trans ?_⟩
        rw [State.setTx_txPorts_at, if_pos rfl]
        rfl
      · rw [if_neg (fun h => h3 h.2), if_neg (show ¬(s.setTx p _).lane.fabric.localQ.length < 32 from h3)]
        refine ⟨rfl, (hs _ _).trans ?_⟩
        rw [State.setTx_txPorts_at, if_pos rfl]
        unfold TxPort.afterOffer
        rw [if_neg Bool.false_ne_true, decide_eq_true h1]
    · rw [if_neg h2, if_neg (fun h => h2 h.1)]; exact ⟨rfl, rfl⟩

/-! ### Answers -/

/-- The answer to a served request is placed, or waits (R13, R164). -/
theorem answer_answered (r : Request) (o : Served) : Answered r o.status o.body o.state (answer r o) := by
  unfold Answered answer placeAnswer
  rw [offerControl_eq]
  dsimp only
  split <;> rename_i h
  · simp only [↓reduceIte]
    refine ⟨rfl, rfl, rfl, fun p hp => ?_⟩
    cases p <;> simp_all [Part.same, dequeueRequest]
  · simp only [Bool.false_eq_true, ↓reduceIte]
    refine ⟨rfl, fun p hp => ?_⟩
    cases p <;> simp_all [Part.same]

/-- A row that the agent serves, on a request of its own that passes the checks. -/
theorem serveAgent_runs {row : Instr} {r : Request} {s : State} (check : Request → State → Option RefusalAnswer)
    (run : Request → State → Served) (h : Taken row r s) (hc : check r s = none) :
    serveAgent row check run s = answer r (run r s) := by
  obtain ⟨hp, f, rest, hq, hr, ho⟩ := h
  simp [serveAgent, hp, hq, hr, ho, hc]

/-- A row that the agent serves, on a request of its own that a check refuses. -/
theorem serveAgent_refuses {row : Instr} {r : Request} {s : State} (check : Request → State → Option RefusalAnswer)
    (run : Request → State → Served) (q : RefusalAnswer) (h : Taken row r s) (hc : check r s = some q) :
    serveAgent row check run s = answer r ⟨s, q.1, q.2⟩ := by
  obtain ⟨hp, f, rest, hq, hr, ho⟩ := h
  simp [serveAgent, hp, hq, hr, ho, hc]

/-- A row that the engine serves, on a request of its own that a check refuses as it is taken. -/
theorem serveEngine_refuses {row : Instr} {r : Request} {s : State} (check : Request → State → Option RefusalAnswer)
    (run : Request → State → Served) (q : RefusalAnswer) (h : Taken row r s) (hc : check r s = some q) :
    serveEngine row check run s = answer r ⟨s, q.1, q.2⟩ := by
  obtain ⟨hp, f, rest, hq, hr, ho⟩ := h
  simp [serveEngine, hp, hq, hr, ho, hc]

/-- It is the operation's turn when the count has reached E or no evaluation waits (R83). -/
theorem operationTurn_iff (s : State) :
    operationTurn s = true ↔ s.engine.budget ≤ s.engine.count ∨ s.engine.queue = [] := by
  simp [operationTurn, List.isEmpty_iff]

/-- A row that the engine serves, in the operation's turn, on a request of its own that passes the checks (or that
passed them as it was taken). -/
theorem serveEngine_runs {row : Instr} {r : Request} {s : State} (check : Request → State → Option RefusalAnswer)
    (run : Request → State → Served) (h : EngineTaken row r s) (hc : check r s = none) :
    serveEngine row check run s = runOperation run r s := by
  obtain ⟨hp, ⟨f, rest, hq, hr, ho⟩, ht⟩ := h
  have ht := (operationTurn_iff s).2 ht
  rcases hp with hp | hp <;> simp [serveEngine, hp, hq, hr, ho, hc, ht]

/-- A request whose bank nobody else holds passes the semaphore check (R169). -/
theorem guarded_unheld {bank : Fin 5} {r : Request} {s : State} (h : Unheld bank r s) :
    guarded bank none r s = none := by
  rcases h with h | h <;> simp [guarded, otherHolder, h]

/-- A request whose bank another address holds is refused with the holder's address (R169). -/
theorem guarded_held {bank : Fin 5} {r : Request} {s : State} {a : Address} (h : s.agent.sems[bank] = some a)
    (hn : a ≠ r.source) : guarded bank none r s = some (.held, beBytes 2 a.toNat) := by
  simp [guarded, otherHolder, h, hn]

end Sys2Proof.Machine
end

