-- ==== Sys2Proof/Laws/Requests.lean ====
section
/-! SUPPORT. What the operations that serve requests do, each said once. -/

namespace Sys2Proof.Machine

-- One theorem after the other: the joined text would otherwise ask for a thread per waiting proof.
set_option Elab.async false

/-- One hop further on is one more, at most 31 (R131, R132). -/
theorem Hop.succ_val (h : Hop) : (Hop.succ h).val = min 31 (h.val + 1) := by
  unfold Hop.succ; split
  · simp; omega
  · have := h.isLt; simp; omega

/-- An answer is placed while the CONTROL local outbound queue holds fewer than 8 frames; otherwise it waits (R11, R13).
-/
theorem placeAnswer_cases (a : OutFrame) (s : State) :
   if s.lane.control.localQ.length < 8 then
     (placeAnswer a s).lane.control = OutPort.serve s.lane.live
         { s.lane.control with localQ := s.lane.control.localQ ++ [a] } ∧
        (placeAnswer a s).lane.requests = s.lane.requests.tail ∧
        (placeAnswer a s).agent.phase = (if a.isRestartAnswer then .restarting else .ready) ∧
            sameBut answerParts s (placeAnswer a s)
   else (placeAnswer a s).agent.phase = .answerWaiting a ∧ sameBut [.phase] s (placeAnswer a s) := by
  have hfr := placeAnswer_sameBut a s
  split <;> rename_i h
  · have : placeAnswer a s = dequeueRequest (if a.isRestartAnswer then .restarting else .ready)
        { s with
          lane :=
            { s.lane with
              control := OutPort.serve s.lane.live { s.lane.control with localQ := s.lane.control.localQ ++ [a] } } }
                  := by
      unfold placeAnswer; rw [offerControl_eq, if_pos h]; rfl
    rw [this] at hfr ⊢
    exact ⟨rfl, rfl, rfl, hfr⟩
  · have : placeAnswer a s = s.setAgent { s.agent with phase := .answerWaiting a } := by
      unfold placeAnswer; rw [offerControl_eq, if_neg h]; rfl
    rw [this]
    refine ⟨rfl, ?_⟩
    intro p hp; cases p <;> simp_all [Part.same]

/-- A body that passes its checks passes each of them (R166). -/
theorem checkBody_none {a b c : Bool} (h : checkBody a b c = none) : a = true ∧ b = true ∧ c = true := by
  unfold checkBody at h
  cases a <;> cases b <;> cases c <;> simp_all

/-- All that setting a command does: the command, a place in the queue on a change, and nothing else (R93, R97). -/
theorem setCommand_spec (k : ShelfId) (c : Command) (s : State) :
   (setCommand k c s).shelves = s.shelves.set k { s.shelves[k] with command := c } ∧
   queuedBy (fun j => j = k ∧ s.shelves[k].command ≠ c) s (setCommand k c s) ∧
       sameBut [.shelves, .queue] s (setCommand k c s) := by
  unfold setCommand
  by_cases h : c = s.shelves[k].command
  · rw [if_pos h]
    refine ⟨?_, ?_, sameBut.refl _ _⟩
    · subst h
      have : s.shelves.set k s.shelves[k] = s.shelves := by simp
      exact this.symm
    · intro j; simp [h]
  · rw [if_neg h]
    refine ⟨rfl, ?_, (setShelf_sameBut _ _ _).andThen (requestEvaluation_sameBut _ _ _)⟩
    intro j
    have := requestEvaluation_queued k none (s.setShelf k { s.shelves[k] with command := c }) j
    rw [this]
    show j = k ∨ j ∈ s.engine.queue.map _ ↔ (j = k ∧ s.shelves[k].command ≠ c) ∨ j ∈ s.engine.queue.map _
    constructor
    · rintro (h1 | h1)
      · exact Or.inl ⟨h1, Ne.symm h⟩
      · exact Or.inr h1
    · rintro (h1 | h1)
      · exact Or.inl h1.1
      · exact Or.inr h1

/-- All that a change of a lockout does (R98). -/
theorem setLockout_spec (k : ShelfId) (e : EntryId) (on : Bool) (s : State) (h : s.shelves[k].entries[e].lockout ≠ on) :
   (setLockout k e on s).shelves = s.shelves.set k { s.shelves[k] with
                  entries := s.shelves[k].entries.set e { s.shelves[k].entries[e] with lockout := on }
                  command :=
                    if s.shelves[k].command = .force e ∨ s.shelves[k].command = .manual e then .none
                    else s.shelves[k].command } ∧
   queuedBy (fun j => j = k) s (setLockout k e on s) ∧
       sameBut [.shelves, .queue, .latches, .conditions, .noticeState, .control] s (setLockout k e on s) := by
  unfold setLockout
  dsimp only
  rw [if_neg h]
  refine ⟨?_, ?_, ?_⟩
  · rw [requestEvaluation_sameBut _ _ _ .shelves (by decide), raiseListChange_sameBut _ _ .shelves (by decide)]
    rfl
  · intro j; rw [requestEvaluation_queued k none _ j, raiseListChange_sameBut _ _ .queue (by decide)]
    rfl
  · exact ((setShelf_sameBut _ _ _).andThen (raiseListChange_sameBut _ _)
        (rs := [.shelves, .queue, .latches, .conditions, .noticeState, .control])).andThen
        (requestEvaluation_sameBut _ _ _) (hp := fun _ h => h)

/-- After a change of a lockout the GROUP copy of the shelf is up to date (R154). -/
theorem setLockout_group (k : ShelfId) (e : EntryId) (on : Bool) (s : State)
    (h : s.shelves[k].entries[e].lockout ≠ on) :
    (setLockout k e on s).events.copies[condGroup k] = groupPresent (setLockout k e on s) k := by
  unfold setLockout
  dsimp only
  rw [if_neg h]
  have hq := requestEvaluation_sameBut k none (raiseListChange k (s.setShelf k
    { s.shelves[k] with
      entries := s.shelves[k].entries.set e { s.shelves[k].entries[e] with lockout := on }
      command := if s.shelves[k].command = .force e ∨ s.shelves[k].command = .manual e then .none
        else s.shelves[k].command }))
  have hl := raiseListChange_sameBut k (s.setShelf k
    { s.shelves[k] with
      entries := s.shelves[k].entries.set e { s.shelves[k].entries[e] with lockout := on }
      command := if s.shelves[k].command = .force e ∨ s.shelves[k].command = .manual e then .none
        else s.shelves[k].command })
  have hc : ∀ {a b : State}, sameBut [.queue] a b → b.events.copies = a.events.copies :=
      fun h => h .conditions (by decide)
  simp only [hc hq, raiseListChange_group]
  refine (groupPresent_congr k ?_ ?_).symm
  · have := (hl.andThen hq (rs := [.latches, .conditions, .noticeState, .control, .queue])) .shelves (by decide)
    exact congrArg (fun v : Vector Shelf 16 => v[k].entries) this
  · exact (hl.andThen hq (rs := [.latches, .conditions, .noticeState, .control, .queue])) .cands (by decide)

/-- All that clearing the marks of one shelf does (R100). -/
theorem clearMarks_spec (k : ShelfId) (s : State) :
   (clearMarks k s).shelves = s.shelves.set k { s.shelves[k] with failed := Vector.replicate 24 false } ∧
   queuedBy (fun j => j = k ∧ ∃ n : Slot, s.shelves[k].failed[n] = true) s (clearMarks k s) ∧
       sameBut [.shelves, .queue] s (clearMarks k s) := by
  unfold clearMarks
  by_cases h : ((List.finRange 24).any fun n => s.shelves[k].failed[n]) = true
  · rw [if_pos h]
    have h' : ∃ n : Slot, s.shelves[k].failed[n] = true := by simpa using h
    refine ⟨rfl, ?_, (setShelf_sameBut _ _ _).andThen (requestEvaluation_sameBut _ _ _)⟩
    intro j
    have := requestEvaluation_queued k none (s.setShelf k { s.shelves[k] with failed := Vector.replicate 24 false }) j
    rw [this]
    exact ⟨fun h => h.imp (fun h1 => ⟨h1, h'⟩) id, fun h => h.imp And.left id⟩
  · rw [if_neg h]
    have h' : ¬ ∃ n : Slot, s.shelves[k].failed[n] = true := by simpa using h
    have hv : s.shelves[k].failed = Vector.replicate 24 false := by
      ext i hi
      have := fun hh => h' ⟨⟨i, hi⟩, hh⟩
      simpa using this
    refine ⟨?_, fun j => ?_, sameBut.refl _ _⟩
    · have : s.shelves.set k s.shelves[k] = s.shelves := by simp
      rw [← hv]; exact this.symm
    · exact ⟨Or.inr, fun h => h.elim (fun h1 => absurd h1.2 h') id⟩

/-- A number of k bytes lies below 256 to the power k (Chapter 10). -/
theorem numAt_lt (b : List Byte) (i k : Nat) : numAt b i k < 256 ^ k := by
  have key : ∀ l : List Byte, beNat l < 256 ^ l.length := by
    intro l
    unfold beNat
    induction l using List.reverseRecOn with
    | nil => simp
    | append_singleton l b ih =>
      simp only [List.foldl_append, List.foldl_cons, List.foldl_nil, List.length_append, List.length_singleton,
        Nat.pow_succ]
      have := b.isLt
      omega
  exact Nat.lt_of_lt_of_le (key _) (Nat.pow_le_pow_right (by decide) (by simp))

/-- A walk over the masked shelves gives each of them what its own work gives it, and an unmasked shelf what it had. -/
theorem overMask_at {β : Type} (m : BitVec 16) (f : ShelfId → State → State) (get : ShelfId → State → β)
    (I : State → Prop)
    (Q : ShelfId → State → Prop) (s : State) (hI : ∀ i t, I t → I (f i t))
    (hget : ∀ i j t, I t → i ≠ j → get j (f i t) = get j t)
    (hself : ∀ i t, I t → m.getLsbD i.val = true → get i t = get i s → Q i (f i t))
    (hskip : ∀ i t, I t → m.getLsbD i.val = false → get i t = get i s → Q i t)
    (hother : ∀ i j t, I t → i ≠ j → Q j t → Q j (f i t)) (hs : I s) (j : ShelfId) : Q j (overMask m f s) := by
  refine overShelves_at (fun k t => if m.getLsbD k.val then f k t else t) get I Q s ?_ ?_ ?_ ?_ hs j
  · intro i t h; split; exact hI i t h; exact h
  · intro i j t h hij; split; exact hget i j t h hij; rfl
  · intro i t h hg
    by_cases hm : m.getLsbD i.val = true
    · rw [if_pos hm]; exact hself i t h hm hg
    · rw [if_neg hm]; exact hskip i t h (by simpa using hm) hg
  · intro i j t h hij hq; split; exact hother i j t h hij hq; exact hq

/-- One acknowledgement, latch by latch (R156, R157). -/
theorem EventUnit.ack_latches (l m : LatchId) (e : EventUnit) : (e.ack l).latches[m] = if m = l ∧ e.latches[l] = .set
    then (if e.isLevel l && e.present l then .ackedWaiting else .clear) else e.latches[m] := by
  unfold EventUnit.ack
  by_cases h : e.latches[l] = .set
  · rw [if_pos h, getElem_set_fin]
    by_cases hm : l = m
    · rw [if_pos hm, if_pos (And.intro hm.symm h)]
    · rw [if_neg hm, if_neg fun hh => hm hh.1.symm]
  · rw [if_neg h, if_neg fun hh => h hh.2]

/-- An acknowledgement changes latches only. -/
theorem EventUnit.ack_keeps (l : LatchId) (e : EventUnit) : (e.ack l) = { e with latches := (e.ack l).latches } := by
  unfold EventUnit.ack; split <;> rfl

/-- Acknowledgements one after the other, latch by latch (R158). -/
theorem foldl_ack (ls : List LatchId) (e : EventUnit) : (ls.foldl (fun e l => e.ack l) e) =
    { e with latches := (ls.foldl (fun e l => e.ack l) e).latches } ∧
   ∀ m, (ls.foldl (fun e l => e.ack l) e).latches[m] = if m ∈ ls ∧ e.latches[m] = .set
       then (if e.isLevel m && e.present m then .ackedWaiting else .clear) else e.latches[m] := by
  induction ls generalizing e with
  | nil => exact ⟨rfl, fun m => by simp⟩
  | cons l ls ih =>
    obtain ⟨h1, h2⟩ := ih (e.ack l)
    rw [List.foldl_cons]
    have hk := EventUnit.ack_keeps l e
    refine ⟨?_, fun m => ?_⟩
    · rw [h1, hk]
    · rw [h2]
      have hlv : (e.ack l).isLevel m = e.isLevel m := by rw [hk]; rfl
      have hpr : (e.ack l).present m = e.present m := by rw [hk]; rfl
      rw [hlv, hpr, EventUnit.ack_latches]
      have hms : m ∈ l :: ls ↔ m = l ∨ m ∈ ls := List.mem_cons
      by_cases hm : m = l
      · subst hm
        by_cases hs : e.latches[m] = .set
        · simp only [hs, and_self, if_true]
          by_cases hc : (e.isLevel m && e.present m) = true <;> simp [hc]
        · simp only [hs, and_false, if_false]
      · have : m ∈ l :: ls ↔ m ∈ ls := by simp [hm]
        simp only [this, hm, false_and, if_false]

/-- All that withdrawing a target does (R102, R104). -/
theorem withdrawTarget_spec (k : ShelfId) (s : State) :
   (withdrawTarget k s).shelves = s.shelves.set k { s.shelves[k] with target := none } ∧
   sameBut [.shelves, .queue, .latches, .noticeState, .control] s (withdrawTarget k s) ∧
   (∀ j ∈ s.engine.queue.map EvalEntry.shelf, j ∈ (withdrawTarget k s).engine.queue.map EvalEntry.shelf) := by
  unfold withdrawTarget
  cases h : s.shelves[k].target with
  | none =>
    dsimp only
    refine ⟨?_, sameBut.refl _ _, fun _ hj => hj⟩
    rw [← h]
    have hx : s.shelves.set k s.shelves[k] = s.shelves := by simp
    exact hx.symm
  | some x =>
    dsimp only
    refine ⟨?_, ?_, fun j hj => ?_⟩
    · rw [requestCascade_sameBut _ _ .shelves (by decide), raiseEdge_sameBut _ _ .shelves (by decide)]; rfl
    · exact ((setShelf_sameBut _ _ _).andThen (raiseEdge_sameBut _ _)
          (rs := [.shelves, .queue, .latches, .noticeState, .control])).andThen (requestCascade_sameBut _ _)
          (hp := fun _ h => h)
    · unfold requestCascade
      refine (requestWhere_queued _ _ j).2 (Or.inr ?_)
      rw [raiseEdge_sameBut _ _ .queue (by decide)]; exact hj

/-- The closing of a slice event changes of the slices only the triple of its own (R110, R136). -/
theorem closeSlice_triple_at (k j : ShelfId) (old : Slice) (s : State) :
    (closeSlice k old s).slices[j] = if k = j then
        { s.slices[k] with triple := (closeSlice k old s).slices[k].triple } else s.slices[j] := by
  by_cases h : k = j
  · subst h
    rw [if_pos rfl, closeSlice_at]
    split <;> rfl
  · rw [if_neg h, closeSlice_at, if_neg fun hh => h hh.1]

/-- PARK of one shelf: both halves (R102, R125). -/
def parkBoth (k : ShelfId) (t : State) : State := parkSlice k (parkEngine k t)

/-- PARK of a parked shelf does nothing. -/
theorem parkBoth_parked (k : ShelfId) (t : State) (h : t.slices[k].timing = .parked) : parkBoth k t = t := by
  unfold parkBoth parkEngine parkSlice; rw [if_pos h]; dsimp only; rw [if_pos h]

/-- All that PARK of an unparked shelf does. -/
theorem parkBoth_spec (k : ShelfId) (s : State) (h : s.slices[k].timing ≠ .parked) :
   (∀ j : ShelfId, (parkBoth k s).slices[j] =
      if k = j then
        { s.slices[k].stopTimers with
          timing := .parked
          target := none
          reportTimer := none
          unreachable := false
          unsent := false
          triple := (parkBoth k s).slices[k].triple }
      else s.slices[j]) ∧
   (parkBoth k s).shelves = s.shelves.set k { s.shelves[k] with target := none } ∧
   sameBut [.shelves, .queue, .slices, .latches, .conditions, .noticeState, .control, .tripleHandovers,
       .noticeHandovers] s (parkBoth k s) := by
  obtain ⟨s1, hs1⟩ : ∃ s1, s1 = withdrawTarget k s := ⟨_, rfl⟩
  have hw := withdrawTarget_spec k s
  rw [← hs1] at hw
  have hsl : s1.slices = s.slices := hw.2.1 .slices (by decide)
  obtain ⟨v, hv⟩ : ∃ v : Slice, v =
      { s.slices[k].stopTimers with
        timing := .parked, target := none, reportTimer := none, unreachable := false, unsent := false } := ⟨_, rfl⟩
  have hd : parkBoth k s = closeSlice k s.slices[k] (s1.setSlice k v) := by
    unfold parkBoth parkEngine; rw [if_neg h, ← hs1]; unfold parkSlice; simp only [hsl]; rw [if_neg h, hv]
  have hc := closeSlice_keeps k s.slices[k] (s1.setSlice k v)
  rw [hd]
  refine ⟨fun j => ?_, ?_, ?_⟩
  · rw [closeSlice_triple_at]
    by_cases hj : k = j
    · rw [if_pos hj, if_pos hj, State.setSlice_slices_at, if_pos rfl, hv]
    · rw [if_neg hj, if_neg hj, State.setSlice_slices_at, if_neg hj]; simp only [hsl]
  · rw [hc .shelves (by decide)]; exact hw.1
  · exact (hw.2.1.andThen (setSlice_sameBut _ _ _)
        (rs := [.shelves, .queue, .slices, .latches, .conditions, .noticeState, .control, .tripleHandovers,
        .noticeHandovers])).andThen hc (hp := fun _ h => h)

/-- UNPARK of an unparked shelf does nothing. -/
theorem unparkSlice_unparked (k : ShelfId) (t : State) (h : t.slices[k].timing ≠ .parked) : unparkSlice k t = t := by
  unfold unparkSlice; dsimp only; rw [if_neg h]

/-- A slice after a new Directive and the closing of its event. -/
theorem closeDirective_at (k j : ShelfId) (a : Action) (v old : Slice) (s : State) :
   (closeSlice k old (newDirective k a (s.setSlice k v))).slices[j] =
      if k = j then
        { v with
          seq := v.seq + 1
          action := a
          unsent := decide (32 ≤ s.lane.fabric.localQ.length)
          triple := (closeSlice k old (newDirective k a (s.setSlice k v))).slices[k].triple }
      else s.slices[j] := by
  rw [closeSlice_triple_at]
  by_cases hj : k = j
  · rw [if_pos hj, if_pos hj, newDirective_at, if_pos rfl, State.setSlice_slices_at, if_pos rfl]; rfl
  · rw [if_neg hj, if_neg hj, newDirective_at, if_neg hj, State.setSlice_slices_at, if_neg hj]

/-- All that UNPARK of a parked shelf does (R126). -/
theorem unparkSlice_spec (k : ShelfId) (s : State) (h : s.slices[k].timing = .parked) :
   (∀ j : ShelfId, (unparkSlice k s).slices[j] =
      if k = j then
        { s.slices[k] with
          timing := .freerun
          unreachable := false
          reportTimer := some (s.osc + s.slices[k].cfg.reportS * 125000000)
          seq := s.slices[k].seq + 1
          action := .hold
          unsent := (unparkSlice k s).slices[k].unsent
          triple := (unparkSlice k s).slices[k].triple }
      else s.slices[j]) ∧
   (∀ j, j ∈ (unparkSlice k s).engine.queue.map EvalEntry.shelf ↔ j = k ∨ j ∈ s.engine.queue.map EvalEntry.shelf) ∧
   sameBut (.queue :: sliceParts) s (unparkSlice k s) := by
  obtain ⟨v, hv⟩ : ∃ v : Slice, v =
      { s.slices[k] with
        timing := .freerun, unreachable := false, reportTimer := startMs s.osc (s.slices[k].cfg.reportS * 1000) } :=
    ⟨_, rfl⟩
  have hd : unparkSlice k s = requestEvaluation k none
      (closeSlice k s.slices[k] (newDirective k .hold (s.setSlice k v))) := by
    unfold unparkSlice; dsimp only; rw [if_pos h, hv]
  have h1 : sameBut sliceParts s (closeSlice k s.slices[k] (newDirective k .hold (s.setSlice k v))) :=
      ((setSlice_sameBut _ _ _).andThen (newDirective_sameBut _ _ _) (rs := sliceParts)).trans
      (closeSlice_sameBut _ _ _)
  have h2 := requestEvaluation_sameBut k none (closeSlice k s.slices[k] (newDirective k .hold (s.setSlice k v)))
  have hq := requestEvaluation_queued k none (closeSlice k s.slices[k] (newDirective k .hold (s.setSlice k v)))
  have hat := fun j => closeDirective_at k j .hold v s.slices[k] s
  rw [← hd] at h2 hq
  have hs2 : (unparkSlice k s).slices = _ := h2 .slices (by decide)
  refine ⟨fun j => ?_, fun j => ?_, h1.andThen h2⟩
  · simp only [hs2]
    rw [hat j]
    by_cases hj : k = j
    · rw [if_pos hj, if_pos hj, hat k, if_pos rfl, hv, startMs_s]
    · rw [if_neg hj, if_neg hj]
  · rw [hq j, h1 .queue (by decide)]

/-- RESET of one shelf: both halves (R104, R127). -/
def resetBoth (k : ShelfId) (t : State) : State := resetSliceHalf k (resetEngineHalf k t)

/-- All that RESET of one shelf does. -/
theorem resetBoth_spec (k : ShelfId) (s : State) :
   (∀ j : ShelfId, j ≠ k → (resetBoth k s).slices[j] = s.slices[j]) ∧
   (resetBoth k s).slices[k].history = false ∧ (resetBoth k s).slices[k].lastReport = none ∧
   (s.slices[k].timing = .parked → (resetBoth k s).slices[k].timing = .parked ∧
       (resetBoth k s).slices[k].seq = s.slices[k].seq) ∧
   (s.slices[k].timing ≠ .parked → (resetBoth k s).slices[k].timing = .freerun ∧
       (resetBoth k s).slices[k].target = none ∧ (resetBoth k s).slices[k].seq = s.slices[k].seq + 1 ∧
                (resetBoth k s).slices[k].action = .hold ∧ (resetBoth k s).slices[k].unreachable = false ∧
                (resetBoth k s).slices[k].reportTimer = some (s.osc + s.slices[k].cfg.reportS * 125000000)) ∧
   (resetBoth k s).shelves = s.shelves.set k
       { s.shelves[k] with command := .none, failed := Vector.replicate 24 false, target := none } ∧
   (∀ j, j = k ∨ j ∈ s.engine.queue.map EvalEntry.shelf → j ∈ (resetBoth k s).engine.queue.map EvalEntry.shelf) ∧
   sameBut (.shelves :: .queue :: sliceParts) s (resetBoth k s) := by
  obtain ⟨s1, hs1⟩ : ∃ s1, s1 = resetEngineHalf k s := ⟨_, rfl⟩
  have hw := withdrawTarget_spec k s
  have h1s : s1.shelves = s.shelves.set k
      { s.shelves[k] with command := .none, failed := Vector.replicate 24 false, target := none } := by
    rw [hs1]; unfold resetEngineHalf; simp only [State.setShelf_shelves, hw.1, getElem_set_fin, if_pos]; simp
  have h1 : sameBut [.shelves, .queue, .latches, .noticeState, .control] s s1 := by
    rw [hs1]; exact hw.2.1.trans (setShelf_sameBut _ _ _).mono
  have h1q : ∀ j ∈ s.engine.queue.map EvalEntry.shelf, j ∈ s1.engine.queue.map EvalEntry.shelf := by
      rw [hs1]; exact hw.2.2
  have hsl : s1.slices = s.slices := h1 .slices (by decide)
  have hosc : s1.osc = s.osc := h1 .osc (by decide)
  obtain ⟨s2, hs2⟩ : ∃ s2, s2 = if s.slices[k].timing = .parked
      then closeSlice k s.slices[k] (s1.setSlice k { s.slices[k] with history := false, lastReport := none }) else
     closeSlice k s.slices[k] (newDirective k .hold (s1.setSlice k { s.slices[k].stopTimers with
        timing := .freerun
        target := none
        reportTimer := startMs s.osc (s.slices[k].cfg.reportS * 1000)
        history := false
        unreachable := false
        lastReport := none })) := ⟨_, rfl⟩
  have hd : resetBoth k s = requestEvaluation k none s2 := by
    unfold resetBoth; rw [← hs1]; unfold resetSliceHalf; simp only [hsl, hosc]; rw [hs2]
    split <;> rfl
  have h2 : sameBut sliceParts s1 s2 := by
    rw [hs2]
    exact ((setSlice_sameBut _ _ _).andThen (closeSlice_sameBut _ _ _)).ite
        (((setSlice_sameBut _ _ _).andThen (newDirective_sameBut _ _ _) (rs := sliceParts)).trans
        (closeSlice_sameBut _ _ _))
  have h3 := requestEvaluation_sameBut k none s2
  have hq := requestEvaluation_queued k none s2
  rw [← hd] at h3 hq
  have hs3 : (resetBoth k s).slices = s2.slices := h3 .slices (by decide)
  have hat : ∀ j : ShelfId, s2.slices[j] = if k = j then (if s.slices[k].timing = .parked then
      { s.slices[k] with history := false, lastReport := none, triple := s2.slices[k].triple } else
      { s.slices[k].stopTimers with
        timing := .freerun
        target := none
        reportTimer := some (s.osc + s.slices[k].cfg.reportS * 125000000)
        history := false
        unreachable := false
        lastReport := none, seq := s.slices[k].seq + 1, action := .hold, unsent := s2.slices[k].unsent, triple :=
            s2.slices[k].triple }) else s.slices[j] := by
    intro j
    rw [hs2]
    by_cases hp : s.slices[k].timing = .parked
    · rw [if_pos hp, closeSlice_triple_at]
      by_cases hj : k = j
      · rw [if_pos hj, if_pos hj, if_pos hp, State.setSlice_slices_at, if_pos rfl]
      · rw [if_neg hj, if_neg hj, State.setSlice_slices_at, if_neg hj]; simp only [hsl]
    · rw [if_neg hp, closeDirective_at]
      by_cases hj : k = j
      · rw [if_pos hj, if_pos hj, if_neg hp, closeDirective_at, if_pos rfl, startMs_s]; rfl
      · rw [if_neg hj, if_neg hj]; simp only [hsl]
  have hk := hat k
  rw [if_pos rfl] at hk
  simp only [hs3]
  refine ⟨fun j hj => ?_, ?_, ?_, fun hp => ?_, fun hp => ?_, ?_, fun j hj => ?_, ?_⟩
  · rw [hat, if_neg (Ne.symm hj)]
  · rw [hk]; split <;> rfl
  · rw [hk]; split <;> rfl
  · rw [hk, if_pos hp]; exact ⟨hp, rfl⟩
  · rw [hk, if_neg hp]; exact ⟨rfl, rfl, rfl, rfl, rfl, rfl⟩
  · rw [h3 .shelves (by decide), h2 .shelves (by decide), h1s]
  · refine (hq j).2 (hj.imp id fun hj => ?_)
    rw [h2 .queue (by decide)]; exact h1q j hj
  · exact (h1.andThen h2 (rs := .shelves :: .queue :: sliceParts)).andThen h3 (hp := fun _ h => h)

/-- A new HOLD Directive, sent before a slice event closes, is offered to the FABRIC port (R111). -/
theorem closeDirective_fabric (k : ShelfId) (v old : Slice) (s : State) (hv : v.cfg = s.slices[k].cfg)
    (hq : v.seq = s.slices[k].seq) :
   (closeSlice k old (newDirective k .hold (s.setSlice k v))).lane.fabric = offeredInOrder s.lane.live
       [directiveTo s k (s.slices[k].seq + 1) none] s.lane.fabric := by
  rw [closeSlice_keeps _ _ _ .fabric (by decide), newDirective_fabric k .hold none _ rfl, State.setSlice_slices_at,
      if_pos rfl, hq]
  have : directiveTo (s.setSlice k v) k (s.slices[k].seq + 1) none = directiveTo s k (s.slices[k].seq + 1) none := by
    unfold directiveTo; rw [State.setSlice_slices_at, if_pos rfl, hv]; rfl
  rw [this]; rfl

/-- UNPARK of a parked shelf offers its Directive, and marks a refused one unsent (R111, R126). -/
theorem unparkSlice_sends (k : ShelfId) (s : State) (h : s.slices[k].timing = .parked) :
   (unparkSlice k s).lane.fabric = offeredInOrder s.lane.live [directiveTo s k (s.slices[k].seq + 1) none]
       s.lane.fabric ∧
   (unparkSlice k s).slices[k].unsent = decide (32 ≤ s.lane.fabric.localQ.length) := by
  obtain ⟨v, hv⟩ : ∃ v : Slice, v =
      { s.slices[k] with
        timing := .freerun, unreachable := false, reportTimer := startMs s.osc (s.slices[k].cfg.reportS * 1000) } :=
    ⟨_, rfl⟩
  have hd : unparkSlice k s = requestEvaluation k none
      (closeSlice k s.slices[k] (newDirective k .hold (s.setSlice k v))) := by
    unfold unparkSlice; dsimp only; rw [if_pos h, hv]
  have h2 := requestEvaluation_sameBut k none (closeSlice k s.slices[k] (newDirective k .hold (s.setSlice k v)))
  have hat := closeDirective_at k k .hold v s.slices[k] s
  rw [if_pos rfl] at hat
  rw [← hd] at h2
  have hs2 : (unparkSlice k s).slices = _ := h2 .slices (by decide)
  refine ⟨?_, ?_⟩
  · rw [h2 .fabric (by decide), closeDirective_fabric k v _ s (by rw [hv]) (by rw [hv])]
  · simp only [hs2]; rw [hat]

/-- RESET of a shelf offers its Directive unless the slice is PARKED, and marks a refused one unsent (R111, R127). -/
theorem resetBoth_sends (k : ShelfId) (s : State) :
   (s.slices[k].timing ≠ .parked → (resetBoth k s).lane.fabric = offeredInOrder s.lane.live
       [directiveTo s k (s.slices[k].seq + 1) none] s.lane.fabric ∧
     (resetBoth k s).slices[k].unsent = decide (32 ≤ s.lane.fabric.localQ.length)) ∧
   (s.slices[k].timing = .parked → (resetBoth k s).lane.fabric = s.lane.fabric) := by
  obtain ⟨s1, hs1⟩ : ∃ s1, s1 = resetEngineHalf k s := ⟨_, rfl⟩
  have hw := withdrawTarget_spec k s
  have h1 : sameBut [.shelves, .queue, .latches, .noticeState, .control] s s1 := by
    rw [hs1]; exact hw.2.1.trans (setShelf_sameBut _ _ _).mono
  have hsl : s1.slices = s.slices := h1 .slices (by decide)
  have hosc : s1.osc = s.osc := h1 .osc (by decide)
  have hfa : s1.lane.fabric = s.lane.fabric := h1 .fabric (by decide)
  have hli : s1.lane.live = s.lane.live := by unfold Lane.live; rw [show _ = _ from h1 .resetLevel (by decide)]
  have hst : s1.lane.strap = s.lane.strap := h1 .strap (by decide)
  refine ⟨fun hp => ?_, fun hp => ?_⟩
  · obtain ⟨v, hv⟩ : ∃ v : Slice, v = { s.slices[k].stopTimers with
        timing := .freerun
        target := none
        reportTimer := startMs s.osc (s.slices[k].cfg.reportS * 1000)
        history := false
        unreachable := false
        lastReport := none } := ⟨_, rfl⟩
    have hd : resetBoth k s = requestEvaluation k none
        (closeSlice k s.slices[k] (newDirective k .hold (s1.setSlice k v))) := by
      unfold resetBoth; rw [← hs1]; unfold resetSliceHalf; simp only [hsl, hosc]; rw [if_neg hp, hv]
    have h3 := requestEvaluation_sameBut k none (closeSlice k s.slices[k] (newDirective k .hold (s1.setSlice k v)))
    rw [← hd] at h3
    have hat := closeDirective_at k k .hold v s.slices[k] s1
    rw [if_pos rfl] at hat
    have hs3 : (resetBoth k s).slices = _ := h3 .slices (by decide)
    have hdt : directiveTo s1 k (s.slices[k].seq + 1) none = directiveTo s k (s.slices[k].seq + 1) none := by
      unfold directiveTo; simp only [hsl, hst]
    refine ⟨?_, ?_⟩
    · rw [h3 .fabric (by decide), closeDirective_fabric k v _ s1 (by rw [hv]; simp only [hsl]; rfl)
          (by rw [hv]; simp only [hsl]; rfl)]
      simp only [hsl, hfa, hli, hdt]
    · simp only [hs3]; rw [hat, hfa]
  · have hd : resetBoth k s = requestEvaluation k none
        (closeSlice k s.slices[k] (s1.setSlice k { s.slices[k] with history := false, lastReport := none })) := by
      unfold resetBoth; rw [← hs1]; unfold resetSliceHalf; simp only [hsl, hosc]; rw [if_pos hp]
    rw [hd, requestEvaluation_sameBut _ _ _ .fabric (by decide), closeSlice_keeps _ _ _ .fabric (by decide)]
    exact hfa

/-- A walk over the masked shelves offers the Directives of those that send, in increasing shelf number, and each that
is refused is marked unsent (R111, R174). -/
theorem overMask_sends (mask : BitVec 16) (F : ShelfId → State → State) (sends : ShelfId → Bool) (s : State)
   (hframe : ∀ k t, sameBut (.queue :: .shelves :: sliceParts) t (F k t))
   (hother : ∀ i j t, i ≠ j → (F i t).slices[j] = t.slices[j])
   (hs : ∀ k (t : State), t.slices[k] = s.slices[k] → sends k = true →
      (F k t).lane.fabric = offeredInOrder t.lane.live [directiveTo t k (t.slices[k].seq + 1) none] t.lane.fabric ∧
          (F k t).slices[k].unsent = decide (32 ≤ t.lane.fabric.localQ.length))
   (hn : ∀ k (t : State), t.slices[k] = s.slices[k] → sends k = false → (F k t).lane.fabric = t.lane.fabric) :
   let chosen := (List.finRange 16).filter fun k => mask.getLsbD k.val && sends k
   let directives : List ShelfId → List OutFrame := fun ks => ks.map fun k => directiveTo s k (s.slices[k].seq + 1) none
   (overMask mask F s).lane.fabric = offeredInOrder s.lane.live (directives chosen) s.lane.fabric ∧
   ∀ k : ShelfId, mask.getLsbD k.val = true → sends k = true →
       (overMask mask F s).slices[k].unsent = decide
       (32 ≤ (offeredInOrder s.lane.live (directives (chosen.filter fun j => decide (j < k)))
       s.lane.fabric).localQ.length) := by
  intro chosen directives
  have hone : ∀ k (t : State), (t.slices[k] = s.slices[k] ∧ t.lane.strap = s.lane.strap ∧ t.lane.live = s.lane.live) →
      directiveTo t k (t.slices[k].seq + 1) none = directiveTo s k (s.slices[k].seq + 1) none := by
    intro k t ⟨h1, h2, _⟩; unfold directiveTo; rw [h1, h2]
  have hlive : ∀ k t, (F k t).lane.live = t.lane.live :=
      fun k t => by unfold Lane.live; rw [show _ = _ from hframe k t .resetLevel (by decide)]
  have hmain := overShelves_offers s.lane.live (fun k t => if mask.getLsbD k.val then F k t else t)
    (fun k => if mask.getLsbD k.val && sends k then [directiveTo s k (s.slices[k].seq + 1) none] else [])
    (fun k t => t.slices[k] = s.slices[k] ∧ t.lane.strap = s.lane.strap ∧ t.lane.live = s.lane.live)
    (fun k u => mask.getLsbD k.val = true → sends k = true →
        u.slices[k].unsent = decide (32 ≤
        (offeredInOrder s.lane.live (directives (chosen.filter fun j => decide (j < k)))
        s.lane.fabric).localQ.length)) s ?_ ?_ ?_ ?_ (fun k => ⟨rfl, rfl, rfl⟩)
  · refine ⟨?_, hmain.2⟩
    have := hmain.1
    rw [flatMap_filter] at this
    exact this
  · intro i t hI
    by_cases hb : mask.getLsbD i.val = true
    · rw [if_pos hb, hb, Bool.true_and]
      by_cases hsd : sends i = true
      · rw [if_pos hsd, (hs i t hI.1 hsd).1, hone i t hI, hI.2.2]
      · rw [if_neg hsd, hn i t hI.1 (by simpa using hsd)]; rfl
    · rw [if_neg hb, if_neg (by rw [Bool.and_eq_true]; exact fun h => hb h.1)]; rfl
  · intro i j t hij hi hj
    split
    · exact ⟨(hother i j t hij).trans hj.1, (hframe i t .strap (by decide)).trans hj.2.1, (hlive i t).trans hj.2.2⟩
    · exact hj
  · intro k t hI hf hb hsd
    rw [if_pos hb, (hs k t hI.1 hsd).2, hf, flatMap_filter]
    have : chosen.filter (fun j => decide (j < k)) = ((List.finRange 16).filter fun j => decide (j < k)).filter fun k
        => mask.getLsbD k.val && sends k := by
      simp only [chosen, List.filter_filter]
      congr 1; funext x; exact Bool.and_comm _ _
    rw [this]
  · intro i j t hij hq hb hsd
    split
    · rw [hother i j t hij]; exact hq hb hsd
    · exact hq hb hsd

end Sys2Proof.Machine
end

