-- ==== Sys2Proof/Laws/Writes.lean ====
section
/-! SUPPORT. What the writes of tables and maps do, each said once. -/

namespace Sys2Proof.Machine

-- One theorem after the other: the joined text would otherwise ask for a thread per waiting proof.
set_option Elab.async false

/-- A recomputation keeps the settings of a port. -/
theorem recomputePort_settings (p : PortId) (s : State) : (recomputePort p s).txPorts[p].inUse = s.txPorts[p].inUse ∧
    (recomputePort p s).txPorts[p].bound = s.txPorts[p].bound ∧
   (recomputePort p s).txPorts[p].address = s.txPorts[p].address ∧
       (recomputePort p s).txPorts[p].tmap = s.txPorts[p].tmap ∧
       (recomputePort p s).txPorts[p].squelch = s.txPorts[p].squelch ∧
   (recomputePort p s).txPorts[p].fill = s.txPorts[p].fill ∧
       (recomputePort p s).txPorts[p].intervalS = s.txPorts[p].intervalS ∧
       (recomputePort p s).txPorts[p].pathOn = s.txPorts[p].pathOn := by
  rw [recomputePort_at, if_pos rfl]
  split
  · exact ⟨rfl, rfl, rfl, rfl, rfl, rfl, rfl, rfl⟩
  · split
    · unfold TxPort.afterOffer; split <;> exact ⟨rfl, rfl, rfl, rfl, rfl, rfl, rfl, rfl⟩
    · exact ⟨rfl, rfl, rfl, rfl, rfl, rfl, rfl, rfl⟩

/-- Use and map of every port are those of s, and only ports and FABRIC port differ. -/
def portsKept (s t : State) : Prop :=
  sameBut [.txPorts, .fabric] s t ∧
    ∀ q : PortId, t.txPorts[q].inUse = s.txPorts[q].inUse ∧ t.txPorts[q].tmap = s.txPorts[q].tmap

theorem portsKept.recompute {s t : State} (p : PortId) (h : portsKept s t) : portsKept s (recomputePort p t) := by
  refine ⟨h.1.trans (recomputePort_sameBut p t), fun q => ?_⟩
  by_cases hq : p = q
  · subst hq
    have hs := recomputePort_settings p t
    exact ⟨hs.1.trans (h.2 p).1, hs.2.2.2.1.trans (h.2 p).2⟩
  · rw [recomputePort_at, if_neg hq]; exact h.2 q

/-- A walk that recomputes the picked ports compares each of them in order, and leaves the others. -/
theorem overPorts_recompute (c : PortId → State → Bool) (s : State) (hc : ∀ p t, portsKept s t → c p t = c p s) :
   let u := overPorts (fun p t => if c p t then recomputePort p t else t) s
   sameBut [.txPorts, .fabric] s u ∧ inOrder portCompared ((List.finRange 256).filter fun p => c p s) s u ∧
     ∀ p : PortId, c p s = false → u.txPorts[p] = s.txPorts[p] := by
  intro u
  have h := foldl_inOrder recomputePort c portCompared (portsKept s) s (fun p t ht _ => ht.recompute p) hc
    (fun p t _ => recomputePort_compared p t) (List.finRange 256) s ⟨sameBut.refl _ _, fun _ => ⟨rfl, rfl⟩⟩
  refine ⟨h.2.1, h.1, fun p hp => ?_⟩
  refine overPorts_at (fun p t => if c p t then recomputePort p t else t) (fun p t => t.txPorts[p]) (portsKept s)
    (fun p u => c p s = false → u.txPorts[p] = s.txPorts[p]) s ?_ ?_ ?_ ?_ ⟨sameBut.refl _ _, fun _ => ⟨rfl, rfl⟩⟩ p hp
  · intro i t ht; split
    · exact ht.recompute i
    · exact ht
  · intro i j t _ hij; split
    · rw [recomputePort_at, if_neg hij]
    · rfl
  · intro i t ht hg h; rw [hc i t ht, h]; exact hg
  · intro i j t _ hij hq h; split
    · rw [recomputePort_at, if_neg hij]; exact hq h
    · exact hq h

/-- A window start at a port is R144's. -/
theorem startWindow_started (p : PortId) (s : State) : windowStarted p s (startWindow p s) := by
  unfold windowStarted startWindow
  dsimp only
  split
  · exact recomputePort_compared p _
  · rfl

/-- All that detaching a receive map does (R64). -/
theorem detachReceive_spec (m : MapId) (s : State) :
   (detachReceive m s).rmaps = s.rmaps.set m { s.rmaps[m] with attached := false } ∧
   (s.rmaps[m].attached = true → ∀ n : Slot, (detachReceive m s).grades[n] = if s.grades[n].rmap = m then
       { s.grades[n] with held := true } else s.grades[n]) ∧
   sameBut [.rmaps, .grades] s (detachReceive m s) := by
  by_cases h : s.rmaps[m].attached = true
  · generalize hs1 : ({ s with rmaps := s.rmaps.set m { s.rmaps[m] with attached := false } } : State) = s1
    have hd : detachReceive m s = overSlots (fun n t => if t.grades[n].rmap = m then t.setGrade n
        { t.grades[n] with held := true } else t) s1 := by
      unfold detachReceive; rw [if_pos h, hs1]
    have h01 : sameBut [.rmaps] s s1 := by subst hs1; intro p hp; cases p <;> simp_all [Part.same]
    have hstep : ∀ (n : Slot) (t : State),
        sameBut [.grades] t (if t.grades[n].rmap = m then t.setGrade n { t.grades[n] with held := true } else t) :=
      fun n t => (setGrade_sameBut _ _ _).ite (sameBut.refl _ _)
    have hfr := overSlots_sameBut (fun n t => if t.grades[n].rmap = m then t.setGrade n
        { t.grades[n] with held := true } else t) hstep s1
    have hg1 : s1.grades = s.grades := by subst hs1; rfl
    rw [hd]
    refine ⟨?_, fun _ n => ?_, h01.andThen hfr⟩
    · rw [hfr .rmaps (by decide)]; subst hs1; rfl
    · have hat : ∀ (i j : Slot) (t : State), i ≠ j →
          (if t.grades[i].rmap = m then t.setGrade i { t.grades[i] with held := true } else t).grades[j] = t.grades[j]
          := by
        intro i j t hij
        by_cases hh : t.grades[i].rmap = m
        · rw [if_pos hh, State.setGrade_grades_at, if_neg hij]
        · rw [if_neg hh]
      have := overSlots_at (fun n t => if t.grades[n].rmap = m then t.setGrade n { t.grades[n] with held := true }
          else t) (fun n t => t.grades[n]) (fun _ => True)
        (fun n t => t.grades[n] = if s.grades[n].rmap = m then
            { s.grades[n] with held := true } else s.grades[n]) s1 (fun _ _ _ => trivial)
            (fun i j t _ hij => hat i j t hij) ?_ ?_ trivial n
      exact this
      · intro i t _ hg
        have hg : t.grades[i] = s.grades[i] := by simp only [hg1] at hg; exact hg
        rw [hg]
        by_cases hh : s.grades[i].rmap = m
        · rw [if_pos hh, if_pos hh, State.setGrade_grades_at, if_pos rfl]
        · rw [if_neg hh, if_neg hh, hg]
      · intro i j t _ hij hq; rw [hat i j t hij]; exact hq
  · have hd : detachReceive m s = s := by unfold detachReceive; rw [if_neg h]
    rw [hd]
    refine ⟨?_, fun h' => absurd h' h, sameBut.refl _ _⟩
    have hx : ({ s.rmaps[m] with attached := false } : GradeMap) = s.rmaps[m] := by
      have : s.rmaps[m].attached = false := by simpa using h
      rw [← this]
    rw [hx]
    have : s.rmaps.set m s.rmaps[m] = s.rmaps := by simp
    exact this.symm

/-- All that attaching a receive map does (R65). -/
theorem attachReceive_spec (m : MapId) (s : State) :
   (attachReceive m s).rmaps = s.rmaps.set m { s.rmaps[m] with attached := true } ∧
   (s.rmaps[m].attached = false → ∀ n : Slot, s.grades[n].rmap = m →
          (attachReceive m s).grades[n].held = false ∧
              (attachReceive m s).grades[n].eff = effectiveGrade (attachReceive m s) n ∧
            (∀ c : Code, s.cands[n].kind = .line → s.grades[n].code = .received c →
              (attachReceive m s).grades[n].mapped = s.rmaps[m].entries[c])) ∧
   (∀ n : Slot, s.grades[n].rmap ≠ m → (attachReceive m s).grades[n] = s.grades[n]) ∧
   sameBut [.rmaps, .grades, .latches, .noticeState, .control, .queue, .gradeHandovers] s (attachReceive m s) := by
  by_cases h : s.rmaps[m].attached = true
  · have hd : attachReceive m s = s := by unfold attachReceive; rw [if_pos h]
    rw [hd]
    refine ⟨?_, fun h' => (by rw [h] at h'; cases h'), fun _ _ => rfl, sameBut.refl _ _⟩
    have hx : ({ s.rmaps[m] with attached := true } : GradeMap) = s.rmaps[m] := by rw [← h]
    rw [hx]
    have : s.rmaps.set m s.rmaps[m] = s.rmaps := by simp
    exact this.symm
  · generalize hs0 : ({ s with rmaps := s.rmaps.set m { s.rmaps[m] with attached := true } } : State) = s0
    generalize hf : (fun (n : Slot) (t : State) => if t.grades[n].rmap = m
        then t.setGrade n (t.grades[n].remap (decide (s.cands[n].kind = .line)) { s.rmaps[m] with attached := true })
        else t) = f
    generalize hg : (fun (n : Slot) (t : State) => if t.grades[n].rmap = m then regrade n t else t) = g
    have hd : attachReceive m s = overSlots g (overSlots f s0) := by
      unfold attachReceive; rw [if_neg h]; subst hs0 hf hg; rfl
    have hf' : ∀ n t, f n t = if t.grades[n].rmap = m
        then t.setGrade n (t.grades[n].remap (decide (s.cands[n].kind = .line)) { s.rmaps[m] with attached := true })
        else t := fun n t => by rw [← hf]
    have hg' : ∀ n t, g n t = if t.grades[n].rmap = m then regrade n t else t := fun n t => by rw [← hg]
    have h01 : sameBut [.rmaps] s s0 := by subst hs0; intro p hp; cases p <;> simp_all [Part.same]
    have hfs : ∀ n t, sameBut [.grades] t (f n t) :=
        fun n t => by rw [hf']; exact (setGrade_sameBut _ _ _).ite (sameBut.refl _ _)
    have hgs : ∀ n t, sameBut [.grades, .latches, .noticeState, .control, .queue, .gradeHandovers] t (g n t) :=
        fun n t => by rw [hg']; exact (regrade_sameBut _ _).ite (sameBut.refl _ _)
    have hff := overSlots_sameBut f hfs s0
    have hgf := overSlots_sameBut g hgs (overSlots f s0)
    have hg0 : s0.grades = s.grades := by subst hs0; rfl
    have hfat : ∀ (i j : Slot) (t : State), i ≠ j → (f i t).grades[j] = t.grades[j] := by
      intro i j t hij; rw [hf']
      by_cases hh : t.grades[i].rmap = m
      · rw [if_pos hh, State.setGrade_grades_at, if_neg hij]
      · rw [if_neg hh]
    have hgat : ∀ (i j : Slot) (t : State), i ≠ j → (g i t).grades[j] = t.grades[j] := by
      intro i j t hij; rw [hg']
      by_cases hh : t.grades[i].rmap = m
      · rw [if_pos hh, regrade_at, if_neg hij]
      · rw [if_neg hh]
    have h1 : ∀ n : Slot, (overSlots f s0).grades[n] = if s.grades[n].rmap = m
        then s.grades[n].remap (decide (s.cands[n].kind = .line)) { s.rmaps[m] with attached := true }
        else s.grades[n] := by
      refine overSlots_at f (fun n t => t.grades[n]) (fun _ => True) (fun n t => t.grades[n] = if s.grades[n].rmap = m
          then s.grades[n].remap (decide (s.cands[n].kind = .line)) { s.rmaps[m] with attached := true }
          else s.grades[n]) s0 (fun _ _ _ => trivial) (fun i j t _ hij => hfat i j t hij) ?_ ?_ trivial
      · intro i t _ hg
        have hg : t.grades[i] = s.grades[i] := by simp only [hg0] at hg; exact hg
        rw [hf', hg]
        by_cases hh : s.grades[i].rmap = m
        · rw [if_pos hh, if_pos hh, State.setGrade_grades_at, if_pos rfl]
        · rw [if_neg hh, if_neg hh, hg]
      · intro i j t _ hij hq; rw [hfat i j t hij]; exact hq
    generalize hu1 : overSlots f s0 = u1 at *
    have hrm : ∀ (b : Bool) (mp : GradeMap) (x : GradeSlot), (x.remap b mp).rmap = x.rmap := by
      intro b mp x; unfold GradeSlot.remap; split <;> rfl
    have h2 : ∀ n : Slot, (overSlots g u1).grades[n] = if s.grades[n].rmap = m then
        { u1.grades[n] with eff := effectiveGrade u1 n } else s.grades[n] := by
      refine overSlots_at g (fun n t => t.grades[n])
          (sameBut [.grades, .latches, .noticeState, .control, .queue, .gradeHandovers] u1)
          (fun n t => t.grades[n] = if s.grades[n].rmap = m then
          { u1.grades[n] with eff := effectiveGrade u1 n } else s.grades[n]) u1 (fun i t hh => hh.trans (hgs i t))
          (fun i j t _ hij => hgat i j t hij) ?_ ?_ (sameBut.refl _ _)
      · intro i t hI hg
        have hg : t.grades[i] = u1.grades[i] := hg
        have hr : u1.grades[i].rmap = s.grades[i].rmap := by rw [h1]; by_cases hh : s.grades[i].rmap = m
                                                             · rw [if_pos hh, hrm]
                                                             · rw [if_neg hh]
        rw [hg', hg, hr]
        by_cases hh : s.grades[i].rmap = m
        · rw [if_pos hh, if_pos hh, regrade_at, if_pos rfl, hg]
          rw [effectiveGrade_congr i (hI .cands (by decide)) (hI .triples (by decide))
              (by rw [hg]; exact ⟨rfl, rfl, rfl, rfl, rfl, rfl, rfl⟩)]
        · rw [if_neg hh, if_neg hh, hg, h1, if_neg hh]
      · intro i j t _ hij hq; rw [hgat i j t hij]; exact hq
    rw [hd]
    refine ⟨?_, fun _ n hn => ?_, fun n hn => ?_, ?_⟩
    · rw [hgf .rmaps (by decide), hff .rmaps (by decide)]; subst hs0; rfl
    · have he : effectiveGrade (overSlots g u1) n = effectiveGrade u1 n :=
          effectiveGrade_congr n (hgf .cands (by decide)) (hgf .triples (by decide))
          (by rw [h2, if_pos hn]; exact ⟨rfl, rfl, rfl, rfl, rfl, rfl, rfl⟩)
      rw [he, h2, if_pos hn, h1, if_pos hn]
      refine ⟨?_, rfl, fun c hk hc => ?_⟩
      · unfold GradeSlot.remap; split <;> rfl
      · unfold GradeSlot.remap; rw [hk, hc]; rfl
    · rw [h2, if_neg hn]
    · exact (h01.andThen hff (rs := [.rmaps, .grades, .latches, .noticeState, .control, .queue,
          .gradeHandovers])).andThen hgf (hp := fun _ h => h)

/-- The map a body names. -/
theorem mapOf_eq {r : Request} {m : MapId} (h : byteAt r.body 1 = m.val) : mapOf r.body = m := by
  unfold mapOf; ext; simp [h]

/-- The entries of a map write that passes its checks are codes or ranks (R176). -/
theorem checkWriteMap_entries {r : Request} (h : checkWriteMap r = none) (i : Fin 16) : byteAt r.body (2 + i.val) < 16
    := by
  unfold checkWriteMap checkBody at h
  dsimp only at h
  split at h
  · cases h
  · split at h
    · cases h
    · split at h
      · cases h
      · rename_i h3
        simp only [Bool.not_eq_true', Bool.not_eq_false, Bool.and_eq_true] at h3
        have h4 := List.all_eq_true.1 h3.2 i.val (by simp [i.isLt])
        simpa using h4

/-- What a node write leaves in the Event Unit (R155, R160). -/
theorem EventUnit.write_fields (now : Nat) (w : NodeWrite) (e : EventUnit) :
   (e.write now w).enables = w.enables ∧ (e.write now w).levels = w.levels ∧
       (e.write now w).destination = w.destination ∧
   (e.write now w).spacingMs = w.spacingMs ∧ (e.write now w).summaryS = w.summaryS ∧ (e.write now w).copies = e.copies ∧
   ∀ l : LatchId, (e.write now w).enabled l = false → (e.write now w).latches[l] = .clear := by
  have key : (e.write now w).enables = w.enables ∧ (e.write now w).levels = w.levels ∧
      (e.write now w).destination = w.destination ∧
   (e.write now w).spacingMs = w.spacingMs ∧ (e.write now w).summaryS = w.summaryS ∧ (e.write now w).copies = e.copies ∧
    (e.write now w).latches = Vector.ofFn (latchAfterWrite e { e with
      enables := w.enables
      levels := w.levels
      destination := w.destination
      spacingMs := w.spacingMs
      summaryS := w.summaryS }) := by
    unfold EventUnit.write
    dsimp only
    split <;> split <;> exact ⟨rfl, rfl, rfl, rfl, rfl, rfl, rfl⟩
  obtain ⟨h1, h2, h3, h4, h5, h6, h7⟩ := key
  refine ⟨h1, h2, h3, h4, h5, h6, fun l hl => ?_⟩
  simp only [h7, Fin.getElem_fin, Vector.getElem_ofFn]
  have : (⟨l.val, l.isLt⟩ : LatchId) = l := rfl
  rw [this]
  unfold EventUnit.enabled at hl
  rw [h1] at hl
  unfold latchAfterWrite latchArms EventUnit.enabled
  simp only [hl, Bool.false_and, Bool.false_eq_true, if_false]

/-- All that a new base tag does (R105, R135). -/
theorem writeBaseTag_spec (tag : OriginTag) (s : State) :
   (writeBaseTag tag s).baseTag = tag ∧
   (tag ≠ s.baseTag → ∀ k : ShelfId, k ∈ (writeBaseTag tag s).engine.queue.map EvalEntry.shelf ∧
      (writeBaseTag tag s).slices[k] = { s.slices[k] with triple := sliceTriple (writeBaseTag tag s) k }) ∧
   (tag = s.baseTag → writeBaseTag tag s = s) ∧
   sameBut [.baseTag, .queue, .slices, .tripleHandovers, .noticeHandovers] s (writeBaseTag tag s) := by
  by_cases h : tag = s.baseTag
  · have hd : writeBaseTag tag s = s := by unfold writeBaseTag; rw [if_pos h]
    exact ⟨by rw [hd, h], fun h' => absurd h h', fun _ => hd, by rw [hd]; exact sameBut.refl _ _⟩
  · generalize hs0 : ({ s with baseTag := tag } : State) = s0
    have hreq : overShelves (fun k t => requestEvaluation k none t) s0 = requestWhere (fun _ => true) s0 := rfl
    have hd : writeBaseTag tag s = overShelves (fun k t => retriple k false t) (requestWhere (fun _ => true) s0) := by
      unfold writeBaseTag; rw [if_neg h, hs0, hreq]
    have hq := requestWhere_queued (fun _ => true) s0
    have hqs := requestWhere_sameBut (fun _ => true) s0
    generalize requestWhere (fun _ => true) s0 = u1 at *
    have h01 : sameBut [.baseTag] s s0 := by subst hs0; intro p hp; cases p <;> simp_all [Part.same]
    have hfs : ∀ k t, sameBut [.slices, .tripleHandovers, .noticeHandovers] t (retriple k false t) :=
        fun k t => retriple_sameBut _ _ _
    have hff := overShelves_sameBut _ hfs u1
    have hsl : u1.slices = s.slices := by rw [hqs .slices (by decide)]; subst hs0; rfl
    have hbt : s0.baseTag = tag := by subst hs0; rfl
    have hat : ∀ k : ShelfId, (overShelves (fun k t => retriple k false t) u1).slices[k] =
        { s.slices[k] with triple := sliceTriple u1 k } := by
      refine overShelves_at (fun k t => retriple k false t) (fun k t => t.slices[k])
          (sameBut [.slices, .tripleHandovers, .noticeHandovers] u1) (fun k t => t.slices[k] =
          { s.slices[k] with triple := sliceTriple u1 k }) u1 (fun i t hh => hh.trans (hfs i t)) ?_ ?_ ?_
          (sameBut.refl _ _)
      · intro i j t _ hij; rw [retriple_at, if_neg hij]
      · intro i t hI hg
        have hg : t.slices[i] = s.slices[i] := by simp only [hsl] at hg; exact hg
        rw [retriple_at, if_pos rfl, hg]
        rw [sliceTriple_congr i (hI .baseTag (by decide)) (hI .grades (by decide)) (by rw [hg]; simp only [hsl])]
      · intro i j t _ hij hq; rw [retriple_at, if_neg hij]; exact hq
    rw [hd]
    refine ⟨?_, fun _ k => ⟨?_, ?_⟩, fun h' => absurd h' h, ?_⟩
    · rw [hff .baseTag (by decide), hqs .baseTag (by decide), hbt]
    · rw [hff .queue (by decide)]; exact (hq k).2 (Or.inl rfl)
    · rw [hat, sliceTriple_congr k (hff .baseTag (by decide)) (hff .grades (by decide)) (by rw [hat]; simp only [hsl])]
    · exact (h01.andThen hqs (rs := [.baseTag, .queue, .slices, .tripleHandovers, .noticeHandovers])).andThen hff
          (hp := fun _ h => h)

/-- The consumption of reports touches the reports in flight alone. -/
theorem consumeReports_sameBut (n : Slot) (s : State) : sameBut [.healthReports] s (consumeReports n s) := by
  intro p hp; cases p <;> simp_all [Part.same, consumeReports]

/-- What the start or the end of watching can change. -/
theorem watchInput_sameBut (n : Slot) (a b : Bool) (s : State) : sameBut
    [.inputs, .latches, .conditions, .noticeState, .control, .healthReports] s (watchInput n a b s) := by
  unfold watchInput
  refine (sameBut.refl _ _).ite ?_
  have h1 : sameBut [.healthReports] s (if b then s else consumeReports n s) :=
    (sameBut.refl _ _).ite (consumeReports_sameBut _ _)
  exact ((h1.andThen (setInput_sameBut _ _ _)
    (rs := [.inputs, .latches, .conditions, .noticeState, .control, .healthReports])).trans
      (raiseCondition_sameBut _ _ _ _).mono)

/-- The health reports in flight after the start or the end of watching (R19, R36). -/
theorem watchInput_health (n : Slot) (a b : Bool) (s : State) : (watchInput n a b s).flight.health =
    if a = true ∧ b = false then s.flight.health.filter (fun r => decide (r.1 ≠ n))
    else if a = b ∨ b = true then s.flight.health else s.flight.health.filter (fun r => decide (r.1 ≠ n)) := by
  unfold watchInput
  by_cases h : a = b
  · rw [if_pos h]; subst h; cases a <;> simp
  · rw [if_neg h, raiseCondition_sameBut _ _ _ _ .healthReports (by decide)]
    cases a <;> cases b <;> simp_all [consumeReports]

/-- The inputs after the start or the end of watching (R36). -/
theorem watchInput_inputs (n : Slot) (a b : Bool) (s : State) : (watchInput n a b s).inputs = s.inputs.set n
    (if a = b then s.inputs[n] else s.inputs[n].watch b) := by
  unfold watchInput
  by_cases h : a = b
  · rw [if_pos h, if_pos h]
    have : s.inputs.set n s.inputs[n] = s.inputs := by simp
    exact this.symm
  · rw [if_neg h, if_neg h, raiseCondition_sameBut _ _ _ _ .inputs (by decide)]
    cases b <;> rfl

/-- All that a write of the binding fields does (R18, R20, R27, R28). -/
theorem writeBinding_spec (n : Slot) (bw : BindingWrite) (s : State) :
   (writeBinding n bw s).cands = s.cands.set n (s.cands[n].write s.osc bw) ∧
   (writeBinding n bw s).inputs = s.inputs.set n (if decide (s.cands[n].kind ≠ .none) = decide (bw.kind ≠ .none)
       then s.inputs[n] else s.inputs[n].watch (decide (bw.kind ≠ .none))) ∧
   sameBut [.cands, .inputs, .latches, .conditions, .noticeState, .control, .queue, .removals, .healthReports] s
     (writeBinding n bw s) := by
  have h1 := commitCand_sameBut n (s.cands[n].write s.osc bw) (s.cands[n].rebinds bw) s
  have h1c := commitCand_cands n (s.cands[n].write s.osc bw) (s.cands[n].rebinds bw) s
  have h2 := watchInput_sameBut n (decide (s.cands[n].kind ≠ .none)) (decide (bw.kind ≠ .none))
      (commitCand n (s.cands[n].write s.osc bw) (s.cands[n].rebinds bw) s)
  have h2i := watchInput_inputs n (decide (s.cands[n].kind ≠ .none)) (decide (bw.kind ≠ .none))
      (commitCand n (s.cands[n].write s.osc bw) (s.cands[n].rebinds bw) s)
  refine ⟨(h2 .cands (by decide)).trans h1c, h2i.trans ?_, (h1.mono).trans h2.mono⟩
  have hi1 : (commitCand n (s.cands[n].write s.osc bw) (s.cands[n].rebinds bw) s).inputs = s.inputs :=
      h1 .inputs (by decide)
  simp only [hi1]

/-- All that a write of the grade settings does (R72). -/
theorem writeGrade_spec (n : Slot) (gw : GradeWrite) (rb : Bool) (s : State) :
   (writeGrade n gw rb s).grades = s.grades.set n
       { s.grades[n].write s.osc s.rmaps[gw.rmap] (decide (s.cands[n].kind = .line)) (portOf s.rxPorts n).isSome rb gw
           with
         eff := effectiveGrade (writeGrade n gw rb s) n } ∧
   sameBut [.grades, .latches, .conditions, .noticeState, .control, .queue, .gradeHandovers] s (writeGrade n gw rb s)
       := by
  have key : ∀ g, (commitGrade n g s).grades = s.grades.set n
      { g with eff := effectiveGrade (commitGrade n g s) n } := by
    intro g
    have h3 := commitGrade_sameBut n g s
    have h3g := commitGrade_grades n g s
    have heff : effectiveGrade (commitGrade n g s) n = effectiveGrade (s.setGrade n g) n := by
      refine effectiveGrade_congr n (h3 .cands (by decide)) (h3 .triples (by decide)) ?_
      simp only [h3g, getElem_set_fin, if_pos, State.setGrade_grades]
      simp
    rw [heff]; exact h3g
  exact ⟨key _, commitGrade_sameBut _ _ _⟩

/-- All that a write of a candidate does (R173). -/
theorem writeCandidate_spec (n : Slot) (bw : BindingWrite) (gw : GradeWrite) (fw : FrequencyWrite) (s u : State)
    (hu : u = writeCandidate n bw gw fw s) :
   u.cands = s.cands.set n (s.cands[n].write s.osc bw) ∧
   u.inputs = s.inputs.set n (TickInput.write fw (if decide (s.cands[n].kind ≠ .none) = decide (bw.kind ≠ .none)
       then s.inputs[n] else s.inputs[n].watch (decide (bw.kind ≠ .none)))) ∧
   u.grades = s.grades.set n
       { s.grades[n].write s.osc s.rmaps[gw.rmap] (decide (u.cands[n].kind = .line)) (portOf s.rxPorts n).isSome
           (decide (s.cands[n].kind ≠ bw.kind) || s.cands[n].rebinds bw) gw with
         eff := effectiveGrade u n } ∧
   sameBut [.cands, .grades, .inputs, .latches, .conditions, .noticeState, .control, .queue, .removals, .healthReports,
       .gradeHandovers] s u := by
  obtain ⟨rb, hrb⟩ : ∃ rb, rb = (decide (s.cands[n].kind ≠ bw.kind) || s.cands[n].rebinds bw) := ⟨_, rfl⟩
  obtain ⟨s2, hs2⟩ : ∃ s2, s2 = writeBinding n bw s := ⟨_, rfl⟩
  obtain ⟨s3, hs3⟩ : ∃ s3, s3 = writeGrade n gw rb s2 := ⟨_, rfl⟩
  have hu' : u = s3.setInput n (s3.inputs[n].write fw) := by rw [hu, hs3, hs2, hrb]; rfl
  rw [← hrb]
  obtain ⟨b1, b2, b3⟩ := writeBinding_spec n bw s
  rw [← hs2] at b1 b2 b3
  obtain ⟨g1, g2⟩ := writeGrade_spec n gw rb s2
  rw [← hs3] at g1 g2
  have h4 := setInput_sameBut s3 n (s3.inputs[n].write fw)
  rw [← hu'] at h4
  have hg2 : s2.grades = s.grades := b3 .grades (by decide)
  have hr2 : s2.rmaps = s.rmaps := b3 .rmaps (by decide)
  have ho2 : s2.osc = s.osc := b3 .osc (by decide)
  have hgu : u.grades = s3.grades := h4 .grades (by decide)
  have hcu : u.cands = s3.cands := h4 .cands (by decide)
  have htu : u.triples = s3.triples := h4 .triples (by decide)
  have heff : effectiveGrade u n = effectiveGrade s3 n := effectiveGrade_congr n hcu htu (by simp [hgu])
  have hx2 : s2.rxPorts = s.rxPorts := b3 .rxPorts (by decide)
  have hcs : u.cands = s2.cands := hcu.trans (g2 .cands (by decide))
  refine ⟨?_, ?_, ?_, ?_⟩
  · rw [hcs, b1]
  · have hi : s3.inputs = s2.inputs := g2 .inputs (by decide)
    rw [hu']
    simp only [State.setInput_inputs, hi, b2, getElem_set_fin, if_pos]
    simp
  · rw [hgu, g1, heff]
    simp only [hg2, hr2, ho2, hx2, hcs]
  · exact ((b3.mono).trans g2.mono).trans h4.mono

/-- A grade record after a write of its settings (R67, R72). -/
theorem GradeSlot.write_fields (now : Nat) (m : GradeMap) (b1 b2 rb : Bool) (w : GradeWrite) (g x : GradeSlot)
    (hx : x = g.write now m b1 b2 rb w) :
   x.rmap = w.rmap ∧ x.floor = w.floor ∧ x.setRank = w.setRank ∧ x.setRankOn = w.setRankOn ∧
       x.assumedHops = w.assumedHops ∧ x.timeoutS = w.timeoutS ∧
   (rb = true → x.code = .pending) ∧ (rb = false → x.code = g.code) := by
  unfold GradeSlot.write at hx
  dsimp only at hx
  cases rb
  · rw [if_neg (by simp)] at hx
    by_cases h1 : w.rmap = g.rmap
    · rw [if_pos h1] at hx; subst hx; simp [GradeSlot.store]
    · rw [if_neg h1] at hx
      by_cases h2 : m.attached = true
      · rw [if_pos h2] at hx
        unfold GradeSlot.remap at hx
        split at hx <;> subst hx <;> simp [GradeSlot.store]
      · rw [if_neg h2] at hx; subst hx; simp [GradeSlot.store]
  · rw [if_pos rfl] at hx; subst hx; simp [GradeSlot.store, GradeSlot.clear]

/-- A candidate after a write of its binding fields (R18, R20, R28). -/
theorem Cand.write_fields (now : Nat) (w : BindingWrite) (c x : Cand) (hx : x = c.write now w) :
   x.kind = w.kind ∧ x.source = (if w.kind = .shelf then w.source else 0) ∧ x.holdOffMs = w.holdOffMs ∧
       x.wtrS = w.wtrS ∧ x.maintHold = w.maintHold ∧
   (c.kind = .none → w.kind ≠ .none → x.state = .down ∧ x.fresh = true ∧ x.health = false) ∧
   (c.kind ≠ .none → w.kind = .none → x.state = .idle ∧ x.health = false ∧ x.timer = .none) ∧
   (c.kind = w.kind → c.kind ≠ .shelf → c.maintHold = w.maintHold → x.state = c.state ∧ x.timer = c.timer ∧
       x.health = c.health) := by
  unfold Cand.write at hx
  dsimp only at hx
  by_cases h1 : c.kind = .none
  · rw [if_pos h1] at hx
    by_cases h2 : w.kind = .none
    · rw [if_pos h2] at hx; subst hx; simp [Cand.store, h1, h2]
    · rw [if_neg h2] at hx; subst hx; simp [Cand.store, h1, h2, Ne.symm h2]
  · rw [if_neg h1] at hx
    by_cases h2 : w.kind = .none
    · rw [if_pos h2] at hx; subst hx; simp [Cand.store, h1, h2]
    · rw [if_neg h2] at hx
      by_cases h3 : c.rebinds w = true
      · rw [if_pos h3] at hx
        have hno : c.kind = w.kind → c.kind ≠ .shelf → False := by
          intro h4 h5
          unfold Cand.rebinds at h3
          simp [h4, h2] at h3
          exact h5 (h4.trans h3.1)
        have hf : x.kind = w.kind ∧ x.source = (if w.kind = .shelf then w.source else 0) ∧ x.holdOffMs = w.holdOffMs ∧
            x.wtrS = w.wtrS ∧ x.maintHold = w.maintHold := by
          by_cases h4 : c.health = true
          · rw [if_pos h4] at hx; unfold Cand.recover Cand.enterAvailable at hx
            simp only [Bool.false_eq_true, if_false] at hx
            split at hx <;> subst hx <;> exact ⟨rfl, rfl, rfl, rfl, rfl⟩
          · rw [if_neg h4] at hx; subst hx; exact ⟨rfl, rfl, rfl, rfl, rfl⟩
        exact ⟨hf.1, hf.2.1, hf.2.2.1, hf.2.2.2.1, hf.2.2.2.2, fun h => absurd h h1, fun _ h => absurd h h2,
            fun h4 h5 _ => (hno h4 h5).elim⟩
      · rw [if_neg h3] at hx
        have hf : x.kind = w.kind ∧ x.source = (if w.kind = .shelf then w.source else 0) ∧ x.holdOffMs = w.holdOffMs ∧
            x.wtrS = w.wtrS ∧ x.maintHold = w.maintHold ∧
            (c.maintHold = w.maintHold → x.state = c.state ∧ x.timer = c.timer ∧ x.health = c.health) := by
          unfold Cand.applyHold at hx
          split at hx
          · subst hx; refine ⟨rfl, rfl, rfl, rfl, rfl, fun h => ?_⟩; rename_i h1 h2 h3 h4
            exfalso; have h3' : w.maintHold = true := h3; rw [h2] at h; rw [h3'] at h; cases h
          · rename_i h1 h2 h3 h4
            split at hx <;> subst hx <;> refine ⟨rfl, rfl, rfl, rfl, rfl, fun h => ?_⟩ <;>
                (exfalso; have h3' : w.maintHold = false := h3; rw [h2] at h; rw [h3'] at h; cases h)
          · subst hx; exact ⟨rfl, rfl, rfl, rfl, rfl, fun _ => ⟨rfl, rfl, rfl⟩⟩
        exact ⟨hf.1, hf.2.1, hf.2.2.1, hf.2.2.2.1, hf.2.2.2.2.1, fun h => absurd h h1, fun _ h => absurd h h2,
            fun _ _ h => hf.2.2.2.2.2 h⟩

/-- The code of kind NONE. -/
theorem kindOfCode_none (n : Nat) (h : n < 4) : kindOfCode n = .none ↔ n = 0 := by
  interval_cases n <;> simp [kindOfCode]

/-- The code of kind SHELF. -/
theorem kindOfCode_shelf (n : Nat) (h : n < 4) : kindOfCode n = .shelf ↔ n = 3 := by
  interval_cases n <;> simp [kindOfCode]

/-- All that a write of the selection settings does (R79). -/
theorem writeSelection_spec (k : ShelfId) (w : Selection) (s : State) :
   (writeSelection k w s).shelves = s.shelves.set k { s.shelves[k] with sel := w } ∧
   queuedBy (fun j => j = k ∧ w ≠ s.shelves[k].sel) s (writeSelection k w s) ∧
       sameBut [.shelves, .queue] s (writeSelection k w s) := by
  unfold writeSelection
  by_cases h : w = s.shelves[k].sel
  · rw [if_pos h]
    refine ⟨?_, ?_, sameBut.refl _ _⟩
    · subst h
      have : s.shelves.set k s.shelves[k] = s.shelves := by simp
      exact this.symm
    · intro j; exact ⟨Or.inr, fun hh => hh.elim (fun h1 => absurd h h1.2) id⟩
  · rw [if_neg h]
    refine ⟨rfl, ?_, (setShelf_sameBut _ _ _).andThen (requestEvaluation_sameBut _ _ _)⟩
    intro j
    have := requestEvaluation_queued k none (s.setShelf k { s.shelves[k] with sel := w }) j
    rw [this]
    exact ⟨fun hh => hh.imp (fun h1 => ⟨h1, h⟩) id, fun hh => hh.imp And.left id⟩

/-- All that a write of the slice settings does (R109, R124, R133). -/
theorem writeSlice_spec (k : ShelfId) (w : SliceSettings) (s : State) :
   (∀ j : ShelfId, j ≠ k → (writeSlice k w s).slices[j] = s.slices[j]) ∧
   (writeSlice k w s).slices[k].cfg = w ∧ (writeSlice k w s).slices[k].timing = s.slices[k].timing ∧
       (writeSlice k w s).slices[k].target = s.slices[k].target ∧
   (writeSlice k w s).slices[k].seq = s.slices[k].seq ∧
   sameBut [.slices, .fabric, .tripleHandovers, .noticeHandovers] s (writeSlice k w s) := by
  obtain ⟨s1, hs1⟩ : ∃ s1, s1 = s.setSlice k (s.slices[k].writeSettings s.osc w) := ⟨_, rfl⟩
  obtain ⟨s2, hs2⟩ : ∃ s2, s2 = if decide (w.module ≠ s.slices[k].cfg.module) && decide (s.slices[k].timing ≠ .parked)
      then sendDirective k s1 else s1 := ⟨_, rfl⟩
  have hd : writeSlice k w s = if decide (w.holdoverRank ≠ s.slices[k].cfg.holdoverRank) || decide
      (w.freerunRank ≠ s.slices[k].cfg.freerunRank) ||
      decide (w.budgetMin ≠ s.slices[k].cfg.budgetMin)
    then retriple k false s2
    else s2 := by rw [hs2, hs1]; rfl
  have hw : (s.slices[k].writeSettings s.osc w).cfg = w ∧
      (s.slices[k].writeSettings s.osc w).timing = s.slices[k].timing ∧
      (s.slices[k].writeSettings s.osc w).target = s.slices[k].target ∧
      (s.slices[k].writeSettings s.osc w).seq = s.slices[k].seq := by
    unfold Slice.writeSettings; dsimp only; split <;> exact ⟨rfl, rfl, rfl, rfl⟩
  have h1 : sameBut [.slices] s s1 := by rw [hs1]; exact setSlice_sameBut _ _ _
  have h2 : sameBut [.slices, .fabric] s1 s2 := by rw [hs2]; exact (sendDirective_sameBut _ _).ite (sameBut.refl _ _)
  have h3 : sameBut [.slices, .tripleHandovers, .noticeHandovers] s2 (writeSlice k w s) := by
      rw [hd]; exact (retriple_sameBut _ _ _).ite (sameBut.refl _ _)
  have a1 : ∀ j : ShelfId, s1.slices[j] = if k = j then s.slices[k].writeSettings s.osc w else s.slices[j] := by
      intro j; rw [hs1, State.setSlice_slices_at]
  have a2 : ∀ j : ShelfId, s2.slices[j] = if k = j then
      { s1.slices[k] with unsent := s2.slices[k].unsent } else s1.slices[j] := by
    intro j
    rw [hs2]
    by_cases hc : (decide (w.module ≠ s.slices[k].cfg.module) && decide (s.slices[k].timing ≠ .parked)) = true
    · rw [if_pos hc, sendDirective_at]
      by_cases hj : k = j
      · rw [if_pos hj, if_pos hj, sendDirective_at, if_pos rfl]
      · rw [if_neg hj, if_neg hj]
    · rw [if_neg hc]
      by_cases hj : k = j
      · subst hj; rw [if_pos rfl]
      · rw [if_neg hj]
  have a3 : ∀ j : ShelfId, (writeSlice k w s).slices[j] = if k = j then
      { s2.slices[k] with triple := (writeSlice k w s).slices[k].triple } else s2.slices[j] := by
    intro j
    rw [hd]
    by_cases hc : (decide (w.holdoverRank ≠ s.slices[k].cfg.holdoverRank) || decide
        (w.freerunRank ≠ s.slices[k].cfg.freerunRank) ||
      decide (w.budgetMin ≠ s.slices[k].cfg.budgetMin)) = true
    · rw [if_pos hc, retriple_at]
      by_cases hj : k = j
      · rw [if_pos hj, if_pos hj, retriple_at, if_pos rfl]
      · rw [if_neg hj, if_neg hj]
    · rw [if_neg hc]
      by_cases hj : k = j
      · subst hj; rw [if_pos rfl]
      · rw [if_neg hj]
  have hk : (writeSlice k w s).slices[k] =
      { s.slices[k].writeSettings s.osc w with unsent := s2.slices[k].unsent, triple :=
      (writeSlice k w s).slices[k].triple } := by
    rw [a3, if_pos rfl, a2, if_pos rfl, a1, if_pos rfl]
  refine ⟨?_, ?_, ?_, ?_, ?_, ?_⟩
  · intro j hj; rw [a3, if_neg (Ne.symm hj), a2, if_neg (Ne.symm hj), a1, if_neg (Ne.symm hj)]
  · rw [hk]; exact hw.1
  · rw [hk]; exact hw.2.1
  · rw [hk]; exact hw.2.2.1
  · rw [hk]; exact hw.2.2.2
  · exact (h1.andThen h2 (rs := [.slices, .fabric, .tripleHandovers, .noticeHandovers])).andThen h3 (hp := fun _ h => h)

/-- A mask built up bit by bit. -/
theorem foldMask_bit (l : List ShelfId) (p : ShelfId → Bool) (acc : BitVec 16) (k : ShelfId) :
   (l.foldl (fun acc k => if p k then acc ||| BitVec.twoPow 16 k.val else acc) acc).getLsbD k.val =
       (acc.getLsbD k.val || (decide (k ∈ l) && p k)) := by
  induction l generalizing acc with
  | nil => simp
  | cons i l ih =>
    rw [List.foldl_cons, ih]
    by_cases hp : p i = true
    · rw [if_pos hp]
      have hk := k.isLt
      rw [BitVec.getLsbD_or, BitVec.getLsbD_twoPow]
      by_cases hik : i = k
      · subst hik; simp [hp, hk]
      · have : ¬ i.val = k.val := fun hh => hik (Fin.ext hh)
        simp [this, Ne.symm hik]
    · rw [if_neg hp]
      by_cases hik : i = k
      · subst hik; simp [hp]
      · simp [Ne.symm hik]

/-- The shelves that refuse a list write as DUPLICATE (R78). -/
theorem refusedMask_bit (m : BitVec 16) (e : EntryId) (w : Entry) (s : State) (k : ShelfId) :
   (refusedMask m e w s).getLsbD k.val =
       (m.getLsbD k.val && decide (w.priority ≠ 0 ∧ ∃ j : EntryId, j ≠ e ∧ s.shelves[k].entries[j].priority ≠ 0 ∧
          s.shelves[k].entries[j].slot = w.slot)) := by
  unfold refusedMask
  rw [foldMask_bit (List.finRange 16) (fun k => m.getLsbD k.val && duplicates s.shelves[k] e w)]
  have : duplicates s.shelves[k] e w = decide
      (w.priority ≠ 0 ∧ ∃ j : EntryId, j ≠ e ∧ s.shelves[k].entries[j].priority ≠ 0 ∧
          s.shelves[k].entries[j].slot = w.slot) := by
    unfold duplicates
    rw [Bool.eq_iff_iff]
    simp [and_assoc]
  rw [this]; simp

/-- All that a write of one list entry does (R78). -/
theorem writeEntry_spec (k : ShelfId) (e : EntryId) (w : Entry) (s : State) :
   (∀ j : ShelfId, j ≠ k → (writeEntry k e w s).shelves[j] = s.shelves[j]) ∧
   (writeEntry k e w s).shelves[k].entries = s.shelves[k].entries.set e w ∧
   (w ≠ s.shelves[k].entries[e] → k ∈ (writeEntry k e w s).engine.queue.map EvalEntry.shelf) ∧
   (∀ j ∈ s.engine.queue.map EvalEntry.shelf, j ∈ (writeEntry k e w s).engine.queue.map EvalEntry.shelf) ∧
   (s.shelves[k].entries[e].priority ≠ 0 → targetSlot s k = some s.shelves[k].entries[e].slot →
            w.slot ≠ s.shelves[k].entries[e].slot ∨ w.priority = 0 → targetSlot (writeEntry k e w s) k = none) ∧
   sameBut (.shelves :: .queue :: sliceParts) s (writeEntry k e w s) := by
  by_cases h : w = s.shelves[k].entries[e]
  · have hd : writeEntry k e w s = s := by unfold writeEntry; rw [if_pos h]
    rw [hd]
    refine ⟨fun _ _ => rfl, ?_, fun hn => absurd h hn, fun _ hj => hj, fun h1 h2 h3 => ?_, sameBut.refl _ _⟩
    · have hx : s.shelves[k].entries.set e s.shelves[k].entries[e] = s.shelves[k].entries := by simp
      rw [h]; exact hx.symm
    · rcases h3 with h3 | h3
      · exact absurd (by rw [h]) h3
      · rw [h] at h3; exact absurd h3 h1
  · obtain ⟨s1, hs1⟩ : ∃ s1, s1 = s.setShelf k { s.shelves[k] with entries := s.shelves[k].entries.set e w } := ⟨_, rfl⟩
    obtain ⟨s2, hs2⟩ : ∃ s2, s2 = if s.shelves[k].entries[e].priority ≠ 0 ∧
        targetSlot s k = some s.shelves[k].entries[e].slot ∧
        (w.slot ≠ s.shelves[k].entries[e].slot ∨ w.priority = 0) then
        changeTarget k none s1
      else s1 := ⟨_, rfl⟩
    obtain ⟨x, hx⟩ : ∃ x : Shelf, x =
        { s2.shelves[k] with
          command := commandAfterWrite s2.shelves[k].command e s.shelves[k].entries[e] w
          failed :=
            pruneFailed
              { s2.shelves[k] with
                command := commandAfterWrite s2.shelves[k].command e s.shelves[k].entries[e] w } } := ⟨_, rfl⟩
    have hd : writeEntry k e w s = requestEvaluation k none (raiseListChange k (s2.setShelf k x)) := by
      unfold writeEntry; dsimp only; rw [if_neg h, hx, hs2, hs1]
    have h1 : sameBut [.shelves] s s1 := by rw [hs1]; exact setShelf_sameBut _ _ _
    have h2 : sameBut (.shelves :: .queue :: sliceParts) s1 s2 := by
      rw [hs2]; exact (changeTarget_sameBut _ _ _).ite (sameBut.refl _ _)
    have h3 : sameBut (.shelves :: .queue :: sliceParts) s2 (raiseListChange k (s2.setShelf k x)) :=
        (setShelf_sameBut _ _ _).andThen (raiseListChange_sameBut _ _)
    have h3s : (raiseListChange k (s2.setShelf k x)).shelves = s2.shelves.set k x :=
        raiseListChange_sameBut k (s2.setShelf k x) .shelves (by decide)
    have h3q : (raiseListChange k (s2.setShelf k x)).engine.queue = s2.engine.queue :=
        raiseListChange_sameBut k (s2.setShelf k x) .queue (by decide)
    have h4 := requestEvaluation_sameBut k none (raiseListChange k (s2.setShelf k x))
    have h4q := requestEvaluation_queued k none (raiseListChange k (s2.setShelf k x))
    rw [← hd] at h4 h4q
    have hsh : (writeEntry k e w s).shelves = s2.shelves.set k x := (h4 .shelves (by decide)).trans h3s
    have a1 : ∀ j : ShelfId, s1.shelves[j] = if k = j then
        { s.shelves[k] with entries := s.shelves[k].entries.set e w } else s.shelves[j] := by
        intro j; rw [hs1, State.setShelf_shelves_at]
    have a2 : ∀ j : ShelfId, s2.shelves[j] = if k = j then
        { s1.shelves[k] with target := s2.shelves[k].target } else s1.shelves[j] := by
      intro j
      rw [hs2]
      by_cases hc : s.shelves[k].entries[e].priority ≠ 0 ∧ targetSlot s k = some s.shelves[k].entries[e].slot ∧
          (w.slot ≠ s.shelves[k].entries[e].slot ∨ w.priority = 0)
      · rw [if_pos hc]
        simp only [changeTarget_shelves, getElem_set_fin, if_pos]
      · rw [if_neg hc]
        by_cases hj : k = j
        · subst hj; rw [if_pos rfl]
        · rw [if_neg hj]
    have hqm : ∀ j ∈ s.engine.queue.map EvalEntry.shelf, j ∈ s2.engine.queue.map EvalEntry.shelf := by
      intro j hj
      have hj1 : j ∈ s1.engine.queue.map EvalEntry.shelf := by rw [h1 .queue (by decide)]; exact hj
      rw [hs2]
      by_cases hc : s.shelves[k].entries[e].priority ≠ 0 ∧ targetSlot s k = some s.shelves[k].entries[e].slot ∧
          (w.slot ≠ s.shelves[k].entries[e].slot ∨ w.priority = 0)
      · rw [if_pos hc]
        unfold changeTarget requestCascade
        dsimp only
        refine (requestWhere_queued _ _ j).2 (Or.inr ?_)
        rw [raiseEdge_sameBut _ _ .queue (by decide), takeTarget_sameBut _ _ _ .queue (by decide)]
        exact hj1
      · rw [if_neg hc]; exact hj1
    refine ⟨fun j hj => ?_, ?_, fun _ => (h4q k).2 (Or.inl rfl), fun j hj => (h4q j).2 (Or.inr ?_),
        fun c1 c2 c3 => ?_, ?_⟩
    · simp only [hsh, getElem_set_fin, if_neg (Ne.symm hj)]; rw [a2, if_neg (Ne.symm hj), a1, if_neg (Ne.symm hj)]
    · simp only [hsh, getElem_set_fin, if_pos]; rw [hx]
      show s2.shelves[k].entries = _
      rw [a2, if_pos rfl]; show s1.shelves[k].entries = _; rw [a1, if_pos rfl]
    · rw [h3q]; exact hqm j hj
    · unfold targetSlot
      simp only [hsh, getElem_set_fin, if_pos]; rw [hx]
      show s2.shelves[k].target.map Target.slot = none
      rw [hs2, if_pos ⟨c1, c2, c3⟩]
      simp only [changeTarget_shelves, getElem_set_fin, if_pos]; rfl
    · exact ((h1.andThen h2 (rs := .shelves :: .queue :: sliceParts)).trans h3).andThen h4 (hp := fun _ h => h)

/-- What a changed port binding can change. -/
theorem rebindPort_sameBut (n : Slot) (a b : Option PortId) (s : State) : sameBut
    [.grades, .latches, .conditions, .noticeState, .control, .queue, .gradeHandovers] s (rebindPort n a b s) := by
  unfold rebindPort
  exact (sameBut.refl _ _).ite ((commitGrade_sameBut _ _ _).ite (sameBut.refl _ _))

/-- A changed port binding leaves the other slots. -/
theorem rebindPort_at (n j : Slot) (a b : Option PortId) (s : State) (h : n ≠ j) : (rebindPort n a b s).grades[j] =
    s.grades[j] := by
  unfold rebindPort; dsimp only
  by_cases h1 : a = b
  · rw [if_pos h1]
  · rw [if_neg h1]
    by_cases h2 : (a.isSome || decide (s.cands[n].kind = .line)) = true
    · rw [if_pos h2, commitGrade_at, if_neg h]
    · rw [if_neg h2]

/-- The grade record of slot n, of kind LINE or not, once its port binding has changed, `bound` saying whether a port entry
binds it now: PENDING, with its notice timer started or stopped (R55). -/
def GradeSlot.rebound (now : Nat) (line bound : Bool) (g : GradeSlot) : GradeSlot :=
  { g.clear with timer := bindTimer now line bound g }

/-- A changed port binding: the slot is rebound and regraded if it had a binding or is of kind LINE; else, and with no
change, it is left (R55). -/
theorem rebindPort_grade (n : Slot) (a b : Option PortId) (s : State) : (rebindPort n a b s).grades[n] =
    if a ≠ b ∧ (a.isSome = true ∨ s.cands[n].kind = .line) then
      { s.grades[n].rebound s.osc (decide (s.cands[n].kind = .line)) b.isSome with
        eff := effectiveGrade
          (s.setGrade n (s.grades[n].rebound s.osc (decide (s.cands[n].kind = .line)) b.isSome)) n }
    else s.grades[n] := by
  unfold rebindPort; dsimp only
  by_cases h1 : a = b
  · rw [if_pos h1, if_neg fun h => h.1 h1]
  · rw [if_neg h1]
    by_cases h2 : (a.isSome || decide (s.cands[n].kind = .line)) = true
    · rw [if_pos h2, commitGrade_at, if_pos rfl, if_pos ⟨h1, by simpa using h2⟩]; rfl
    · rw [if_neg h2, if_neg fun h => h2 (by simpa using h.2)]

/-- All that storing the receive halves does (R53 to R55). -/
theorem writeReceiveHalves_spec (ports : Vector RxPort 256) (s u : State) (hu : u = writeReceiveHalves ports s) :
   u.rxPorts = ports ∧
   (∀ n : Slot, u.grades[n] =
      if portOf s.rxPorts n ≠ portOf ports n ∧ ((portOf s.rxPorts n).isSome = true ∨ s.cands[n].kind = .line) then
        { s.grades[n].rebound s.osc (decide (s.cands[n].kind = .line)) (portOf ports n).isSome with
          eff := effectiveGrade u n }
      else s.grades[n]) ∧
   sameBut [.rxPorts, .grades, .latches, .conditions, .noticeState, .control, .queue, .gradeHandovers] s u := by
  obtain ⟨s0, hs0⟩ : ∃ s0 : State, s0 = { s with rxPorts := ports } := ⟨_, rfl⟩
  obtain ⟨F, hF⟩ : ∃ F : Slot → State → State, F = fun n t => rebindPort n (portOf s.rxPorts n) (portOf ports n) t :=
      ⟨_, rfl⟩
  have hFe : ∀ n t, F n t = rebindPort n (portOf s.rxPorts n) (portOf ports n) t := fun n t => by rw [hF]
  have hd : u = overSlots F s0 := by rw [hu, hF, hs0]; rfl
  have h01 : sameBut [.rxPorts] s s0 := by subst hs0; intro p hp; cases p <;> simp_all [Part.same]
  have hfr := overSlots_sameBut F (fun n t => by rw [hFe]; exact rebindPort_sameBut _ _ _ _) s0
  rw [← hd] at hfr
  have hg0 : s0.grades = s.grades := h01 .grades (by decide)
  have hc0 : s0.cands = s.cands := h01 .cands (by decide)
  have ho0 : s0.osc = s.osc := h01 .osc (by decide)
  refine ⟨(hfr .rxPorts (by decide)).trans (by rw [hs0]), fun n => ?_, h01.andThen hfr⟩
  have key : u.grades[n] = (rebindPort n (portOf s.rxPorts n) (portOf ports n) s0).grades[n] := by
    rw [hd]
    refine overSlots_at F (fun n t => t.grades[n])
        (sameBut [.grades, .latches, .conditions, .noticeState, .control, .queue, .gradeHandovers] s0)
        (fun n t => t.grades[n] = (rebindPort n (portOf s.rxPorts n) (portOf ports n) s0).grades[n]) s0 ?_ ?_ ?_ ?_
        (sameBut.refl _ _) n
    · intro i t h; rw [hFe]; exact h.trans (rebindPort_sameBut _ _ _ _)
    · intro i j t _ hij; rw [hFe, rebindPort_at _ _ _ _ _ hij]
    · intro i t hI hg
      have hg : t.grades[i] = s0.grades[i] := hg
      have hc : t.cands = s0.cands := hI .cands (by decide)
      have ht : t.triples = s0.triples := hI .triples (by decide)
      have ho : t.osc = s0.osc := hI .osc (by decide)
      rw [hFe, rebindPort_grade, rebindPort_grade]
      simp only [hg, hc, ho]
      split
      · congr 1
        exact effectiveGrade_congr i hc ht (by simp [State.setGrade])
      · rfl
    · intro i j t _ hij hq; rw [hFe, rebindPort_at _ _ _ _ _ hij]; exact hq
  rw [key, rebindPort_grade]
  simp only [hg0, hc0, ho0]
  split
  case isFalse => rfl
  case isTrue hch =>
    rw [rebindPort_grade, if_pos (by simp only [hc0]; exact hch)] at key
    simp only [hg0, hc0, ho0] at key
    congr 1
    refine (effectiveGrade_congr (s := s0.setGrade n _) n (hfr .cands (by decide)) (hfr .triples (by decide)) ?_).symm
    rw [key]
    simp [State.setGrade]

/-- What a write of a transmit half can change. -/
theorem writeTransmitHalf_sameBut (p : PortId) (w : TxWrite) (s : State) : sameBut [.txPorts, .fabric] s
    (writeTransmitHalf p w s) := by
  unfold writeTransmitHalf
  dsimp only
  split
  · exact (setTx_sameBut _ _ _).andThen (recomputePort_sameBut _ _)
  · exact (setTx_sameBut _ _ _).mono
  · exact (setTx_sameBut _ _ _).andThen (recomputePort_sameBut _ _)
  · exact (setTx_sameBut _ _ _).mono

/-- All that a write of a transmit half does (R138, R148). -/
theorem writeTransmitHalf_spec (p : PortId) (w : TxWrite) (s : State) :
   (∀ q : PortId, q ≠ p → (writeTransmitHalf p w s).txPorts[q] = s.txPorts[q]) ∧
   (writeTransmitHalf p w s).txPorts[p].inUse = s.rxPorts[p].inUse ∧
       (writeTransmitHalf p w s).txPorts[p].bound = s.rxPorts[p].bound ∧
   (writeTransmitHalf p w s).txPorts[p].address = w.address ∧ (writeTransmitHalf p w s).txPorts[p].tmap = w.tmap ∧
       (writeTransmitHalf p w s).txPorts[p].squelch = w.squelch ∧
   (writeTransmitHalf p w s).txPorts[p].fill = w.fill ∧ (writeTransmitHalf p w s).txPorts[p].intervalS = w.intervalS ∧
       (writeTransmitHalf p w s).txPorts[p].pathOn = w.pathOn := by
  have hrec : ∀ t : TxPort, t.inUse = s.rxPorts[p].inUse → t.bound = s.rxPorts[p].bound → t.address = w.address →
      t.tmap = w.tmap → t.squelch = w.squelch → t.fill = w.fill → t.intervalS = w.intervalS → t.pathOn = w.pathOn →
     let v := recomputePort p (s.setTx p t)
     (∀ q : PortId, q ≠ p → v.txPorts[q] = s.txPorts[q]) ∧ v.txPorts[p].inUse = s.rxPorts[p].inUse ∧
         v.txPorts[p].bound = s.rxPorts[p].bound ∧
      v.txPorts[p].address = w.address ∧ v.txPorts[p].tmap = w.tmap ∧ v.txPorts[p].squelch = w.squelch ∧
          v.txPorts[p].fill = w.fill ∧ v.txPorts[p].intervalS = w.intervalS ∧ v.txPorts[p].pathOn = w.pathOn := by
    intro t h1 h2 h3 h4 h5 h6 h7 h8 v
    have hr := recomputePort_settings p (s.setTx p t)
    rw [State.setTx_txPorts_at, if_pos rfl] at hr
    obtain ⟨r1, r2, r3, r4, r5, r6, r7, r8⟩ := hr
    refine ⟨fun q hq => ?_, r1.trans h1, r2.trans h2, r3.trans h3, r4.trans h4, r5.trans h5, r6.trans h6, r7.trans h7,
        r8.trans h8⟩
    show (recomputePort p (s.setTx p t)).txPorts[q] = _
    rw [recomputePort_at, if_neg (Ne.symm hq), State.setTx_txPorts_at, if_neg (Ne.symm hq)]
  have hset : ∀ t : TxPort, t.inUse = s.rxPorts[p].inUse → t.bound = s.rxPorts[p].bound → t.address = w.address →
      t.tmap = w.tmap → t.squelch = w.squelch → t.fill = w.fill → t.intervalS = w.intervalS → t.pathOn = w.pathOn →
     let v := s.setTx p t
     (∀ q : PortId, q ≠ p → v.txPorts[q] = s.txPorts[q]) ∧ v.txPorts[p].inUse = s.rxPorts[p].inUse ∧
         v.txPorts[p].bound = s.rxPorts[p].bound ∧
      v.txPorts[p].address = w.address ∧ v.txPorts[p].tmap = w.tmap ∧ v.txPorts[p].squelch = w.squelch ∧
          v.txPorts[p].fill = w.fill ∧ v.txPorts[p].intervalS = w.intervalS ∧ v.txPorts[p].pathOn = w.pathOn := by
    intro t h1 h2 h3 h4 h5 h6 h7 h8 v
    have hp : v.txPorts[p] = t := by show (s.setTx p t).txPorts[p] = t; rw [State.setTx_txPorts_at, if_pos rfl]
    rw [hp]
    refine ⟨fun q hq => ?_, h1, h2, h3, h4, h5, h6, h7, h8⟩
    show (s.setTx p t).txPorts[q] = _
    rw [State.setTx_txPorts_at, if_neg (Ne.symm hq)]
  unfold writeTransmitHalf
  dsimp only
  split
  · exact hrec _ rfl rfl rfl rfl rfl rfl rfl rfl
  · exact hset _ rfl rfl rfl rfl rfl rfl rfl rfl
  · exact hrec _ rfl rfl rfl rfl rfl rfl rfl rfl
  · exact hset _ rfl rfl rfl rfl rfl rfl rfl rfl

/-- A write of a transmit half is the one of R148. -/
theorem writeTransmitHalf_written (e : List Byte) (p : PortId) (s : State) :
    transmitWritten e p s (writeTransmitHalf p (txOf e) s) := by
  unfold writeTransmitHalf
  dsimp only
  split <;> rename_i h1 h2 <;> unfold transmitWritten <;> dsimp only
  · rw [if_pos (show s.rxPorts[p].inUse = true from h2), if_neg (by rw [h1]; exact Bool.false_ne_true), startMs_s]
    exact recomputePort_compared p _
  · rw [if_neg (by rw [show s.rxPorts[p].inUse = false from h2]; exact Bool.false_ne_true), if_pos h1]; rfl
  · rw [if_pos (show s.rxPorts[p].inUse = true from h2), if_pos h1]; exact recomputePort_compared p _
  · rw [if_neg (by rw [show s.rxPorts[p].inUse = false from h2]; exact Bool.false_ne_true),
      if_neg (by rw [h1]; exact Bool.false_ne_true)]
    rfl

/-- What port p of a block holds after the write: u0 has the receive halves, s is the state before. -/
def PortWritten (b : List Byte) (s u0 : State) (p : PortId) (u : State) : Prop :=
  (inBlock b p = true → u.txPorts[p].inUse = u0.rxPorts[p].inUse ∧ u.txPorts[p].bound = u0.rxPorts[p].bound ∧
      u.txPorts[p].address = (txOf (entryFor b p)).address ∧
    u.txPorts[p].tmap = (txOf (entryFor b p)).tmap ∧ u.txPorts[p].squelch = (txOf (entryFor b p)).squelch ∧
        u.txPorts[p].fill = (txOf (entryFor b p)).fill ∧
    u.txPorts[p].intervalS = (txOf (entryFor b p)).intervalS ∧ u.txPorts[p].pathOn = (txOf (entryFor b p)).pathOn) ∧
  (inBlock b p = false → u.txPorts[p] = s.txPorts[p])

/-- All that a write of a block of ports does (R175). -/
theorem applyPorts_spec (b : List Byte) (s : State) :
   (applyPorts b s).rxPorts = writtenPorts b s.rxPorts ∧ (∀ p, PortWritten b s (applyPorts b s) p (applyPorts b s)) ∧
   (∀ n : Slot, (applyPorts b s).grades[n] =
      if portOf s.rxPorts n ≠ portOf (applyPorts b s).rxPorts n ∧
          ((portOf s.rxPorts n).isSome = true ∨ s.cands[n].kind = .line) then
        { s.grades[n].rebound s.osc (decide (s.cands[n].kind = .line)) (portOf (applyPorts b s).rxPorts n).isSome with
          eff := effectiveGrade (applyPorts b s) n }
      else s.grades[n]) ∧
   sameBut [.rxPorts, .txPorts, .grades, .latches, .conditions, .noticeState, .control, .queue, .gradeHandovers,
       .fabric] s (applyPorts b s) := by
  obtain ⟨s1, hs1⟩ : ∃ s1, s1 = writeReceiveHalves (writtenPorts b s.rxPorts) s := ⟨_, rfl⟩
  obtain ⟨F, hF⟩ : ∃ F : PortId → State → State, F = fun p t => if inBlock b p
      then writeTransmitHalf p (txOf (entryFor b p)) t else t := ⟨_, rfl⟩
  have hFe : ∀ p t, F p t = if inBlock b p then writeTransmitHalf p (txOf (entryFor b p)) t
      else t := fun p t => by rw [hF]
  have hd : applyPorts b s = overPorts F s1 := by rw [hF, hs1]; rfl
  obtain ⟨w1, w2, w3⟩ := writeReceiveHalves_spec (writtenPorts b s.rxPorts) s s1 hs1
  have hstep : ∀ p t, sameBut [.txPorts, .fabric] t (F p t) :=
      fun p t => by rw [hFe]; exact (writeTransmitHalf_sameBut _ _ _).ite (sameBut.refl _ _)
  have hfr := overPorts_sameBut F hstep s1
  have hrx : (overPorts F s1).rxPorts = s1.rxPorts := hfr .rxPorts (by decide)
  have htx : s1.txPorts = s.txPorts := w3 .txPorts (by decide)
  have hat : ∀ (i j : PortId) (t : State), i ≠ j → (F i t).txPorts[j] = t.txPorts[j] := by
    intro i j t hij
    rw [hFe]
    by_cases hb : inBlock b i = true
    · rw [if_pos hb]; exact (writeTransmitHalf_spec i _ t).1 j (Ne.symm hij)
    · rw [if_neg hb]
  rw [hd]
  have hgr : (overPorts F s1).grades = s1.grades := hfr .grades (by decide)
  refine ⟨?_, fun p => ?_, fun n => ?_, w3.andThen hfr⟩
  · rw [hrx, w1]
  · have key : PortWritten b s s1 p (overPorts F s1) := by
      refine overPorts_at F (fun p t => t.txPorts[p]) (sameBut [.txPorts, .fabric] s1) (PortWritten b s s1) s1
          (fun i t h => h.trans (hstep i t)) (fun i j t _ hij => hat i j t hij) ?_ ?_ (sameBut.refl _ _) p
      · intro i t hI hg
        have hg : t.txPorts[i] = s.txPorts[i] := by simp only [htx] at hg; exact hg
        have hrx : t.rxPorts = s1.rxPorts := hI .rxPorts (by decide)
        refine ⟨fun hb => ?_, fun hb => ?_⟩
        · have hs := writeTransmitHalf_spec i (txOf (entryFor b i)) t
          rw [hFe, if_pos hb]
          simp only [hrx] at hs
          exact hs.2
        · rw [hFe, if_neg (by rw [hb]; simp)]; exact hg
      · intro i j t _ hij hq
        unfold PortWritten at hq ⊢
        rw [hat i j t hij]
        refine ⟨fun hb => ?_, hq.2⟩
        exact hq.1 hb
    unfold PortWritten at key ⊢
    simp only [hrx]
    exact key
  · have he : effectiveGrade (overPorts F s1) n = effectiveGrade s1 n :=
      effectiveGrade_congr n (hfr .cands (by decide)) (hfr .triples (by decide)) (by simp [hgr])
    rw [hrx, w1, he]
    simp only [hgr]
    exact w2 n

/-- What a write of the binding fields does to the candidate: a binding, an unbinding, a rebinding, and a change of the
maintenance hold or none (R20, R25 to R28). -/
theorem Cand.write_moves (now : Nat) (w : BindingWrite) (c x : Cand) (hx : x = c.write now w) :
  (c.kind = .none → w.kind ≠ .none → x.state = .down ∧ x.fresh = true ∧ x.health = false ∧ x.timer = .none) ∧
  (c.kind ≠ .none → w.kind = .none → x.state = .idle ∧ x.health = false ∧ x.timer = .none ∧ x.fresh = c.fresh) ∧
  (c.kind ≠ .none → w.kind ≠ .none → c.kind ≠ w.kind ∨ c.kind = .shelf ∧ c.source ≠ w.source →
     c.rebinds w = true ∧
     (c.health = false → x.state = .down ∧ x.timer = .none) ∧ x.fresh = false ∧ x.health = c.health ∧
     (c.health = true → if x.maintHold then x.state = .restoring ∧ x.timer = .wtrPaused (x.wtrS * 125000000)
        else if 0 < x.wtrS then x.state = .restoring ∧ x.timer = .wtr (now + x.wtrS * 125000000)
        else x.state = .available ∧ x.timer = .none)) ∧
  (c.kind = w.kind → (c.kind = .shelf → c.source = w.source) →
     c.rebinds w = false ∧
     x.health = c.health ∧
     (∀ due, c.kind ≠ .none → c.state = .restoring → c.timer = .wtr due → c.maintHold = false → w.maintHold = true →
        x.state = .restoring ∧ x.timer = .wtrPaused (due - now)) ∧
     (∀ left, c.kind ≠ .none → c.state = .restoring → c.timer = .wtrPaused left → c.maintHold = true →
         w.maintHold = false →
        if left = 0 then x.state = .available ∧ x.fresh = false ∧ x.timer = .none else x.state = .restoring ∧
            x.timer = .wtr (now + left)) ∧
     (c.maintHold = w.maintHold ∨ c.state ≠ .restoring → x.state = c.state ∧ x.timer = c.timer)) := by
  obtain ⟨k, so, ho, wt, mh, st, fr, he, ti⟩ := c
  obtain ⟨wk, ws, wh, ww, wm⟩ := w
  subst hx
  refine ⟨?_, ?_, ?_, ?_⟩
  · intro h1 h2; dsimp only at h1 h2; subst h1; simp [Cand.write, Cand.store, h2]
  · intro h1 h2; dsimp only at h1 h2; subst h2; simp [Cand.write, Cand.store, h1]
  · intro h1 h2 h3; dsimp only at h1 h2 h3
    have hr : Cand.rebinds ⟨wk, ws, wh, ww, wm⟩ ⟨k, so, ho, wt, mh, st, fr, he, ti⟩ = true := by
      rcases h3 with h3 | ⟨h3, h4⟩
      · simp [Cand.rebinds, h1, h2, Ne.symm h3]
      · by_cases hk : wk = k
        · subst hk; simp [Cand.rebinds, h3, Ne.symm h4]
        · simp [Cand.rebinds, h1, h2, hk]
    refine ⟨hr, ?_⟩
    unfold Cand.write
    dsimp only
    rw [if_neg h1, if_neg h2, if_pos hr]
    cases he
    · simp [Cand.store]
    · rw [if_pos rfl]
      unfold Cand.recover Cand.startWtr Cand.enterAvailable Config.periodsPerS
      cases wm <;> by_cases hw : 0 < ww <;> simp [Cand.store, hw]
  · intro h1 h2; dsimp only at h1 h2; subst h1
    have hr : Cand.rebinds ⟨k, ws, wh, ww, wm⟩ ⟨k, so, ho, wt, mh, st, fr, he, ti⟩ = false := by
      by_cases hk : k = .shelf
      · simp [Cand.rebinds, hk, h2 hk]
      · simp [Cand.rebinds, hk]
    refine ⟨hr, ?_⟩
    unfold Cand.write
    dsimp only
    by_cases hn : k = .none
    · subst hn; simp [Cand.store]
    · rw [if_neg hn, if_neg hn, if_neg (by rw [hr]; simp)]
      unfold Cand.applyHold Cand.enterAvailable
      cases st <;> cases mh <;> cases wm <;> cases ti <;> (simp [Cand.store, hn]; try split <;> simp_all)

/-- What a write of the grade settings does to the grade state: cleared by a binding change; else kept, remapped or held
by a change of map (R66, R72). -/
theorem GradeSlot.write_moves (now : Nat) (m : GradeMap) (b1 b2 rb : Bool) (w : GradeWrite) (g x : GradeSlot)
    (hx : g.write now m b1 b2 rb w = x) :
   (rb = true → x.code = .pending ∧ x.path = none ∧ x.mapped = 15 ∧ x.held = !m.attached ∧
     x.timer = bindTimer now b1 b2 x) ∧
   (rb = false → x.code = g.code ∧ x.path = g.path ∧ x.timer = g.timer ∧
     (w.rmap = g.rmap → x.mapped = g.mapped ∧ x.held = g.held) ∧
     (w.rmap ≠ g.rmap → m.attached = false → x.mapped = g.mapped ∧ x.held = true) ∧
     (w.rmap ≠ g.rmap → m.attached = true → x.held = false ∧ x.mapped = match (motive := Bool → CodeState → Rank) b1,
         g.code with | true, .received c => m.entries[c] | _, _ => g.mapped)) := by
  unfold GradeSlot.write at hx
  dsimp only at hx
  refine ⟨fun h => ?_, fun h => ?_⟩
  · rw [if_pos h] at hx; subst hx; exact ⟨rfl, rfl, rfl, rfl, rfl⟩
  · rw [if_neg (by rw [h]; simp)] at hx
    by_cases h1 : w.rmap = g.rmap
    · rw [if_pos h1] at hx; subst hx; simp [GradeSlot.store, h1]
    · rw [if_neg h1] at hx
      by_cases h2 : m.attached = true
      · rw [if_pos h2] at hx
        unfold GradeSlot.remap at hx
        obtain ⟨q0,q1,q2,q3,q4,q5,code,q7,q8,q9,q10,q11⟩ := g
        cases b1 <;> cases code <;> simp only [GradeSlot.store] at hx <;> subst hx <;> simp_all
      · rw [if_neg h2] at hx; subst hx; simp_all [GradeSlot.store]

/-- What a write of a candidate hands on: CAND_STATE and evaluation requests on a change of state or a rebinding, the
lock-failed removal, the health reports consumed and FREQ_FAIL (R19, R30 to R32, R46). -/
theorem writeCandidate_told (n : Slot) (bw : BindingWrite) (gw : GradeWrite) (fw : FrequencyWrite) (s u : State)
    (hu : u = writeCandidate n bw gw fw s) :
  (s.cands[n].state ≠ (s.cands[n].write s.osc bw).state ∨ s.cands[n].rebinds bw = true → candStateTold n s u) ∧
  u.flight.removals = (if (s.cands[n].state ≠ (s.cands[n].write s.osc bw).state ∨ s.cands[n].rebinds bw = true) ∧
      s.cands[n].state = .available then s.flight.removals ++ [n] else s.flight.removals) ∧
  u.flight.health = (if s.cands[n].kind ≠ .none ∧ bw.kind = .none
      then s.flight.health.filter (fun r => decide (r.1 ≠ n)) else s.flight.health) ∧
  u.events.copies[condFreqFail n] = (if decide (s.cands[n].kind ≠ .none) = decide (bw.kind ≠ .none)
      then s.events.copies[condFreqFail n] else if s.inputs[n].freqFail then false
      else s.events.copies[condFreqFail n]) := by
  obtain ⟨s1, hs1⟩ : ∃ s1, s1 = commitCand n (s.cands[n].write s.osc bw) (s.cands[n].rebinds bw) s := ⟨_, rfl⟩
  obtain ⟨s2, hs2⟩ : ∃ s2, s2 = writeBinding n bw s := ⟨_, rfl⟩
  have h12 : s2 = watchInput n (decide (s.cands[n].kind ≠ .none)) (decide (bw.kind ≠ .none)) s1 := by rw [hs2, hs1]; rfl
  obtain ⟨s3, hs3⟩ : ∃ s3, s3 = writeGrade n gw (decide (s.cands[n].kind ≠ bw.kind) || s.cands[n].rebinds bw) s2 :=
      ⟨_, rfl⟩
  have h34 : u = s3.setInput n (s3.inputs[n].write fw) := by rw [hu, hs3, hs2]; rfl
  have f01 := commitCand_sameBut n (s.cands[n].write s.osc bw) (s.cands[n].rebinds bw) s
  have f12 := watchInput_sameBut n (decide (s.cands[n].kind ≠ .none)) (decide (bw.kind ≠ .none)) s1
  have f23 := (writeGrade_spec n gw (decide (s.cands[n].kind ≠ bw.kind) || s.cands[n].rebinds bw) s2).2
  have f34 := setInput_sameBut s3 n (s3.inputs[n].write fw)
  rw [← hs1] at f01; rw [← h12] at f12; rw [← hs3] at f23; rw [← h34] at f34
  have hsh2 : s2.shelves = s.shelves := (f12 .shelves (by decide)).trans (f01 .shelves (by decide))
  refine ⟨fun hch => ?_, ?_, ?_, ?_⟩
  · have t1 := commitCand_told n (s.cands[n].write s.osc bw) (s.cands[n].rebinds bw) s hch
    rw [← hs1] at t1
    refine ⟨fun he => ?_, fun k => ?_⟩
    · have l12 : latchStays (candLatch 0 n) s1 s2 := by
        rw [h12]; unfold watchInput
        split
        · exact fun h => h
        · refine latchStays.trans (t :=
              ((if decide (bw.kind ≠ .none) then s1 else consumeReports n s1).setInput n
              (s1.inputs[n].watch (decide (bw.kind ≠ .none))))) ?_ (raiseCondition_stays _ _ _ _ _ ?_)
          · refine latchStays.of_eq _ ?_
            split <;> rfl
          · rw [condLatch_freqFail]; intro h; have := congrArg Fin.val h; simp [candLatch] at this
      have l23 : latchStays (candLatch 0 n) s2 s3 := by
        rw [hs3]; unfold writeGrade commitGrade regrade
        dsimp only
        refine latchStays.trans ?_ (raiseCondition_stays _ _ _ _ _ ?_)
        · split
          · exact latchStays.of_eq _ rfl
          · refine latchStays.trans ?_ (latchStays.of_eq _ (handGrade_sameBut n _ .latches (by decide)))
            refine latchStays.trans ?_ (latchStays.of_eq _ (requestListing_sameBut n _ .latches (by decide)))
            split
            · exact latchStays.of_eq _ rfl
            · exact fun h => raiseEdge_stays _ _ _ h
        · rw [condLatch_noticeLost]; intro h; have := congrArg Fin.val h; simp [candLatch] at this
      have l34 : latchStays (candLatch 0 n) s3 u := latchStays.of_eq _ (f34 .latches (by decide))
      exact (l12.trans (l23.trans l34)) (t1.1 he)
    · have q1 := t1.2 k
      have q2 : s2.engine.queue = s1.engine.queue := f12 .queue (by decide)
      have q4 : u.engine.queue = s3.engine.queue := f34 .queue (by decide)
      have q3 := (commitGrade_told n (s2.grades[n].write s2.osc s2.rmaps[gw.rmap] (decide (s2.cands[n].kind = .line))
          (portOf s2.rxPorts n).isSome (decide (s.cands[n].kind ≠ bw.kind) || s.cands[n].rebinds bw) gw) s2).1
      have hs3' : s3 = commitGrade n (s2.grades[n].write s2.osc s2.rmaps[gw.rmap] (decide (s2.cands[n].kind = .line))
          (portOf s2.rxPorts n).isSome (decide (s.cands[n].kind ≠ bw.kind) || s.cands[n].rebinds bw) gw) s2 := hs3
      rw [← hs3'] at q3
      rw [q4]
      by_cases he : s3.grades[n].eff = s2.grades[n].eff
      · rw [(q3.1 he).1, q2]; exact q1
      · have := (q3.2.1 he).1 k
        rw [this]
        simp only [hsh2, q2]
        rw [q1]
        exact ⟨fun hh => hh.elim Or.inl id, Or.inr⟩
  · have hr := commitCand_removals n (s.cands[n].write s.osc bw) (s.cands[n].rebinds bw) s
    rw [← hs1] at hr
    have e : u.flight.removals = s1.flight.removals :=
        (f34 .removals (by decide)).trans ((f23 .removals (by decide)).trans (f12 .removals (by decide)))
    rw [e, hr]
  · have e : u.flight.health = s2.flight.health :=
        (f34 .healthReports (by decide)).trans (f23 .healthReports (by decide))
    have e1 : s1.flight.health = s.flight.health := f01 .healthReports (by decide)
    rw [e, h12, watchInput_health, e1]
    generalize s.cands[n].kind = ka
    generalize bw.kind = kb
    by_cases ha : ka = .none <;> by_cases hb : kb = .none <;> simp [ha, hb]
  · have hcn : ∀ m : Slot, (condNoticeLost m) ≠ condFreqFail n := fun m h => by
      have := congrArg Fin.val h; simp [condNoticeLost, condFreqFail] at this; omega
    have c1 : s1.events.copies[condFreqFail n] = s.events.copies[condFreqFail n] := by
      rw [hs1]
      exact commitCand_copy n _ _ s _ fun k h => by
        have := congrArg Fin.val h; simp [condGroup, condFreqFail] at this; omega
    have i1 : s1.inputs = s.inputs := f01 .inputs (by decide)
    have c2 : s2.events.copies[condFreqFail n] = if decide (s.cands[n].kind ≠ .none) = decide (bw.kind ≠ .none)
        then s1.events.copies[condFreqFail n] else if s.inputs[n].freqFail then false
        else s1.events.copies[condFreqFail n] := by
      rw [h12]; unfold watchInput
      by_cases hh : decide (s.cands[n].kind ≠ .none) = decide (bw.kind ≠ .none)
      · rw [if_pos hh, if_pos hh]
      · rw [if_neg hh, if_neg hh]
        simp only [raiseCondition_copies, i1]
        have : ((if decide (bw.kind ≠ .none) = true then s1 else consumeReports n s1).setInput n
            (s.inputs[n].watch (decide (bw.kind ≠ .none)))).events = s1.events := by split <;> rfl
        simp only [this]
        by_cases hf : s.inputs[n].freqFail = true
        · simp only [hf, Bool.true_eq_false, if_false, getElem_set_fin, if_true]
        · simp only [hf, if_true, Bool.false_eq_true, if_false]
    have c3 : s3.events.copies[condFreqFail n] = s2.events.copies[condFreqFail n] := by
      have hr := regrade_sameBut n (s2.setGrade n
          { (s2.grades[n].write s2.osc s2.rmaps[gw.rmap] (decide (s2.cands[n].kind = .line))
          (portOf s2.rxPorts n).isSome (decide (s.cands[n].kind ≠ bw.kind) || s.cands[n].rebinds bw) gw) with eff :=
          s2.grades[n].eff }) .conditions (by decide)
      rw [hs3]; unfold writeGrade commitGrade
      simp only [raiseCondition_copies]
      split
      · simp only [show _ = _ from hr]; rfl
      · rw [getElem_set_fin, if_neg (hcn n)]; simp only [show _ = _ from hr]; rfl
    rw [show u.events.copies = s3.events.copies from f34 .conditions (by decide), c3, c2, c1]

/-- The Event Unit with the settings of a node write stored, before the write's effects (R155, R160). -/
def EventUnit.withSettings (e : EventUnit) (w : NodeWrite) : EventUnit :=
  { e with
    enables := w.enables
    levels := w.levels
    destination := w.destination
    spacingMs := w.spacingMs
    summaryS := w.summaryS }

/-- The enables and modes decide which latches are enabled and which are level latches. -/
theorem EventUnit.withSettings_eq (e : EventUnit) (w : NodeWrite) (l : LatchId) (x : EventUnit)
    (h1 : x.enables = w.enables) (h2 : x.levels = w.levels) :
    (e.withSettings w).enabled l = x.enabled l ∧ (e.withSettings w).isLevel l = x.isLevel l ∧
      (e.withSettings w).present l = e.present l := by
  unfold EventUnit.enabled EventUnit.isLevel
  rw [h1, h2]; exact ⟨rfl, rfl, rfl⟩

/-- Some latch stands exactly when one is not CLEAR (R159). -/
theorem EventUnit.standing_nonempty (e : EventUnit) : (!e.standing.isEmpty) = true ↔ ∃ l : LatchId,
    e.latches[l] ≠ .clear := by
  unfold EventUnit.standing
  simp [List.filter_eq_nil_iff, -Fin.getElem_fin]

/-- What a node write does to the latches, the notice state and the timers of the Event Unit (R155, R159, R160). -/
theorem EventUnit.write_moves (now : Nat) (w : NodeWrite) (e x : EventUnit) (hx : x = e.write now w) :
   (∀ l : LatchId, x.enabled l = true → x.latches[l] =
      if e.enabled l = true ∧ e.isLevel l = x.isLevel l then e.latches[l]
      else if x.isLevel l = true ∧ e.present l = true then .set else .clear) ∧
   x.spacingTimer = e.spacingTimer ∧
   x.summaryTimer = (if x.summaryS = e.summaryS then e.summaryTimer else if x.summaryS = 0 then none
       else some (now + x.summaryS * 125000000)) ∧
   x.resume = (if x.destination = e.destination then e.resume else none) ∧
   (x.news = true ↔ e.news = true ∨
      (∃ l : LatchId, x.enabled l = true ∧ x.isLevel l = true ∧ e.present l = true ∧
          (e.enabled l = false ∨ e.isLevel l = false)) ∨
      x.destination ≠ e.destination ∧ ∃ l : LatchId, x.latches[l] ≠ .clear) := by
  obtain ⟨e1, he1⟩ : ∃ e1 : EventUnit, e1 = e.withSettings w := ⟨_, rfl⟩
  have f := EventUnit.write_fields now w e
  rw [← hx] at f
  obtain ⟨f1, f2, f3, f4, f5, f6, f7⟩ := f
  have hl : x.latches = Vector.ofFn (latchAfterWrite e e1) := by
    rw [hx, he1]; unfold EventUnit.write; dsimp only; split <;> split <;> rfl
  have hse := fun l => EventUnit.withSettings_eq e w l x f1 f2
  rw [← he1] at hse
  have hn : x.news = if w.destination = e.destination then (e.news || (List.finRange 195).any (latchArms e e1))
      else (e.news || (List.finRange 195).any (latchArms e e1)) || !x.standing.isEmpty := by
    have : x.standing = ({ e1 with latches := x.latches } : EventUnit).standing := rfl
    rw [this, hl]
    rw [hx, he1]; unfold EventUnit.write EventUnit.withSettings; dsimp only
    split <;> split <;> rfl
  have harm : (List.finRange 195).any (latchArms e e1) = true ↔ ∃ l : LatchId, x.enabled l = true ∧
      x.isLevel l = true ∧ e.present l = true ∧ (e.enabled l = false ∨ e.isLevel l = false) := by
    rw [List.any_eq_true]
    refine ⟨fun ⟨l, _, h⟩ => ⟨l, ?_⟩, fun ⟨l, h⟩ => ⟨l, List.mem_finRange l, ?_⟩⟩
    · unfold latchArms at h
      rw [(hse l).1, (hse l).2.1, (hse l).2.2] at h
      simpa [and_assoc] using h
    · unfold latchArms
      rw [(hse l).1, (hse l).2.1, (hse l).2.2]
      simpa [and_assoc] using h
  refine ⟨fun l hen => ?_, ?_, ?_, ?_, ?_⟩
  · simp only [hl, Fin.getElem_fin, Vector.getElem_ofFn]
    show latchAfterWrite e e1 l = _
    unfold latchAfterWrite latchArms
    rw [(hse l).1, (hse l).2.1, (hse l).2.2, hen]
    have hp : e.isLevel l = false ∨ e.isLevel l = true := by cases e.isLevel l <;> simp
    cases he : e.enabled l <;> cases hi : e.isLevel l <;> cases hj : x.isLevel l <;> cases hp : e.present l <;> simp
  · rw [hx]; unfold EventUnit.write; dsimp only; split <;> split <;> rfl
  · rw [f5]; rw [hx]; unfold EventUnit.write; dsimp only
    by_cases b : w.summaryS = e.summaryS
    · rw [if_pos b, if_pos b]; split <;> rfl
    · rw [if_neg b, if_neg b]
      show (if w.summaryS = 0 then none else startMs now (w.summaryS * 1000)) = _
      rw [startMs_s]
  · rw [f3]; rw [hx]; unfold EventUnit.write; dsimp only
    by_cases a : w.destination = e.destination <;> by_cases b : w.summaryS = e.summaryS <;> simp [a, b]
  · rw [hn, f3]
    by_cases a : w.destination = e.destination
    · rw [if_pos a, Bool.or_eq_true, harm]
      exact ⟨fun h => h.elim Or.inl fun h => Or.inr (Or.inl h),
          fun h => h.elim Or.inl fun h => h.elim Or.inr fun h => absurd a h.1⟩
    · rw [if_neg a, Bool.or_eq_true, Bool.or_eq_true, harm, EventUnit.standing_nonempty, or_assoc]
      simp [a]

/-- A write of one list entry leaves the slices and the GROUP copies of the other shelves (R78). -/
theorem writeEntry_others (k : ShelfId) (e : EntryId) (w : Entry) (s : State) (j : ShelfId) (hj : j ≠ k) :
   (writeEntry k e w s).slices[j] = s.slices[j] ∧
       (writeEntry k e w s).events.copies[condGroup j] = s.events.copies[condGroup j] := by
  by_cases h : w = s.shelves[k].entries[e]
  · have hd : writeEntry k e w s = s := by unfold writeEntry; rw [if_pos h]
    rw [hd]; exact ⟨rfl, rfl⟩
  · obtain ⟨s1, hs1⟩ : ∃ s1, s1 = s.setShelf k { s.shelves[k] with entries := s.shelves[k].entries.set e w } := ⟨_, rfl⟩
    obtain ⟨s2, hs2⟩ : ∃ s2, s2 = if s.shelves[k].entries[e].priority ≠ 0 ∧
        targetSlot s k = some s.shelves[k].entries[e].slot ∧
        (w.slot ≠ s.shelves[k].entries[e].slot ∨ w.priority = 0) then
        changeTarget k none s1
      else s1 := ⟨_, rfl⟩
    obtain ⟨x, hx⟩ : ∃ x : Shelf, x =
        { s2.shelves[k] with
          command := commandAfterWrite s2.shelves[k].command e s.shelves[k].entries[e] w
          failed :=
            pruneFailed
              { s2.shelves[k] with
                command := commandAfterWrite s2.shelves[k].command e s.shelves[k].entries[e] w } } := ⟨_, rfl⟩
    obtain ⟨s3, hs3⟩ : ∃ s3, s3 = s2.setShelf k x := ⟨_, rfl⟩
    have hd : writeEntry k e w s = requestEvaluation k none (raiseListChange k s3) := by
      unfold writeEntry; dsimp only; rw [if_neg h, hs3, hx, hs2, hs1]
    have h4 := raiseListChange_sameBut k s3
    have h5 := requestEvaluation_sameBut k none (raiseListChange k s3)
    rw [← hd] at h5
    have hsl : (writeEntry k e w s).slices = s2.slices := by
        rw [(h5 .slices (by decide)), (h4 .slices (by decide)), hs3]; rfl
    have hco : (writeEntry k e w s).events.copies = (raiseListChange k s3).events.copies := h5 .conditions (by decide)
    have hg : condGroup j ≠ condModuleSilent k := fun hh => by
      have := congrArg Fin.val hh; simp [condGroup, condModuleSilent] at this; omega
    have hgg : condGroup j ≠ condGroup k := fun hh => by
      have := congrArg Fin.val hh; simp only [condGroup] at this; exact hj (Fin.ext (by omega))
    simp only [hsl, hco]
    have hs3e : s3.events = s2.events := by rw [hs3]; rfl
    have hr : (raiseListChange k s3).events.copies[condGroup j] = s2.events.copies[condGroup j] := by
      unfold raiseListChange
      simp only [eventStep_copies]
      unfold EventUnit.regroup
      split
      · simp only [hs3e]
      · simp only [(EventUnit.condition_keeps _ _ _).1, getElem_set_fin, if_neg (Ne.symm hgg), hs3e]
    rw [hr]
    have hs1' : s1.slices = s.slices ∧ s1.events = s.events := by rw [hs1]; exact ⟨rfl, rfl⟩
    by_cases hcc : s.shelves[k].entries[e].priority ≠ 0 ∧
        targetSlot s k = some s.shelves[k].entries[e].slot ∧
        (w.slot ≠ s.shelves[k].entries[e].slot ∨ w.priority = 0)
    · rw [if_pos hcc] at hs2
      simp only [hs2]
      obtain ⟨s4, hs4⟩ : ∃ s4, s4 = s1.setShelf k { s1.shelves[k] with target := (none : Option Target) } := ⟨_, rfl⟩
      have hs4' : s4.slices = s.slices ∧ s4.events = s.events := by rw [hs4]; exact hs1'
      have hct : changeTarget k none s1 = requestCascade k (raiseEdge (shelfLatch 0 k) (takeTarget k none s4)) := by
          rw [hs4]; rfl
      have a := requestCascade_sameBut k (raiseEdge (shelfLatch 0 k) (takeTarget k none s4))
      have b := raiseEdge_sameBut (shelfLatch 0 k) (takeTarget k none s4)
      rw [← hct] at a
      have a1 : (changeTarget k none s1).slices = (takeTarget k none s4).slices :=
          (a .slices (by decide)).trans (b .slices (by decide))
      have a2 : (changeTarget k none s1).events.copies = (takeTarget k none s4).events.copies :=
          (a .conditions (by decide)).trans (b .conditions (by decide))
      have t1 := takeTarget_slices k none s4 j hj
      have t2 := takeTarget_copy k none s4 _ hg
      simp only [hs4'] at t1 t2
      simp only [a1, a2]
      exact ⟨t1, t2⟩
    · rw [if_neg hcc] at hs2
      simp only [hs2, hs1', and_self]

/-- What a write of entry e leaves of its shelf: an undisturbed target, the settings, the command unless the write drops
it, the lock-failed slots that the list still lists, and GROUP (R78, R99, R154). -/
def entryWritten (k : ShelfId) (e : EntryId) (w : Entry) (s u : State) : Prop :=
  (s.shelves[k].entries[e].priority = 0 ∨ targetSlot s k ≠ some s.shelves[k].entries[e].slot ∨
              w.slot = s.shelves[k].entries[e].slot ∧ w.priority ≠ 0 →
            u.shelves[k].target = s.shelves[k].target ∧ u.slices[k] = s.slices[k]) ∧
          u.shelves[k].sel = s.shelves[k].sel ∧
          (w = s.shelves[k].entries[e] → u.shelves[k] = s.shelves[k]) ∧
          (w ≠ s.shelves[k].entries[e] →
            u.shelves[k].command =
                (if (s.shelves[k].command = .force e ∨ s.shelves[k].command = .manual e) ∧
                    (w.slot ≠ s.shelves[k].entries[e].slot ∨ w.priority ≠ s.shelves[k].entries[e].priority ∨
                      w.lockout = true ∧ s.shelves[k].entries[e].lockout = false)
                  then .none else s.shelves[k].command) ∧
              (∀ n : Slot, u.shelves[k].failed[n] = (s.shelves[k].failed[n] && u.shelves[k].lists n)) ∧
              u.events.copies[condGroup k] = groupPresent u k)

/-- What a write of one list entry does to its shelf (R78). -/
theorem writeEntry_written (k : ShelfId) (e : EntryId) (w : Entry) (s : State) : entryWritten k e w s
    (writeEntry k e w s) := by
  by_cases h : w = s.shelves[k].entries[e]
  · have hd : writeEntry k e w s = s := by unfold writeEntry; rw [if_pos h]
    rw [hd]
    exact ⟨fun _ => ⟨rfl, rfl⟩, rfl, fun _ => rfl, fun hn => absurd h hn⟩
  · obtain ⟨s1, hs1⟩ : ∃ s1, s1 = s.setShelf k { s.shelves[k] with entries := s.shelves[k].entries.set e w } := ⟨_, rfl⟩
    obtain ⟨s2, hs2⟩ : ∃ s2, s2 = if s.shelves[k].entries[e].priority ≠ 0 ∧
        targetSlot s k = some s.shelves[k].entries[e].slot ∧
        (w.slot ≠ s.shelves[k].entries[e].slot ∨ w.priority = 0) then
        changeTarget k none s1
      else s1 := ⟨_, rfl⟩
    obtain ⟨x, hx⟩ : ∃ x : Shelf, x =
        { s2.shelves[k] with
          command := commandAfterWrite s2.shelves[k].command e s.shelves[k].entries[e] w
          failed :=
            pruneFailed
              { s2.shelves[k] with
                command := commandAfterWrite s2.shelves[k].command e s.shelves[k].entries[e] w } } := ⟨_, rfl⟩
    obtain ⟨s3, hs3⟩ : ∃ s3, s3 = s2.setShelf k x := ⟨_, rfl⟩
    have hd : writeEntry k e w s = requestEvaluation k none (raiseListChange k s3) := by
      unfold writeEntry; dsimp only; rw [if_neg h, hs3, hx, hs2, hs1]
    have h4 := raiseListChange_sameBut k s3
    have h5 := requestEvaluation_sameBut k none (raiseListChange k s3)
    rw [← hd] at h5
    have hsh : (writeEntry k e w s).shelves = s3.shelves := (h5 .shelves (by decide)).trans (h4 .shelves (by decide))
    have hsl : (writeEntry k e w s).slices = s2.slices := by
        rw [(h5 .slices (by decide)), (h4 .slices (by decide)), hs3]; rfl
    have hca : (writeEntry k e w s).cands = s3.cands := (h5 .cands (by decide)).trans (h4 .cands (by decide))
    have hco : (writeEntry k e w s).events.copies = (raiseListChange k s3).events.copies := h5 .conditions (by decide)
    have h3k : s3.shelves[k] = x := by rw [hs3, State.setShelf_shelves_at, if_pos rfl]
    have h1k : s1.shelves[k] = { s.shelves[k] with entries := s.shelves[k].entries.set e w } := by
        rw [hs1, State.setShelf_shelves_at, if_pos rfl]
    have h2k : s2.shelves[k] = { s1.shelves[k] with target := s2.shelves[k].target } := by
      rw [hs2]
      split
      · simp only [changeTarget_shelves, getElem_set_fin, if_pos]
      · rfl
    have hxk : (writeEntry k e w s).shelves[k] = x := by simp only [hsh]; exact h3k
    unfold entryWritten
    rw [hxk]
    refine ⟨fun hc => ⟨?_, ?_⟩, ?_, fun hh => absurd hh h, fun _ => ⟨?_, fun n => ?_, ?_⟩⟩
    · rw [hx]; show s2.shelves[k].target = _
      rw [hs2, if_neg (by tauto), h1k]
    · have hq : s2 = s1 := by rw [hs2, if_neg (by tauto)]
      simp only [hsl, hq, hs1]; rfl
    · rw [hx]; show s2.shelves[k].sel = _; rw [h2k, h1k]
    · rw [hx]; show commandAfterWrite s2.shelves[k].command e s.shelves[k].entries[e] w = _
      rw [h2k, h1k]; unfold commandAfterWrite
      simp
    · rw [hx]; show (pruneFailed _)[n] = _
      unfold pruneFailed
      simp only [Fin.getElem_fin, Vector.getElem_ofFn]
      show ((s2.shelves[k].failed[n]) && s2.shelves[k].lists n) = (s.shelves[k].failed[n] && s2.shelves[k].lists n)
      rw [h2k, h1k]
    · simp only [hco]
      rw [raiseListChange_group]
      exact (groupPresent_congr k (by simp only [hsh]) hca).symm

/-- A block of ports is the receive halves, then each transmit half in table order (R148, R175). -/
theorem applyPorts_order (b : List Byte) (s : State) : ∃ v : State, v.rxPorts = writtenPorts b s.rxPorts ∧
   sameBut [.rxPorts, .grades, .latches, .conditions, .noticeState, .control, .queue, .gradeHandovers] s v ∧
   inOrder (fun p => transmitWritten (entryFor b p) p) ((List.finRange 256).filter fun p => inBlock b p) v
       (applyPorts b s) := by
  refine ⟨writeReceiveHalves (writtenPorts b s.rxPorts) s, (writeReceiveHalves_spec _ s _ rfl).1,
      (writeReceiveHalves_spec _ s _ rfl).2.2, ?_⟩
  exact (foldl_inOrder (fun p t => writeTransmitHalf p (txOf (entryFor b p)) t) (fun p _ => inBlock b p)
      (fun p => transmitWritten (entryFor b p) p) (fun _ => True)
    (writeReceiveHalves (writtenPorts b s.rxPorts) s) (fun _ _ _ _ => trivial) (fun _ _ _ => rfl)
        (fun p t _ => writeTransmitHalf_written (entryFor b p) p t) (List.finRange 256) _ trivial).1

end Sys2Proof.Machine
end

