-- ==== Sys2Proof/Laws/Commands.lean ====
section
/-! SUPPORT. The frame of every command: which parts of the state it can change, whatever the state it starts from. -/

namespace Sys2Proof.Machine

-- One theorem after the other: the joined text would otherwise ask for a thread per waiting proof.
set_option Elab.async false

/-! ### Frames of the commands' own operations -/

theorem joinLocal_sameBut (f : Frame) (s : State) :
    sameBut [.localIn, .control, .latches, .noticeState] s (joinLocal f s) := by
  unfold joinLocal
  refine sameBut.ite ?_ (((raiseEdge_sameBut (deviceLatch 1) s).mono).trans ?_)
  · intro p hp; cases p <;> simp_all [Part.same]
  · exact sameBut.ite (joinToControl_sameBut _ _).mono (sameBut.refl _ _)

theorem joinRequests_sameBut (f : Frame) (s : State) :
    sameBut [.requests, .control, .latches, .noticeState] s (joinRequests f s) := by
  unfold joinRequests
  refine sameBut.ite ?_ (raiseEdge_sameBut _ _).mono
  intro p hp; cases p <;> simp_all [Part.same]

/-- The parts that a received frame can change. -/
def frameParts : List Part := [.localIn, .requests, .fabric, .control, .latches, .noticeState]

theorem receiveFrame_sameBut (port : LanePort) (f : Frame) (b : Bool) (s : State) :
    sameBut frameParts s (receiveFrame port f b s) := by
  unfold receiveFrame
  refine sameBut.ite (sameBut.refl _ _) (sameBut.ite ?_ (sameBut.refl _ _))
  split
  · exact (joinLocal_sameBut _ _).mono
  · exact (joinRequests_sameBut _ _).mono
  · cases port
    · exact (joinToControl_sameBut _ _).mono
    · exact (joinToFabric_sameBut _ _).mono
  · exact sameBut.refl _ _

theorem assertReset_sameBut (s : State) : sameBut [.resetLevel, .fabric, .control] s (assertReset s) := by
  intro p hp; cases p <;> simp_all [Part.same, assertReset]

/-- The parts that a change of a candidate's grade can change. -/
def gradeParts : List Part := [.grades, .latches, .conditions, .noticeState, .control, .queue, .gradeHandovers]

theorem processNotice_sameBut (f : Frame) (s : State) : sameBut gradeParts s (processNotice f s) := by
  have h : ∀ p, sameBut gradeParts s
      (match boundLine s p with
        | some c => applyNotice c f s
        | none => s) := by
    intro p; split
    · exact commitGrade_sameBut _ _ _
    · exact sameBut.refl _ _
  unfold processNotice
  split
  · exact (joinToControl_sameBut _ _).mono
  · exact sameBut.ite (h _) ((h _).trans (joinToControl_sameBut _ _).mono)

theorem takeNotice_sameBut (s : State) : sameBut (.localIn :: gradeParts) s (takeNotice s) := by
  unfold takeNotice
  split
  · refine sameBut.ite (sameBut.trans (t := s.setLane { s.lane with localIn := _ }) ?_ (processNotice_sameBut _ _).mono)
      (sameBut.refl _ _)
    intro p hp; cases p <;> simp_all [Part.same]
  · exact sameBut.refl _ _

theorem takeReport_sameBut (k : ShelfId) (f : Frame) (s : State) : sameBut sliceParts s (takeReport k f s) := by
  unfold takeReport
  refine sameBut.ite (sameBut.ite ?_ ?_) (sameBut.refl _ _)
  · exact ((setSlice_sameBut _ _ _).andThen (sendDirective_sameBut _ _) (rs := sliceParts)).trans
      (closeSlice_sameBut _ _ _)
  · exact (setSlice_sameBut _ _ _).mono.trans (closeSlice_sameBut _ _ _)

theorem takeLockReport_sameBut (s : State) : sameBut (.localIn :: sliceParts) s (takeLockReport s) := by
  unfold takeLockReport
  split
  · have h : ∀ l, sameBut (.localIn :: sliceParts) s (s.setLane { s.lane with localIn := l }) := fun l p hp => by
      cases p <;> simp_all [Part.same]
    refine sameBut.ite ?_ (sameBut.refl _ _)
    dsimp only
    split
    · exact (h _).trans (takeReport_sameBut _ _ _).mono
    · exact h _
  · exact sameBut.refl _ _

/-- The parts that an event at a tick input can change. -/
def tickParts : List Part := [.osc, .inputs, .healthReports, .latches, .conditions, .noticeState, .control]

theorem loseTicks_sameBut (n : Slot) (s : State) : sameBut tickParts s (loseTicks n s) :=
  sameBut.ite ((advanceTo_sameBut _ _).andThen (commitInput_sameBut _ _ _)) (sameBut.refl _ _)

theorem takeTick_sameBut (n : Slot) (d : Nat) (s : State) : sameBut tickParts s (takeTick n d s) := by
  have h1 : sameBut tickParts s (s.advanceTo (s.osc + d)) := (advanceTo_sameBut _ _).mono
  unfold takeTick
  refine sameBut.ite ?_ h1
  exact (h1.trans (sameBut.ite (loseTicks_sameBut _ _) (sameBut.refl _ _))).trans (commitInput_sameBut _ _ _).mono

/-- The parts that a change of a candidate's record can change. -/
def candParts : List Part := [.cands, .latches, .conditions, .noticeState, .control, .queue, .removals]

theorem takeHealthReport_sameBut (n : Slot) (s : State) :
    sameBut (.healthReports :: candParts) s (takeHealthReport n s) := by
  unfold takeHealthReport
  split
  · exact sameBut.refl _ _
  · refine sameBut.trans (t := s.setFlight { s.flight with health := _ }) ?_ (commitCand_sameBut _ _ _ _).mono
    intro p hp; cases p <;> simp_all [Part.same]

theorem takeRemoval_sameBut (n : Slot) (s : State) : sameBut [.shelves, .removals] s (takeRemoval n s) := by
  unfold takeRemoval
  split
  · exact sameBut.refl _ _
  · refine sameBut.trans (t := s.setFlight { s.flight with removals := _ }) ?_
      (overShelves_sameBut _ (fun k t => (setShelf_sameBut _ _ _).mono) _)
    intro p hp; cases p <;> simp_all [Part.same]

theorem expireHoldOff_sameBut (n : Slot) (s : State) : sameBut (.osc :: candParts) s (expireHoldOff n s) := by
  unfold expireHoldOff
  split
  · exact (advanceTo_sameBut _ _).andThen (commitCand_sameBut _ _ _ _)
  · exact sameBut.refl _ _

theorem expireWtr_sameBut (n : Slot) (s : State) : sameBut (.osc :: candParts) s (expireWtr n s) := by
  unfold expireWtr
  split
  · exact (advanceTo_sameBut _ _).andThen (commitCand_sameBut _ _ _ _)
  · exact sameBut.refl _ _

theorem expireNotice_sameBut (n : Slot) (s : State) : sameBut (.osc :: gradeParts) s (expireNotice n s) := by
  unfold expireNotice
  split
  · exact (advanceTo_sameBut _ _).andThen (commitGrade_sameBut _ _ _)
  · exact sameBut.refl _ _

theorem takeTriple_sameBut (k : ShelfId) (s : State) :
    sameBut (.triples :: .tripleHandovers :: gradeParts) s (takeTriple k s) := by
  unfold takeTriple
  split
  · exact sameBut.refl _ _
  · refine sameBut.trans (t := { s with triples := _, flight := { s.flight with triples := _ } }) ?_
      (overSlots_sameBut _ (fun n t => ((regrade_sameBut _ _).ite (sameBut.refl _ _)).mono) _)
    intro p hp; cases p <;> simp_all [Part.same]

/-- The parts that a change of a triple can change. -/
def tripleParts : List Part := [.slices, .tripleHandovers, .noticeHandovers]

theorem takeTargetGrade_sameBut (k : ShelfId) (s : State) :
    sameBut (.gradeHandovers :: tripleParts) s (takeTargetGrade k s) := by
  unfold takeTargetGrade
  split
  · exact sameBut.refl _ _
  · have h : ∀ l, sameBut (.gradeHandovers :: tripleParts) s (s.setFlight { s.flight with grades := l }) :=
        fun l p hp => by
      cases p <;> simp_all [Part.same]
    exact sameBut.ite ((h _).trans (retriple_sameBut _ _ _).mono) (h _)

theorem takeNoticeCopy_sameBut (k : ShelfId) (s : State) :
    sameBut [.noticeHandovers, .copies, .txPorts, .fabric] s (takeNoticeCopy k s) := by
  unfold takeNoticeCopy
  split
  · exact sameBut.refl _ _
  · refine sameBut.trans (t := { s with copies := _, flight := { s.flight with notices := _ } }) ?_
      (overPorts_sameBut _ (fun p t => ((recomputePort_sameBut _ _).ite (sameBut.refl _ _)).mono) _)
    intro p hp; cases p <;> simp_all [Part.same]

theorem expirePeriodic_sameBut (p : PortId) (s : State) : sameBut [.osc, .txPorts, .fabric] s (expirePeriodic p s) := by
  unfold expirePeriodic
  split
  · exact sameBut.refl _ _
  · rename_i due _
    refine sameBut.andThen (advanceTo_sameBut s due) (qs := [.txPorts, .fabric]) ?_
    exact (setTx_sameBut _ _ _).andThen (offerNotice_sameBut _ _ _ _)

theorem startBudgetWindow_sameBut (s : State) :
    sameBut [.osc, .windowStart, .txPorts, .fabric] s (startBudgetWindow s) := by
  unfold startBudgetWindow
  refine sameBut.trans (t := { s.advanceTo _ with windowStart := _ }) ?_ (overPorts_sameBut _ (fun p t => ?_) _)
  · intro p hp; cases p <;> simp_all [Part.same, State.advanceTo]
  · refine sameBut.ite ?_ (sameBut.refl _ _)
    exact (sameBut.ite ((setTx_sameBut _ _ _).andThen (recomputePort_sameBut _ _) (rs := [.txPorts, .fabric]))
      (setTx_sameBut _ _ _).mono).mono

theorem serveEvaluation_sameBut (s : State) : sameBut (.count :: targetParts) s (serveEvaluation s) := by
  unfold serveEvaluation
  split
  · exact sameBut.refl _ _
  · refine sameBut.ite (sameBut.refl _ _) (sameBut.trans (t := s.setEngine _) ?_ (evaluate_sameBut _ _ _).mono)
    intro p hp; cases p <;> simp_all [Part.same, targetParts]

theorem expireLock_sameBut (k : ShelfId) (s : State) : sameBut (.osc :: .queue :: sliceParts) s (expireLock k s) := by
  unfold expireLock
  dsimp only
  split
  · exact (((advanceTo_sameBut _ _).andThen (setSlice_sameBut _ _ _) (rs := .osc :: .queue :: sliceParts)).andThen
      (requestEvaluation_sameBut _ _ _) (rs := .osc :: .queue :: sliceParts) (hp := fun _ h => h)).trans
      (raiseEdge_sameBut _ _).mono
  · exact sameBut.refl _ _

theorem expireSettle_sameBut (k : ShelfId) (s : State) : sameBut (.osc :: sliceParts) s (expireSettle k s) := by
  unfold expireSettle
  dsimp only
  split
  · exact ((advanceTo_sameBut _ _).andThen (setSlice_sameBut _ _ _) (rs := .osc :: sliceParts)).trans
      (closeSlice_sameBut _ _ _).mono
  · exact sameBut.refl _ _

theorem expireReport_sameBut (k : ShelfId) (s : State) : sameBut (.osc :: sliceParts) s (expireReport k s) := by
  unfold expireReport
  dsimp only
  split
  · exact ((advanceTo_sameBut _ _).andThen (setSlice_sameBut _ _ _) (rs := .osc :: sliceParts)).trans
      (closeSlice_sameBut _ _ _).mono
  · exact sameBut.refl _ _

theorem exhaustBudget_sameBut (k : ShelfId) (s : State) : sameBut (.osc :: tripleParts) s (exhaustBudget k s) := by
  unfold exhaustBudget
  split
  · exact ((advanceTo_sameBut _ _).andThen (setSlice_sameBut _ _ _) (rs := .osc :: tripleParts)).trans
      (retriple_sameBut _ _ _).mono
  · exact sameBut.refl _ _

theorem expireSpacing_sameBut (s : State) : sameBut [.osc, .noticeState, .control] s (expireSpacing s) := by
  unfold expireSpacing
  split
  · rename_i due _
    refine (sameBut.trans (t := { s.advanceTo due with events :=
        { (s.advanceTo due).events with spacingTimer := none } })
      ?_ (sendDecision_sameBut _).mono)
    intro p hp; cases p <;> simp_all [Part.same, State.advanceTo]
  · exact sameBut.refl _ _

theorem expireSummary_sameBut (s : State) : sameBut [.osc, .noticeState, .control] s (expireSummary s) := by
  unfold expireSummary
  split
  · refine sameBut.ite ?_ (sameBut.trans (t := { s.advanceTo _ with events := _ }) ?_ (sendDecision_sameBut _).mono)
    · intro p hp; cases p <;> simp_all [Part.same, State.advanceTo]
    · intro p hp; cases p <;> simp_all [Part.same, State.advanceTo]
  · exact sameBut.refl _ _

theorem placeWaiting_sameBut (s : State) : sameBut answerParts s (placeWaiting s) := by
  unfold placeWaiting
  split
  · exact placeAnswer_sameBut _ _
  · exact sameBut.refl _ _

theorem dropShortRequest_sameBut (s : State) : sameBut answerParts s (dropShortRequest s) := by
  unfold dropShortRequest
  split
  · refine sameBut.ite ?_ (sameBut.refl _ _)
    intro p hp; cases p <;> simp_all [Part.same, dequeueRequest, answerParts]
  · exact sameBut.refl _ _

theorem serveRestart_sameBut (s : State) : sameBut answerParts s (serveRestart s) := by
  unfold serveRestart
  split
  · refine sameBut.ite ?_ (sameBut.refl _ _)
    split
    · exact sameBut.refl _ _
    · split
      · exact answer_sameBut _ _
      · exact placeAnswer_sameBut _ _
  · exact sameBut.refl _ _

theorem overMask_sameBut {ps : List Part} (m : BitVec 16) (f : ShelfId → State → State)
    (h : ∀ k t, sameBut ps t (f k t)) (s : State) : sameBut ps s (overMask m f s) :=
  overShelves_sameBut _ (fun k t => (h k t).ite (sameBut.refl _ _)) s

theorem runMasked_sameBut {ps : List Part} (act : ShelfId → State → State) (h : ∀ k t, sameBut ps t (act k t))
    (r : Request) (s : State) : sameBut ps s (runMasked act r s).state := by
  unfold runMasked
  exact overMask_sameBut _ _ h s

theorem parkSlice_sameBut (k : ShelfId) (s : State) : sameBut sliceParts s (parkSlice k s) :=
  sameBut.ite (sameBut.refl _ _) ((setSlice_sameBut _ _ _).mono.trans (closeSlice_sameBut _ _ _))

theorem unparkSlice_sameBut (k : ShelfId) (s : State) : sameBut (.queue :: sliceParts) s (unparkSlice k s) := by
  refine sameBut.ite ?_ (sameBut.refl _ _)
  exact (((setSlice_sameBut _ _ _).andThen (newDirective_sameBut _ _ _) (rs := sliceParts)).trans
    (closeSlice_sameBut _ _ _)).andThen (requestEvaluation_sameBut _ _ _)

theorem writeNode_sameBut (w : NodeWrite) (s : State) :
    sameBut [.correction, .budget, .baseTag, .queue, .slices, .tripleHandovers, .noticeHandovers, .latches,
      .eventSettings, .noticeState, .control] s (writeNode w s) := by
  unfold writeNode
  dsimp only
  have h1 : sameBut [.correction, .budget] s
      { s with correction := w.correction, engine := { s.engine with budget := w.budget } } := by
    intro p hp; cases p <;> simp_all [Part.same]
  generalize ({ s with correction := w.correction, engine := { s.engine with budget := w.budget } } : State) = s1 at h1
  have h2 := (writeBaseTag_spec w.baseTag s1).2.2.2
  generalize writeBaseTag w.baseTag s1 = s2 at h2 ⊢
  have hw := EventUnit.write_fields s2.osc w s2.events
  refine (h1.andThen h2 (rs := [.correction, .budget, .baseTag, .queue, .slices, .tripleHandovers, .noticeHandovers,
    .latches, .eventSettings, .noticeState, .control])).trans
    (sameBut.trans (t := { s2 with events := s2.events.write s2.osc w }) ?_ (sendDecision_sameBut _).mono)
  intro p hp; cases p <;> simp_all [Part.same]

theorem setLockout_sameBut (k : ShelfId) (e : EntryId) (on : Bool) (s : State) :
    sameBut [.shelves, .queue, .latches, .conditions, .noticeState, .control] s (setLockout k e on s) := by
  by_cases h : s.shelves[k].entries[e].lockout = on
  · unfold setLockout; rw [if_pos h]; exact sameBut.refl _ _
  · exact (setLockout_spec k e on s h).2.2

theorem runCommand_sameBut (c : Request → Command) (r : Request) (s : State) :
    sameBut ([.count, .shelves, .queue] ++ answerParts) s (runCommand c r s).state := by
  unfold runCommand
  split
  · exact sameBut.refl _ _
  · exact (setCommand_spec _ _ _).2.2.mono

theorem runWriteListEntry_sameBut (r : Request) (s : State) : sameBut targetParts s (runWriteListEntry r s).state := by
  have h : (runWriteListEntry r s).state =
      overMask (maskOf r.body &&& ~~~refusedMask (maskOf r.body) (Fin.ofNat 8 (byteAt r.body 2)) (entryOf r.body) s)
        (fun k t => writeEntry k (Fin.ofNat 8 (byteAt r.body 2)) (entryOf r.body) t) s := rfl
  rw [h]
  exact overMask_sameBut _ _ (fun k t => (writeEntry_spec k _ _ t).2.2.2.2.2) s

theorem runWriteShelf_sameBut (r : Request) (s : State) :
    sameBut [.shelves, .queue, .slices, .fabric, .tripleHandovers, .noticeHandovers] s (runWriteShelf r s).state := by
  have h : (runWriteShelf r s).state =
      overMask (maskOf r.body)
        (fun k t => writeSlice k (sliceSettingsOf r.body) (writeSelection k (selectionOf r.body) t)) s := rfl
  rw [h]
  exact overMask_sameBut _ _
    (fun k t => (writeSelection_spec k _ t).2.2.andThen (writeSlice_spec k _ _).2.2.2.2.2) s

theorem runWritePorts_sameBut (r : Request) (s : State) :
    sameBut [.rxPorts, .txPorts, .grades, .latches, .conditions, .noticeState, .control, .queue, .gradeHandovers,
      .fabric] s (runWritePorts r s).state := by
  by_cases h : (boundSlots (writtenPorts r.body s.rxPorts)).Nodup
  · have hs : (runWritePorts r s).state = applyPorts r.body s := by unfold runWritePorts; rw [if_pos h]
    rw [hs]; exact (applyPorts_spec r.body s).2.2.2
  · have hs : (runWritePorts r s).state = s := by unfold runWritePorts; rw [if_neg h]
    rw [hs]; exact sameBut.refl _ _

/-! ### The frame of every command -/

/-- Every part but the queue of waiting commands and the oscillator count. -/
def restartParts : List Part :=
  [.strap, .resetLevel, .fabric, .control, .localIn, .requests, .cands, .inputs, .correction, .grades, .rxPorts, .rmaps,
    .triples, .shelves, .queue, .count, .budget, .slices, .baseTag, .txPorts, .tmaps, .copies, .windowStart, .latches,
    .conditions, .eventSettings, .noticeState, .semaphores, .record, .phase, .healthReports, .removals,
        .tripleHandovers,
    .gradeHandovers, .noticeHandovers]

/-- The parts that a command can change. -/
def commandParts : Instr → List Part
  | .powerOn _ | .resetLineReleased _ | .transmissionEnd _ | .deviceRestart => restartParts
  | .resetLineAsserted => [.resetLevel, .fabric, .control]
  | .frameReceived _ _ _ => frameParts
  | .receivedGradeNotice => .localIn :: gradeParts
  | .lockReport => .localIn :: sliceParts
  | .tick _ _ | .tickLoss _ => tickParts
  | .healthReport _ => .healthReports :: candParts
  | .lockFailedRemoval _ => [.shelves, .removals]
  | .holdOffExpiry _ | .wtrExpiry _ => .osc :: candParts
  | .noticeTimerExpiry _ => .osc :: gradeParts
  | .tripleHandover _ => .triples :: .tripleHandovers :: gradeParts
  | .targetGradeHandover _ => .gradeHandovers :: tripleParts
  | .noticeUnitHandover _ => [.noticeHandovers, .copies, .txPorts, .fabric]
  | .periodicTimerExpiry _ => [.osc, .txPorts, .fabric]
  | .budgetWindowStart => [.osc, .windowStart, .txPorts, .fabric]
  | .evaluation => .count :: targetParts
  | .lockTimerExpiry _ => .osc :: .queue :: sliceParts
  | .settleTimerExpiry _ | .reportTimerExpiry _ => .osc :: sliceParts
  | .holdoverBudgetExhausted _ => .osc :: tripleParts
  | .spacingTimerExpiry | .summaryTimerExpiry => [.osc, .noticeState, .control]
  | .answerPlaced | .requestTooShort | .unknownKind | .identify | .readTable | .readStatusCandidate | .readStatusShelf
  | .readStatusPort | .restart => answerParts
  | .writeCandidate =>
    [.cands, .grades, .inputs, .latches, .conditions, .noticeState, .control, .queue, .removals, .healthReports,
      .gradeHandovers] ++ answerParts
  | .writeListEntry | .park | .unpark | .sliceReset => .count :: targetParts ++ answerParts
  | .writeShelf => [.count, .shelves, .queue, .slices, .fabric, .tripleHandovers, .noticeHandovers] ++ answerParts
  | .writePorts => .rxPorts :: .txPorts :: .fabric :: gradeParts ++ answerParts
  | .writeReceiveMap => .rmaps :: answerParts
  | .writeTransmitMap | .detachTransmitMap => .tmaps :: answerParts
  | .detachReceiveMap => .rmaps :: .grades :: answerParts
  | .attachReceiveMap => .rmaps :: gradeParts ++ answerParts
  | .attachTransmitMap => .tmaps :: .txPorts :: .fabric :: answerParts
  | .writeNode =>
    [.correction, .budget, .baseTag, .queue, .slices, .tripleHandovers, .noticeHandovers, .latches, .eventSettings,
      .noticeState] ++ answerParts
  | .take | .release => .semaphores :: answerParts
  | .commandHold | .commandForce | .commandManual | .commandClear | .clearMarks =>
    [.count, .shelves, .queue] ++ answerParts
  | .commandLockout => [.count, .shelves, .queue, .latches, .conditions, .noticeState] ++ answerParts
  | .ackEvents => .latches :: answerParts
  | .clearRestartRecord => .record :: answerParts

theorem restartParts_of (s t : State) (ho : t.osc = s.osc) (hp : t.pending = s.pending) : sameBut restartParts s t := by
  intro p hm
  cases p <;> first | exact ho | exact hp | exact absurd (by decide) hm

theorem deviceRestart_sameBut (s : State) : sameBut restartParts s (deviceRestart s) := by
  have h := overShelves_sameBut (ps := [.slices, .fabric])
    (fun k t => if t.slices[k].timing = .parked then t else newDirective k .hold t)
    (fun k t => (sameBut.refl _ _).ite (newDirective_sameBut _ _ _)) (restartEvents (regradeSilently (restartBlocks s)))
  exact restartParts_of _ _ (h .osc (by decide)) (h .pending (by decide))

theorem endTransmission_sameBut (port : LanePort) (s : State) : sameBut restartParts s (endTransmission port s) := by
  cases port
  · exact sameBut.ite (restartParts_of _ _ rfl rfl) (sameBut.refl _ _)
  · exact sameBut.ite (deviceRestart_sameBut s) (sameBut.ite (restartParts_of _ _ rfl rfl) (sameBut.refl _ _))

theorem releaseReset_sameBut (a : Address) (s : State) : sameBut restartParts s (releaseReset a s) := by
  unfold releaseReset
  split
  · exact restartParts_of _ _ rfl rfl
  · exact sameBut.refl _ _

/-- What the state after a command is, when the command answers with it. -/
theorem sameBut.of_next {ps : List Part} {c : Instr} {s t u : State} (hs : sameBut ps s u) (h : exec c s = .next t)
    (hu : exec c s = .next u) : sameBut ps s t := by
  obtain rfl : u = t := by rw [hu] at h; exact Host.Outcome.next.inj h
  exact hs

theorem exec_writeCandidate_sameBut (s t : State) (h : exec .writeCandidate s = .next t) : sameBut
    (commandParts .writeCandidate) s t := by
  refine sameBut.of_next ?_ h rfl
  refine (serveAgent_sameBut _ _ _ (fun _ _ => ?_) (by decide) _)
  exact (writeCandidate_spec _ _ _ _ _ _ rfl).2.2.2.mono

theorem exec_writeListEntry_sameBut (s t : State) (h : exec .writeListEntry s = .next t) : sameBut
    (commandParts .writeListEntry) s t := by
  refine sameBut.of_next ?_ h rfl
  exact serveEngine_sameBut _ _ _ (fun r t => (runWriteListEntry_sameBut r t).mono) (by decide) _

theorem exec_writeShelf_sameBut (s t : State) (h : exec .writeShelf s = .next t) : sameBut (commandParts .writeShelf)
    s t := by
  refine sameBut.of_next ?_ h rfl
  exact serveEngine_sameBut _ _ _ (fun r t => (runWriteShelf_sameBut r t).mono) (by decide) _

theorem exec_writePorts_sameBut (s t : State) (h : exec .writePorts s = .next t) : sameBut (commandParts .writePorts)
    s t := by
  refine sameBut.of_next ?_ h rfl
  exact serveAgent_sameBut _ _ _ (fun r t => (runWritePorts_sameBut r t).mono) (by decide) _

theorem exec_writeReceiveMap_sameBut (s t : State) (h : exec .writeReceiveMap s = .next t) : sameBut
    (commandParts .writeReceiveMap) s t := by
  refine sameBut.of_next ?_ h rfl
  refine (serveAgent_sameBut _ _ _ (fun _ _ => ?_) (by decide) _)
  unfold runWriteReceiveMap
  dsimp only
  split
  · exact sameBut.refl _ _
  · intro p hp; cases p <;> simp_all [Part.same, commandParts]

theorem exec_writeTransmitMap_sameBut (s t : State) (h : exec .writeTransmitMap s = .next t) : sameBut
    (commandParts .writeTransmitMap) s t := by
  refine sameBut.of_next ?_ h rfl
  refine (serveAgent_sameBut _ _ _ (fun _ _ => ?_) (by decide) _)
  unfold runWriteTransmitMap
  dsimp only
  split
  · exact sameBut.refl _ _
  · intro p hp; cases p <;> simp_all [Part.same, commandParts]

theorem exec_detachTransmitMap_sameBut (s t : State) (h : exec .detachTransmitMap s = .next t) : sameBut
    (commandParts .detachTransmitMap) s t := by
  refine sameBut.of_next ?_ h rfl
  refine (serveAgent_sameBut _ _ _ (fun _ _ => ?_) (by decide) _)
  intro p hp; cases p <;> simp_all [Part.same, commandParts, detachTransmit]

theorem exec_attachTransmitMap_sameBut (s t : State) (h : exec .attachTransmitMap s = .next t) : sameBut
    (commandParts .attachTransmitMap) s t := by
  refine sameBut.of_next ?_ h rfl
  refine (serveAgent_sameBut _ _ _ (fun r t => ?_) (by decide) _)
  refine (sameBut.refl _ _).ite (sameBut.trans (t := { t with tmaps := _ }) ?_
    (overPorts_sameBut _ (fun _ _ => ((recomputePort_sameBut _ _).ite (sameBut.refl _ _)).mono) _))
  intro p hp; cases p <;> simp_all [Part.same, commandParts]

theorem exec_take_sameBut (s t : State) (h : exec .take s = .next t) : sameBut (commandParts .take) s t := by
  refine sameBut.of_next ?_ h rfl
  refine (serveAgent_sameBut _ _ _ (fun _ _ => ?_) (by decide) _)
  unfold runTake
  dsimp only
  split
  · intro p hp; cases p <;> simp_all [Part.same, commandParts]
  · exact sameBut.refl _ _

theorem exec_release_sameBut (s t : State) (h : exec .release s = .next t) : sameBut (commandParts .release) s t := by
  refine sameBut.of_next ?_ h rfl
  refine (serveAgent_sameBut _ _ _ (fun _ _ => ?_) (by decide) _)
  intro p hp; cases p <;> simp_all [Part.same, commandParts, runRelease]

theorem exec_commandClear_sameBut (s t : State) (h : exec .commandClear s = .next t) : sameBut
    (commandParts .commandClear) s t := by
  refine sameBut.of_next ?_ h rfl
  refine (serveEngine_sameBut _ _ _ (fun _ _ => ?_) (by decide) _)
  unfold runUnranked
  split
  · exact sameBut.refl _ _
  · exact (setCommand_spec _ _ _).2.2.mono

theorem exec_commandLockout_sameBut (s t : State) (h : exec .commandLockout s = .next t) : sameBut
    (commandParts .commandLockout) s t := by
  refine sameBut.of_next ?_ h rfl
  refine (serveEngine_sameBut _ _ _ (fun _ _ => ?_) (by decide) _)
  unfold runUnranked
  split
  · exact sameBut.refl _ _
  · exact (setLockout_sameBut _ _ _ _).mono

theorem exec_park_sameBut (s t : State) (h : exec .park s = .next t) : sameBut (commandParts .park) s t := by
  refine sameBut.of_next ?_ h rfl
  refine (serveEngine_sameBut _ _ _ (fun _ _ => ?_) (by decide) _)
  refine runMasked_sameBut _ (fun k t => ?_) _ _
  exact sameBut.trans (t := parkEngine k t) (((sameBut.refl _ _).ite (withdrawTarget_sameBut _ _)).mono)
    (parkSlice_sameBut _ _).mono

theorem exec_unpark_sameBut (s t : State) (h : exec .unpark s = .next t) : sameBut (commandParts .unpark) s t := by
  refine sameBut.of_next ?_ h rfl
  refine (serveEngine_sameBut _ _ _ (fun _ _ => ?_) (by decide) _)
  exact runMasked_sameBut _ (fun k t => (unparkSlice_sameBut _ _).mono) _ _

theorem exec_sliceReset_sameBut (s t : State) (h : exec .sliceReset s = .next t) : sameBut (commandParts .sliceReset)
    s t := by
  refine sameBut.of_next ?_ h rfl
  refine (serveEngine_sameBut _ _ _ (fun _ _ => ?_) (by decide) _)
  exact runMasked_sameBut _ (fun k t => (resetBoth_spec k t).2.2.2.2.2.2.2.mono) _ _

theorem exec_clearMarks_sameBut (s t : State) (h : exec .clearMarks s = .next t) : sameBut (commandParts .clearMarks)
    s t := by
  refine sameBut.of_next ?_ h rfl
  refine (serveEngine_sameBut _ _ _ (fun _ _ => ?_) (by decide) _)
  exact runMasked_sameBut _ (fun k t => (clearMarks_spec _ _).2.2.mono) _ _

theorem exec_ackEvents_sameBut (s t : State) (h : exec .ackEvents s = .next t) : sameBut (commandParts .ackEvents) s t
    := by
  refine sameBut.of_next ?_ h rfl
  refine (serveAgent_sameBut _ _ _ (fun r t => ?_) (by decide) _)
  intro p hp
  show p.same t (ackAll (ackLatches r.body) t)
  unfold ackAll
  rw [(foldl_ack (ackLatches r.body) t.events).1]
  cases p <;> simp_all [Part.same, commandParts]

theorem exec_clearRestartRecord_sameBut (s t : State) (h : exec .clearRestartRecord s = .next t) : sameBut
    (commandParts .clearRestartRecord) s t := by
  refine sameBut.of_next ?_ h rfl
  refine (serveAgent_sameBut _ _ _ (fun _ _ => ?_) (by decide) _)
  intro p hp; cases p <;> simp_all [Part.same, commandParts]

/-- A command that completes changes nothing outside its parts. -/
theorem exec_sameBut (c : Instr) (s t : State) (h : exec c s = .next t) : sameBut (commandParts c) s t := by
  cases c with
  | powerOn a => exact sameBut.of_next (restartParts_of s (powerUp a s) rfl rfl) h rfl
  | resetLineAsserted => exact sameBut.of_next (assertReset_sameBut _) h rfl
  | resetLineReleased a => exact sameBut.of_next (releaseReset_sameBut a s) h rfl
  | frameReceived p f b => exact sameBut.of_next (receiveFrame_sameBut _ _ _ _) h rfl
  | transmissionEnd p => exact sameBut.of_next (endTransmission_sameBut _ _) h rfl
  | deviceRestart => exact sameBut.of_next ((deviceRestart_sameBut s).ite (sameBut.refl _ _)) h rfl
  | receivedGradeNotice => exact sameBut.of_next (takeNotice_sameBut _) h rfl
  | lockReport => exact sameBut.of_next (takeLockReport_sameBut _) h rfl
  | tick n d => exact sameBut.of_next (takeTick_sameBut _ _ _) h rfl
  | tickLoss n => exact sameBut.of_next (loseTicks_sameBut _ _) h rfl
  | healthReport n => exact sameBut.of_next (takeHealthReport_sameBut _ _) h rfl
  | lockFailedRemoval n => exact sameBut.of_next (takeRemoval_sameBut _ _) h rfl
  | holdOffExpiry n => exact sameBut.of_next (expireHoldOff_sameBut _ _) h rfl
  | wtrExpiry n => exact sameBut.of_next (expireWtr_sameBut _ _) h rfl
  | noticeTimerExpiry n => exact sameBut.of_next (expireNotice_sameBut _ _) h rfl
  | tripleHandover k => exact sameBut.of_next (takeTriple_sameBut _ _) h rfl
  | targetGradeHandover k => exact sameBut.of_next (takeTargetGrade_sameBut _ _) h rfl
  | noticeUnitHandover k => exact sameBut.of_next (takeNoticeCopy_sameBut _ _) h rfl
  | periodicTimerExpiry p => exact sameBut.of_next (expirePeriodic_sameBut _ _) h rfl
  | budgetWindowStart => exact sameBut.of_next (startBudgetWindow_sameBut _) h rfl
  | evaluation => exact sameBut.of_next (serveEvaluation_sameBut _) h rfl
  | lockTimerExpiry k => exact sameBut.of_next (expireLock_sameBut _ _) h rfl
  | settleTimerExpiry k => exact sameBut.of_next (expireSettle_sameBut _ _) h rfl
  | reportTimerExpiry k => exact sameBut.of_next (expireReport_sameBut _ _) h rfl
  | holdoverBudgetExhausted k => exact sameBut.of_next (exhaustBudget_sameBut _ _) h rfl
  | spacingTimerExpiry => exact sameBut.of_next (expireSpacing_sameBut _) h rfl
  | summaryTimerExpiry => exact sameBut.of_next (expireSummary_sameBut _) h rfl
  | answerPlaced => exact sameBut.of_next (placeWaiting_sameBut _) h rfl
  | requestTooShort => exact sameBut.of_next (dropShortRequest_sameBut _) h rfl
  | unknownKind => exact sameBut.of_next (serveAgent_sameBut _ _ _ (fun _ _ => sameBut.refl _ _) (by decide) _) h rfl
  | identify => exact sameBut.of_next (serveAgent_sameBut _ _ _ (fun _ _ => sameBut.refl _ _) (by decide) _) h rfl
  | readTable => exact sameBut.of_next (serveAgent_sameBut _ _ _ (fun _ _ => sameBut.refl _ _) (by decide) _) h rfl
  | readStatusCandidate =>
    exact sameBut.of_next
      (serveAgent_sameBut _ _ _ (fun _ _ => sameBut.refl _ _) (by decide) _) h rfl
  | readStatusShelf =>
    exact sameBut.of_next (serveAgent_sameBut _ _ _ (fun _ _ => sameBut.refl _ _) (by decide) _) h
      rfl
  | readStatusPort => exact sameBut.of_next (serveAgent_sameBut _ _ _ (fun _ _ => sameBut.refl _ _) (by decide) _) h rfl
  | writeCandidate => exact exec_writeCandidate_sameBut s t h
  | writeListEntry => exact exec_writeListEntry_sameBut s t h
  | writeShelf => exact exec_writeShelf_sameBut s t h
  | writePorts => exact exec_writePorts_sameBut s t h
  | writeReceiveMap => exact exec_writeReceiveMap_sameBut s t h
  | writeTransmitMap => exact exec_writeTransmitMap_sameBut s t h
  | detachReceiveMap =>
    exact sameBut.of_next
      (serveAgent_sameBut _ _ _ (fun _ _ => (detachReceive_spec _ _).2.2.mono) (by decide) _) h rfl
  | attachReceiveMap =>
    exact sameBut.of_next
      (serveAgent_sameBut _ _ _ (fun _ _ => (attachReceive_spec _ _).2.2.2.mono) (by decide) _) h rfl
  | detachTransmitMap => exact exec_detachTransmitMap_sameBut s t h
  | attachTransmitMap => exact exec_attachTransmitMap_sameBut s t h
  | writeNode =>
    exact sameBut.of_next
      (serveAgent_sameBut _ _ _ (fun _ _ => (writeNode_sameBut _ _).mono) (by decide) _) h rfl
  | take => exact exec_take_sameBut s t h
  | release => exact exec_release_sameBut s t h
  | commandHold => exact sameBut.of_next (serveEngine_sameBut _ _ _ (runCommand_sameBut _) (by decide) _) h rfl
  | commandForce => exact sameBut.of_next (serveEngine_sameBut _ _ _ (runCommand_sameBut _) (by decide) _) h rfl
  | commandManual => exact sameBut.of_next (serveEngine_sameBut _ _ _ (runCommand_sameBut _) (by decide) _) h rfl
  | commandClear => exact exec_commandClear_sameBut s t h
  | commandLockout => exact exec_commandLockout_sameBut s t h
  | park => exact exec_park_sameBut s t h
  | unpark => exact exec_unpark_sameBut s t h
  | sliceReset => exact exec_sliceReset_sameBut s t h
  | clearMarks => exact exec_clearMarks_sameBut s t h
  | ackEvents => exact exec_ackEvents_sameBut s t h
  | restart => exact sameBut.of_next (serveRestart_sameBut _) h rfl
  | clearRestartRecord => exact exec_clearRestartRecord_sameBut s t h

end Sys2Proof.Machine
end

