-- ==== Sys2Proof/Tests/Slice0.lean ====
section
/-! SUPPORT. Tests. The first part holds small tests of one step or one operation, with expected results taken from the
manual's worked examples and tables or worked out by hand from its rules; each names its source. The second part holds,
for every statement of Certificates/Slice0/Obligations.lean that has hypotheses, concrete states and operands that meet
them. -/

open Sys2Proof Sys2Proof.Machine

namespace Sys2Proof.Tests

-- One theorem after the other: the kernel evaluations below would otherwise wait for each other on a thread each.
set_option Elab.async false

/-! ### Helpers -/

/-- The part after power-on. -/
def s0 : State := State.reset

/-- The state after a command; the state itself if the command stops. -/
def after (c : Instr) (s : State) : State :=
  match exec c s with
  | .next t => t
  | .fault _ => s
  | .refused _ => s

/-- A Management Request frame from address 0x055 with tag 0x1234. -/
def request (kind : Nat) (body : List Byte) : Frame := buildFrame 0x000 0x055 0x51 ([0x12, 0x34, byteOf kind] ++ body)

/-- The request that frame carries. -/
def req (kind : Nat) (body : List Byte) : Request :=
  { source := 0x055, tag := [0x12, 0x34], kind := kind, body := body }

/-- The state with that request at the head of the request queue. -/
def asked (kind : Nat) (body : List Byte) (s : State) : State :=
  { s with lane := { s.lane with requests := [request kind body] } }

/-- The body of the frame that the CONTROL port sends after a command. -/
def sent (c : Instr) (s : State) : Option (List Byte) := (after c s).lane.control.sending.map fun a => frameBody a.bytes

/-- The body of the frame that the FABRIC port sends after a command. -/
def sentFabric (c : Instr) (s : State) : Option (List Byte) :=
  (after c s).lane.fabric.sending.map fun a => frameBody a.bytes

def withPhase (p : Phase) (s : State) : State := { s with agent := { s.agent with phase := p } }
def withSem (b : Fin 5) (a : Address) (s : State) : State :=
  { s with agent := { s.agent with sems := s.agent.sems.set b (some a) } }
def withLocalIn (l : List Frame) (s : State) : State := { s with lane := { s.lane with localIn := l } }
def withFabric (p : OutPort) (s : State) : State := { s with lane := { s.lane with fabric := p } }
def withControl (p : OutPort) (s : State) : State := { s with lane := { s.lane with control := p } }
def withQueue (q : List EvalEntry) (s : State) : State := { s with engine := { s.engine with queue := q } }
def withEvents (e : EventUnit) (s : State) : State := { s with events := e }
def withTriple (k : ShelfId) (t : Triple) (s : State) : State := { s with triples := s.triples.set k t }
def withRx (p : PortId) (r : RxPort) (s : State) : State := { s with rxPorts := s.rxPorts.set p r }
def withRmap (m : MapId) (r : GradeMap) (s : State) : State := { s with rmaps := s.rmaps.set m r }
def withTmap (m : MapId) (r : GradeMap) (s : State) : State := { s with tmaps := s.tmaps.set m r }

/-- A bound candidate at power-on settings. -/
def cand (k : Kind) (st : CandState) (fresh health : Bool) (t : CandTimer) : Cand :=
  { kind := k, source := 0, holdOffMs := 300, wtrS := 300, maintHold := false, state := st, fresh := fresh,
      health := health,
    timer := t }

/-- A list entry that is in use. -/
def entry (n : Slot) (p : Fin 16) : Entry := { slot := n, priority := p, lockout := false }

/-- The directive of FREERUN slice k replaced, with the module at 0x3A3. -/
def slice (k : ShelfId) (tm : Timing) (target : Option Slot) (a : Action) : Slice :=
  { resetSlice 0 k with
    cfg := { resetSliceSettings with module := 0x3A3 }, timing := tm, target := target, action := a, seq := 1 }

/-- A detached identity map. -/
def loose : GradeMap := { identityMap with attached := false }

/-! ### Well-formedness, the word decoder and the step -/

/-- A frame has a last byte (R1): reception of no byte at all is refused. -/
theorem test_wellFormed_refuses_empty_frame : Instr.wellFormed (.frameReceived .fabric [] false) = false := by decide

theorem test_wellFormed_accepts_short_frame : Instr.wellFormed (.frameReceived .control [0x00] true) = true := by decide

/-- The opcode table gives no row bits. -/
theorem test_no_word_spells_a_command : decodeTableWord 8 0x05 = none ∧ s0.withFetchWord 8 0x05 = s0 := by
  exact ⟨rfl, rfl⟩

theorem test_step_takes_the_front :
    step { s0 with pending := [.resetLineAsserted, .evaluation] } =
      exec .resetLineAsserted { s0 with pending := [.evaluation] } := rfl

/-! ### Frames (Chapter 10) -/

/-- R183 gives this check value for the nine ASCII bytes "123456789". -/
theorem test_crc_check_value : crc16 [0x31, 0x32, 0x33, 0x34, 0x35, 0x36, 0x37, 0x38, 0x39] = 0x29B1#16 := by
  decide +kernel

/-- The worked frame of Section 10.3: HOLD to shelf 3's module at 0x3A3 from strap 0x2A0, sequence 1. -/
theorem test_hold_directive_frame :
    let f := directiveFrame { s0.setSlice 3 (slice 3 .freerun none .hold) with lane := resetLane 0x2A0 false } 3
    f.take 10 = [0x03, 0xA3, 0x02, 0xA0, 0x41, 0x04, 0x03, 0x01, 0x02, 0xFF] ∧ f.length = 12 ∧ frameCheck f = true := by
  decide +kernel

/-- A frame damaged in one bit fails the frame check (R2). -/
theorem test_damaged_frame_fails : frameCheck ((request 0x01 []).set 8 0x00) = false := by decide +kernel

/-- The rows that the kind codes of Section 10.5 spell, with the object, command, action and map codes of Table 10-9. -/
theorem test_requestRow :
    (([(0x01, []), (0x02, []), (0x03, [0]), (0x03, [1]), (0x03, [2]), (0x04, []), (0x05, []), (0x06, []), (0x07, []),
        (0x08, [0]), (0x08, [1]), (0x09, []), (0x0A, [0]), (0x0A, [1]), (0x0B, [0]), (0x0B, [1]), (0x0C, []),
            (0x0D, []),
        (0x0E, [0, 1]), (0x0E, [0, 2]), (0x0E, [0, 3]), (0x0E, [0, 4]), (0x0E, [0, 5]), (0x0F, [0, 0, 1]),
        (0x0F, [0, 0, 2]), (0x0F, [0, 0, 3]), (0x10, []), (0x11, []), (0x12, []), (0x13, []), (0x14, []), (0x00, [])] :
        List (Nat × List Byte)).map fun q => requestRow (request q.1 q.2)) =
      [.identify, .readTable, .readStatusCandidate, .readStatusShelf, .readStatusPort, .writeCandidate, .writeListEntry,
        .writeShelf, .writePorts, .writeReceiveMap, .writeTransmitMap, .writeNode, .detachReceiveMap,
            .detachTransmitMap,
        .attachReceiveMap, .attachTransmitMap, .take, .release, .commandHold, .commandForce, .commandManual,
            .commandClear,
        .commandLockout, .park, .unpark, .sliceReset, .clearMarks, .ackEvents, .restart, .clearRestartRecord,
            .unknownKind,
        .unknownKind] := by
  decide +kernel

/-! ### Offsets (Tables 3-2 and 3-3) -/

/-- Table 3-2, the four windows: counts out of range saturate (R43), sums round to nearest (R41). -/
theorem test_table_3_2 :
    windowOffset (-120) 4 [124999500, 124999498, 124999503, 124999499] = (4120, false) ∧
      windowOffset 0 3 [125000001, 125000000, 125000000] = (-3, false) ∧
      windowOffset 0 16 (List.replicate 15 125000000 ++ [124999999]) = (1, false) ∧
      windowOffset 300 8
          [125000100, 125000100, 125000100, 125000100, 125000100, 124990000, 125000100, 125000100] = (50000, true) := by
  decide +kernel

/-- An input with W = 2 and the accept and reject limits of Table 3-3. -/
def input33 : TickInput :=
  { resetInput with windowLen := 2, acceptPpb := 4000, rejectPpb := 6000, watched := true, active := true }

/-- Table 3-3: nine gates; the offset and whether the input is qualified after each. -/
theorem test_table_3_3 :
    (([124999400, 124999500, 124999600, 124999300, 124999200, 124999100, 124990000, 124999500, 124999500] :
        List Nat).foldl
      (fun (acc : TickInput × List (Option Int × Bool)) count =>
        let i := acc.1.completeGate 0 count
        (i, acc.2 ++ [(i.offset, i.qualified)]))
      (input33, [])).2 =
    [(none, false), (some 4400, false), (some 3600, true), (some 4400, true), (some 6000, true), (some 6800, false),
      (some 50000, false), (some 50000, false), (some 4000, true)] := by
  decide +kernel

/-! ### The lane -/

/-- R16: POWER_ON samples the straps; the record shows POWER_ON alone (R180). -/
theorem test_powerOn :
    (after (.powerOn 0x2A0) s0).lane.strap = 0x2A0 ∧
        (after (.powerOn 0x2A0) s0).agent.record = ⟨true, false, false⟩ := by
  decide +kernel

/-- R16: the straps change only when the line is released; the record gains RESET_LINE. -/
theorem test_reset_line :
    (after (.resetLineReleased 0x2A0) s0).lane.strap = 0 ∧
      (after (.resetLineReleased 0x2A0) (after .resetLineAsserted s0)).lane.strap = 0x2A0 ∧
      (after (.resetLineReleased 0x2A0) (after .resetLineAsserted s0)).agent.record = ⟨true, true, false⟩ := by
  decide +kernel

/-- Table 1-4: T0 ends on CONTROL with LOCAL served last, T1 waiting and A1 waiting: T1 goes, then A1. -/
theorem test_arbiter_alternates :
    let s := withControl ⟨[[0x01]], [⟨[0x0A], false⟩], .transit, some ⟨[0x00], false⟩⟩ s0
    (after (.transmissionEnd .control) s).lane.control = ⟨[[0x01]], [], .localQ, some ⟨[0x0A], false⟩⟩ ∧
      (after (.transmissionEnd .control) (after (.transmissionEnd .control) s)).lane.control =
        ⟨[], [], .transit, some ⟨[0x01], false⟩⟩ := by
  decide +kernel

/-- R17, R108, R130: after the restart every shelf waits for evaluation and has sent HOLD with sequence 1. -/
theorem test_deviceRestart :
    let t := after .deviceRestart (withControl { resetPort with sending := some ⟨[], true⟩ } s0)
    t.engine.queue.length = 16 ∧ t.slices[(15 : ShelfId)].seq = 1 ∧ t.lane.fabric.localQ.length = 15 ∧
      t.agent.record = ⟨true, false, true⟩ := by
  decide +kernel

/-- A Lock Report of shelf 3 from its module: echo 1, LOCKED, holdover ready, tracking input 5 (R185). -/
def lockFrame : Frame := buildFrame 0x000 0x3A3 0x42 [3, 1, 2, 1, 5]

/-- Received Grade Notices of shelf 3, port 2, code 7, without and with a path block (R184). -/
def notice5 : Frame := buildFrame 0x000 0x111 0x31 [3, 2, 0, 7, 0]
def notice13 : Frame := buildFrame 0x000 0x111 0x31 [3, 2, 1, 7, 1, 0x00, 0x11, 0x22, 0x33, 0x44, 0x50, 40, 1]

/-- Table 1-2: a Lock Report to the part is taken in from FABRIC; a management request is not answered from FABRIC but
discarded. -/
theorem test_frameReceived :
    (after (.frameReceived .fabric lockFrame false) s0).lane.localIn = [lockFrame] ∧
      (after (.frameReceived .fabric (request 0x01 []) false) s0).lane.requests = [] ∧
      (after (.frameReceived .control (request 0x01 []) false) s0).lane.requests = [request 0x01 []] := by
  decide +kernel

/-! ### Candidates and grades -/

/-- R21: a fresh candidate comes up without WTR. R23: it goes SUSPECT for 300 ms. R22: WTR of 300 s for one that is not
fresh. -/
theorem test_healthReport :
    let up (c : Cand) (h : Bool) : Cand :=
      (after (.healthReport 5)
          ({ s0 with flight := { noFlight with health := [(5, h)] } }.setCand 5 c)).cands[(5 : Slot)]
    up (cand .line .down true false .none) true = cand .line .available false true .none ∧
      up (cand .line .available false true .none) false = cand .line .suspect false false (.holdOff 37500000) ∧
      up (cand .line .down false false .none) true = cand .line .restoring false true (.wtr 37500000000) := by
  decide +kernel

/-- R22, R23: the expiry of the hold-off timer and of the WTR timer. -/
theorem test_candidate_timers :
    (after (.holdOffExpiry 5) (s0.setCand 5 (cand .line .suspect false false (.holdOff 9)))).cands[(5 : Slot)] =
        cand .line .down false false .none ∧
      (after (.wtrExpiry 5) (s0.setCand 5 (cand .line .restoring false true (.wtr 9)))).cands[(5 : Slot)] =
        cand .line .available false true .none := by
  decide +kernel

/-- The state with slot 5 a LINE candidate bound to shelf 3, port 2 (index 50), under map 0. -/
def line5 : State := withRx 50 ⟨true, some 5, true⟩ (s0.setCand 5 (cand .line .down true false .none))

/-- R58: code 7 maps to rank 7 under the identity map; a hop above 31 is taken as 31. -/
theorem test_receivedGradeNotice :
    (after .receivedGradeNotice (withLocalIn [notice13] line5)).grades[(5 : Slot)].eff =
      ⟨7, 31, some ⟨0x001122334450#48, true⟩⟩ := by
  decide +kernel

/-- R61: rank 15 after the notice timer's expiry. -/
theorem test_noticeTimerExpiry :
    let t := after (.noticeTimerExpiry 5) (after .receivedGradeNotice (withLocalIn [notice5] line5))
    t.grades[(5 : Slot)].eff.rank = 15 ∧ t.grades[(5 : Slot)].code = .timedOut ∧ t.osc = 625000000 := by
  decide +kernel

/-- R70: the SHELF candidate takes the new triple of its source shelf. -/
theorem test_tripleHandover :
    (after (.tripleHandover 4)
        ({ s0 with flight := { noFlight with triples := [(4, ⟨3, 6, ⟨0x40, true⟩⟩)] } }.setCand 5
          { cand .shelf .down true false .none with source := 4 })).grades[(5 : Slot)].eff =
      ⟨3, 6, some ⟨0x40, true⟩⟩ := by
  decide +kernel

/-! ### Selection (Table 5-5) -/

/-- Three available candidates in the list of shelf 0: C2 (rank 3, hop 4, priority 2), C7 (rank 3, hop 2, priority 5)
and C11 (rank 1, hop 9, priority 9). -/
def list55 (sel : Selection) : State :=
  (((((((s0.setShelf 0
      { resetShelf with
        entries := ((resetShelf.entries.set 0 (entry 2 2)).set 1 (entry 7 5)).set 2 (entry 11 9), sel := sel }).setCand 2
    (cand .line .available false true .none)).setCand 7 (cand .line .available false true .none)).setCand 11
    (cand .line .available false true .none)).setGrade 2 { resetGrade with eff := ⟨3, 4, none⟩ }).setGrade 7
    { resetGrade with eff := ⟨3, 2, none⟩ }).setGrade 11 { resetGrade with eff := ⟨1, 9, none⟩ })

/-- Table 5-5: the automatic target under four settings. -/
theorem test_table_5_5 :
    computeTarget (list55 ⟨.auto, true, 14, 20⟩) 0 = some 11 ∧ computeTarget (list55 ⟨.auto, true, 14, 8⟩) 0 = some 7 ∧
      computeTarget (list55 ⟨.auto, true, 2, 20⟩) 0 = some 11 ∧
      computeTarget (list55 ⟨.priority, true, 14, 20⟩) 0 = some 2 := by
  decide +kernel

/-- R92, R111, R112: the evaluation of shelf 0 sends TRACK of tick input 11 with sequence 1 and starts ACQUIRING. -/
theorem test_evaluation :
    let s := withQueue [⟨0, none⟩] (list55 ⟨.auto, true, 14, 20⟩)
    targetSlot (after .evaluation s) 0 = some 11 ∧ (after .evaluation s).slices[(0 : ShelfId)].timing = .acquiring ∧
      sentFabric .evaluation s = some [0x00, 0x01, 0x01, 0x0B] := by
  decide +kernel

/-- R82: the slot leaves every lock-failed set. -/
theorem test_lockFailedRemoval :
    (after (.lockFailedRemoval 5)
        ({ s0 with flight := { noFlight with removals := [5] } }.setShelf 3
          { resetShelf with failed := Vector.replicate 24 true })).shelves[(3 : ShelfId)].failed =
      (Vector.replicate 24 true).set 5 false := by
  decide +kernel

/-! ### Slices -/

/-- Slice 3 ACQUIRING slot 5 under sequence 1. -/
def acquiring3 : State := s0.setSlice 3 { slice 3 .acquiring (some 5) (.track 5) with lockTimer := some 900 }

/-- R117: a current report that shows lock takes ACQUIRING to SETTLING for 5 s. R121: LOCKED after that, with history.
-/
theorem test_lockReport_and_settle :
    let t := after .lockReport (withLocalIn [lockFrame] acquiring3)
    t.slices[(3 : ShelfId)].timing = .settling ∧ t.slices[(3 : ShelfId)].settleTimer = some 625000000 ∧
      (after (.settleTimerExpiry 3) t).slices[(3 : ShelfId)].timing = .locked ∧
      (after (.settleTimerExpiry 3) t).slices[(3 : ShelfId)].history = true := by
  decide +kernel

/-- R120: the request for an evaluation carries a mark note naming the target. -/
theorem test_lockTimerExpiry :
    (after (.lockTimerExpiry 3) acquiring3).engine.queue = [⟨3, some 5⟩] ∧
        (after (.lockTimerExpiry 3) acquiring3).osc = 900 := by
  decide +kernel

/-- R122, R131: an unreachable slice advertises rank 15 with its own tag. -/
theorem test_reportTimerExpiry :
    (after (.reportTimerExpiry 3) s0).slices[(3 : ShelfId)].triple = ⟨15, 0, ⟨3, false⟩⟩ := by
  decide +kernel

/-- R134: at 60 minutes of HOLDOVER the freerun rank 12 takes the place of the holdover rank 10. -/
theorem test_holdoverBudgetExhausted :
    let t := after (.holdoverBudgetExhausted 3)
      (s0.setSlice 3 { slice 3 .holdover none .hold with holdoverSince := some 0, triple := ⟨10, 0, ⟨3, false⟩⟩ })
    t.slices[(3 : ShelfId)].triple.rank = 12 ∧ t.osc = 450000000000 := by
  decide +kernel

/-- R131, R132: a LOCKED slice takes its target's rank and its hop plus one, at most 31. -/
theorem test_targetGradeHandover :
    (after (.targetGradeHandover 3)
        ((({ s0 with flight := { noFlight with grades := [(3, 5)] } }.setSlice 3
            (slice 3 .locked (some 5) (.track 5))).setGrade 5
          { resetGrade with eff := ⟨2, 31, none⟩ }))).slices[(3 : ShelfId)].triple =
      ⟨2, 31, ⟨3, true⟩⟩ := by
  decide +kernel

/-! ### Ticks -/

/-- An ACTIVE input with a gate in progress and W = 1. -/
def ticking (ticks : Nat) : TickInput :=
  { resetInput with windowLen := 1, watched := true, active := true, lastTick := 124984375, gate := some ⟨ticks, 0⟩ }

/-- R39, R41: the 8,000th interval ends the gate at 125,000,000 periods, an offset of 0. -/
theorem test_tick_completes_gate :
    let t := after (.tick 5 125000000) (s0.setInput 5 (ticking 7999))
    t.inputs[(5 : Slot)].offset = some 0 ∧ t.inputs[(5 : Slot)].qualified = true ∧ t.flight.health = [(5, true)] := by
  decide +kernel

/-- R37: the loss of an input 125,000 periods after its last tick. -/
theorem test_tickLoss :
    let t := after (.tickLoss 5) (s0.setInput 5 (ticking 10))
    t.inputs[(5 : Slot)].active = false ∧ t.inputs[(5 : Slot)].gate = none ∧ t.osc = 125109375 := by
  decide +kernel

/-! ### Notices and events -/

/-- Port 50 (shelf 3, port 2) in use, addressed to 0x111, with an identity transmit map. -/
def port50 : State :=
  s0.setTx 50 { resetTxPort with address := 0x111, inUse := true, periodic := some 7, squelch := 13 }

/-- R140, R142: the hand-over of rank 9 makes an EVENT notice of code 9 (Table 10-3). -/
theorem test_noticeUnitHandover :
    sentFabric (.noticeUnitHandover 3)
        { port50 with flight := { noFlight with notices := [(3, ⟨⟨9, 0, ⟨3, false⟩⟩, none, .freerun⟩)] } } =
      some [3, 2, 1, 9, 0] := by
  decide +kernel

/-- R143: the periodic notice of the present content, code 12. -/
theorem test_periodicTimerExpiry : sentFabric (.periodicTimerExpiry 50) port50 = some [3, 2, 0, 12, 0] := by
  decide +kernel

/-- R144: the budget window starts anew 1 s after the one before. -/
theorem test_budgetWindowStart :
    let t := after .budgetWindowStart (s0.setTx 50 { resetTxPort with inUse := true, count := 3 })
    t.osc = 125000000 ∧ t.txPorts[(50 : PortId)].count = 0 := by
  decide +kernel

/-- R157: a level latch of NOTICE_LOST (kind code 3), SET with its condition present: ACKED_WAITING at the
acknowledgement, CLEAR as the condition goes absent. -/
theorem test_level_latch :
    let e : EventUnit := { resetEvents 0 with enables := 0x0004, levels := 0x0004 }
    let l := condLatch (condNoticeLost 5)
    let e1 := e.condition (condNoticeLost 5) true
    (e1.ack l).latches[l] = .ackedWaiting ∧
      ((e1.ack l).condition (condNoticeLost 5) false).latches[l] = .clear := by
  decide +kernel

/-- The Event Unit with TARGET (kind code 5) enabled, a destination, and the latch of shelf 3 SET. -/
def events5 : EventUnit :=
  { resetEvents 0 with
    enables := 0x0010, destination := 0x055, news := true,
        latches := (resetEvents 0).latches.set (shelfLatch 0 3) .set }

/-- R159: the notice lists (TARGET, 3, SET) and clears the news. R160: a summary does the same. -/
theorem test_event_notices :
    sent .spacingTimerExpiry (withEvents { events5 with spacingTimer := some 4 } s0) = some [0, 1, 5, 3, 1] ∧
      (after .spacingTimerExpiry (withEvents { events5 with spacingTimer := some 4 } s0)).events.news = false ∧
      sent .summaryTimerExpiry (withEvents { events5 with news := false } s0) = some [0, 1, 5, 3, 1] := by
  decide +kernel

/-! ### Management requests: the answers (Table 10-7), tag, kind and status first -/

theorem test_identify : sent .identify (asked 0x01 [] s0) = some [0x12, 0x34, 0x01, 0x00, 0x24, 0x16, 3, 0, 0, 1] := by
  decide +kernel

/-- Table 10-12: the last PORTS record at power-on, the only one of nine that exists (R171). -/
theorem test_readTable :
    sent .readTable (asked 0x02 [2, 255, 9] s0) =
      some [0x12, 0x34, 0x02, 0x00, 2, 255, 1, 0, 0xFF, 0, 0, 0, 15, 15, 1] := by
  decide +kernel

/-- Table 10-11: the lengths of the READ_STATUS answer bodies, the object and index bytes included. -/
theorem test_status_lengths :
    (candidateStatus s0 5).length + 2 = 49 ∧ (shelfStatus s0 3).length + 2 = 54 ∧
        (portStatus s0 50).length + 2 = 28 := by
  decide +kernel

/-- R166: an unknown kind is answered with status 0x10; a body of one byte too few with 0x11; a slot above 23 with 0x12.
-/
theorem test_refusals :
    sent .unknownKind (asked 0x14 [] s0) = some [0x12, 0x34, 0x14, 0x10] ∧
      sent .take (asked 0x0C [] s0) = some [0x12, 0x34, 0x0C, 0x11] ∧
      sent .readStatusCandidate (asked 0x03 [0, 24] s0) = some [0x12, 0x34, 0x03, 0x12] := by
  decide +kernel

/-- R186: two body bytes make no request; it goes without an answer. -/
theorem test_requestTooShort :
    let t := after .requestTooShort
        { s0 with lane := { s0.lane with requests := [buildFrame 0x000 0x055 0x51 [0x12, 0x34]] } }
    t.lane.requests = [] ∧ t.lane.control.sending = none := by
  decide +kernel

/-- R13: the waiting answer goes out once a place is free. -/
theorem test_answerPlaced :
    let t := after .answerPlaced (asked 0x01 [] (withPhase (.answerWaiting ⟨[0x77], false⟩) s0))
    t.lane.requests = [] ∧ t.lane.control.sending = some ⟨[0x77], false⟩ := by
  decide +kernel

/-! The bodies of writes that pass every check (Table 10-10). -/

def candidateBody : List Byte := [5, 1, 0, 0x01, 0x35, 0x01, 0x2C, 0, 0, 2, 0, 40, 1, 8, 0x0F, 0xA0, 0x03, 0xE8]
def entryBody : List Byte := [0x00, 0x09, 2, 5, 3, 0]
def shelfBody : List Byte := [0x00, 0x09, 1, 1, 14, 0, 0x03, 0xA3, 30, 40, 5, 11, 10, 0, 60]
def unusedPort : List Byte := [0, 0xFF, 0, 0, 0, 15, 15, 1]
def portsBody : List Byte :=
  [51, 4] ++ unusedPort ++ unusedPort ++ [7, 5, 0x01, 0x11, 0, 13, 15, 20] ++ unusedPort
def mapBody16 (which m : Byte) : List Byte := [which, m] ++ (List.range 16).map fun i => byteOf (15 - i)
def nodeBody : List Byte :=
  [0, 0x11, 0x22, 0x33, 0x44, 0x5F, 0xD0, 0x00, 9, 0, 0x55, 0x00, 0x04, 0x1F, 0xFF, 0x00, 0x05, 99]

/-- R18, R47, R48, R67: hold-off 309 ms is stored as 300, 40 hops as 31, a timeout of 1 s as 2, a reject limit below the
accept limit as the accept limit; the answer is DONE_CLAMPED. -/
theorem test_writeCandidate :
    let s := asked 0x04 candidateBody s0
    sent .writeCandidate s = some [0x12, 0x34, 0x04, 0x01, 5] ∧
      (after .writeCandidate s).cands[(5 : Slot)] = cand .line .down true false .none ∧
      (after .writeCandidate s).grades[(5 : Slot)].timeoutS = 2 ∧
          (after .writeCandidate s).inputs[(5 : Slot)].rejectPpb = 4000 := by
  decide +kernel

/-- R19: a health report still in flight when the slot is bound to NONE reaches no later binding (log entry 26). -/
theorem test_unbinding_consumes_report :
    let s := { line5 with flight := { noFlight with health := [(5, true), (3, true)] } }
    (after .writeCandidate (asked 0x04 (candidateBody.set 1 0) s)).flight.health = [(3, true)] := by
  decide +kernel

/-- R78: shelf 3 holds slot 5 in entry 1 and refuses it as DUPLICATE; shelf 0 takes it: PARTIAL_DONE. -/
theorem test_writeListEntry :
    sent .writeListEntry
        (asked 0x05 entryBody (s0.setShelf 3 { resetShelf with entries := resetShelf.entries.set 1 (entry 5 1) })) =
      some [0x12, 0x34, 0x05, 0x03, 0x00, 0x01, 0x00, 0x08, 0x16] := by
  decide +kernel

/-- R79, R109, R133: a hop limit of 0 is stored as 1, a report time of 40 s as 30, a freerun rank below the holdover
rank as that rank; a new module address resends HOLD. -/
theorem test_writeShelf :
    let s := asked 0x06 shelfBody s0
    sent .writeShelf s = some [0x12, 0x34, 0x06, 0x01, 0x00, 0x09, 0x00, 0x00, 0x00] ∧
      (after .writeShelf s).shelves[(3 : ShelfId)].sel = ⟨.priority, true, 14, 1⟩ ∧
      (after .writeShelf s).slices[(3 : ShelfId)].cfg = ⟨0x3A3, 30, 30, 5, 11, 11, 60⟩ := by
  decide +kernel

/-- R175: the start 51 of a block of 4 acts as 48; R53: an entry out of use binds no slot; R138: an interval of 20 s is
stored as 10 s. -/
theorem test_writePorts :
    checkWritePorts (req 0x07 portsBody) = none ∧ effectiveStart portsBody = 48 ∧ portsClamped portsBody = true ∧
      rxOf (entryFor portsBody 50) = ⟨true, some 5, true⟩ ∧ rxOf (entryFor portsBody 51) = ⟨false, none, false⟩ ∧
      (txOf (entryFor portsBody 50)).intervalS = 10 ∧ (txOf (entryFor portsBody 50)).address = 0x111 := by
  decide +kernel

/-- R63, R146, R176: an attached map refuses a write with NOT_DETACHED; a detached one takes it. -/
theorem test_map_writes :
    sent .writeReceiveMap (asked 0x08 (mapBody16 0 2) s0) = some [0x12, 0x34, 0x08, 0x15] ∧
      sent .writeReceiveMap (asked 0x08 (mapBody16 0 2) (withRmap 2 loose s0)) = some [0x12, 0x34, 0x08, 0x00, 0, 2] ∧
      sent .writeTransmitMap (asked 0x08 (mapBody16 1 3) s0) = some [0x12, 0x34, 0x08, 0x15] := by
  decide +kernel

/-- R64, R65, R147: DETACH_MAP and ATTACH_MAP. -/
theorem test_map_states :
    (after .detachReceiveMap (asked 0x0A [0, 0] s0)).grades[(5 : Slot)].held = true ∧
      (after .attachReceiveMap (asked 0x0B [0, 2] (withRmap 2 loose s0))).rmaps[(2 : MapId)].attached = true ∧
      (after .detachTransmitMap (asked 0x0A [1, 3] s0)).tmaps[(3 : MapId)].attached = false ∧
      (after .attachTransmitMap (asked 0x0B [1, 3] (withTmap 3 loose s0))).tmaps[(3 : MapId)].attached = true := by
  decide +kernel

/-- R135, R49, R84, R155: the base tag's low bits are zero, −12,288 ppb is stored as −10,000, E = 9 as 8, and only
condition kinds take a LEVEL bit. -/
theorem test_writeNode :
    let t := after .writeNode (asked 0x09 nodeBody s0)
    t.baseTag = 0x001122334450#48 ∧ t.correction = -10000 ∧ t.engine.budget = 8 ∧ t.events.levels = conditionKinds ∧
      t.events.spacingMs = 100 ∧ t.events.summaryS = 60 := by
  decide +kernel

/-- R168: TAKE of a free semaphore, of one that another address holds, and RELEASE. -/
theorem test_semaphores :
    sent .take (asked 0x0C [2] s0) = some [0x12, 0x34, 0x0C, 0x02] ∧
      sent .take (asked 0x0C [2] (withSem 2 0x123 s0)) = some [0x12, 0x34, 0x0C, 0x14, 0x01, 0x23] ∧
      (after .release (asked 0x0D [2] (withSem 2 0x123 s0))).agent.sems[(2 : Fin 5)] = none := by
  decide +kernel

/-- R93 to R95: HOLD is stored, FORCE under HOLD is PREEMPTED, FORCE of an unused entry is NOT_ELIGIBLE. -/
theorem test_commandHold_commandForce :
    (after .commandHold (asked 0x0E [0, 1, 0, 0] s0)).shelves[(0 : ShelfId)].command = .hold ∧
      sent .commandForce (asked 0x0E [0, 2, 0, 0] (s0.setShelf 0 { resetShelf with command := .hold })) =
        some [0x12, 0x34, 0x0E, 0x18] ∧
      sent .commandForce (asked 0x0E [0, 2, 0, 0] s0) = some [0x12, 0x34, 0x0E, 0x19] := by
  decide +kernel

/-- R96: in AUTO mode MANUAL of the outranked C2 is NOT_ELIGIBLE, in PRIORITY mode it is taken. -/
theorem test_commandManual :
    sent .commandManual (asked 0x0E [0, 3, 0, 0] (list55 ⟨.auto, false, 14, 20⟩)) = some [0x12, 0x34, 0x0E, 0x19] ∧
      (after .commandManual
          (asked 0x0E [0, 3, 0, 0] (list55 ⟨.priority, false, 14, 20⟩))).shelves[(0 : ShelfId)].command =
        .manual 0 := by
  decide +kernel

/-- R97, R98: CLEAR ends a command; LOCKOUT of the forced entry drops FORCE. -/
theorem test_commandClear_commandLockout :
    (after .commandClear (asked 0x0E [0, 4, 0, 0]
        (s0.setShelf 0 { resetShelf with command := .hold }))).shelves[(0 : ShelfId)].command =
        .none ∧
      (after .commandLockout (asked 0x0E [0, 5, 6, 1]
          (s0.setShelf 0 { resetShelf with command := .force 6 }))).shelves[(0 : ShelfId)].command =
        .none := by
  decide +kernel

/-- R125 to R127: PARK of shelves 0 and 3, then UNPARK and RESET; a slice reset sends HOLD under the next sequence. -/
theorem test_slice_requests :
    let p := after .park (asked 0x0F [0, 9, 1] s0)
    p.slices[(3 : ShelfId)].timing = .parked ∧
      (after .unpark (asked 0x0F [0, 9, 2] p)).slices[(3 : ShelfId)].timing = .freerun ∧
      (after .sliceReset (asked 0x0F [0, 9, 3] p)).slices[(3 : ShelfId)].timing = .parked ∧
      (after .sliceReset (asked 0x0F [0, 9, 3] s0)).slices[(3 : ShelfId)].seq = 1 := by
  decide +kernel

/-- R100: CLEAR_MARKS queues only the shelf whose set held a slot. -/
theorem test_clearMarks :
    (after .clearMarks
        (asked 0x10 [0, 9] (s0.setShelf 3
            { resetShelf with failed := (Vector.replicate 24 false).set 5 true }))).engine.queue =
      [⟨3, none⟩] := by
  decide +kernel

/-- R158: the pair (TARGET, 3) clears its latch; R179: a count that does not match the length is BAD_LENGTH. -/
theorem test_ackEvents :
    (after .ackEvents (asked 0x11 [1, 5, 3] (withEvents events5 s0))).events.latches[shelfLatch 0 3] = .clear ∧
      sent .ackEvents (asked 0x11 [2, 5, 3] (withEvents events5 s0)) = some [0x12, 0x34, 0x11, 0x11] := by
  decide +kernel

/-- R180, R181: the RESTART answer is marked; CLEAR_RESTART_RECORD clears the three flags. -/
theorem test_restart_requests :
    (after .restart (asked 0x12 [] s0)).agent.phase = .restarting ∧
      sent .restart (asked 0x12 [] s0) = some [0x12, 0x34, 0x12, 0x00] ∧
      (after .clearRestartRecord (asked 0x13 [] s0)).agent.record = ⟨false, false, false⟩ := by
  decide +kernel

/-! ### Witnesses: states and operands that meet the hypotheses of the statements -/

/-- The part with the reset line asserted. -/
def held : State := after .resetLineAsserted s0

theorem witness_StepTakesFrontCommand :
    { s0 with pending := [.evaluation, .tick 3 5] }.pending = .evaluation :: [.tick 3 5] ∧ s0.pending = [] := ⟨rfl, rfl⟩

theorem witness_ResetIsPowerOnAndSafe : s0.osc = 0 ∧ s0.lane.resetAsserted = false ∧ s0.pending = [] := ⟨rfl, rfl, rfl⟩

theorem witness_PowerUpStartsLaneAndAgent : held.lane.resetAsserted = true := by decide +kernel

theorem witness_PowerUpCandidates : PoweredUp s0 (powerUp 0x2A0 s0) ∧ PoweredUp held (releaseReset 0x2A0 held) :=
  ⟨⟨0x2A0, Or.inl rfl⟩, ⟨0x2A0, Or.inr ⟨by decide +kernel, rfl⟩⟩⟩

theorem witness_PowerUpEventUnit : PoweredUp line5 (powerUp 0 line5) ∧ PoweredUp held (releaseReset 0 held) :=
  ⟨⟨0, Or.inl rfl⟩, ⟨0, Or.inr ⟨by decide +kernel, rfl⟩⟩⟩

/-- With a frame in transmission on FABRIC, slice 3 PARKED, and slot 5 a LINE candidate that a port entry binds. -/
theorem witness_RestartKeepsTables :
    let f : OutFrame := ⟨[], true⟩
    let s := withFabric { resetPort with sending := some ⟨[0x01], false⟩ }
      (withControl { resetPort with sending := some f } (line5.setSlice 3 (slice 3 .parked none .hold)))
    s.lane.control.sending = some f ∧ f.isRestartAnswer = true ∧ s.lane.fabric.sending.isSome = true ∧
      s.slices[(3 : ShelfId)].timing = .parked ∧ s.slices[(4 : ShelfId)].timing ≠ .parked ∧
      s.cands[(5 : Slot)].kind = .line ∧ (portOf s.rxPorts 5).isSome = true := by
  decide +kernel

/-! Frames. -/

/-- Queues with room for one frame more. -/
def nearlyFull : State :=
  { s0 with
    lane :=
      { s0.lane with
        fabric := { resetPort with transitQ := List.replicate 63 [], sending := some ⟨[], false⟩ }
        control := { resetPort with transitQ := List.replicate 63 [], sending := some ⟨[], false⟩ }
        localIn := List.replicate 15 []
        requests := List.replicate 3 [] } }

/-- Every input queue and transit queue full. -/
def full : State :=
  { s0 with
    lane :=
      { s0.lane with
        fabric := { resetPort with transitQ := List.replicate 64 [], sending := some ⟨[], false⟩ }
        control := { resetPort with transitQ := List.replicate 64 [], sending := some ⟨[], false⟩ }
        localIn := List.replicate 16 []
        requests := List.replicate 4 [] } }

def damaged : Frame := [0x00, 0x00, 0x00, 0x55, 0x51, 0x00, 0x00, 0x00]
def lockShort : Frame := buildFrame 0x000 0x3A3 0x42 [3, 1, 2, 1]
def lockElsewhere : Frame := buildFrame 0x001 0x3A3 0x42 [3, 1, 2, 1, 5]
def noticeOdd : Frame := buildFrame 0x000 0x111 0x31 [3, 2, 0, 7]
def requestElsewhere : Frame := buildFrame 0x001 0x055 0x51 [0x12, 0x34, 0x01]
def foreign : Frame := buildFrame 0x7FF 0x001 0x77 []

theorem witness_FramesClassified_ignored :
    held.lane.resetAsserted = true ∧ frameCheck damaged = false := by decide +kernel

theorem witness_FramesClassified_fabric :
    nearlyFull.lane.resetAsserted = false ∧ nearlyFull.lane.localIn.length < 16 ∧
      (frameCheck notice5 = true ∧ frameKind notice5 = 0x31 ∧ frameBodyLen notice5 = 5) ∧
      (frameCheck notice13 = true ∧ frameKind notice13 = 0x31 ∧ frameBodyLen notice13 = 13) ∧
      (frameCheck lockFrame = true ∧ frameKind lockFrame = 0x42 ∧ frameDest lockFrame = nearlyFull.lane.strap ∧
        frameBodyLen lockFrame = 5) ∧
      (frameCheck lockShort = true ∧ frameKind lockShort = 0x42 ∧ frameDest lockShort = nearlyFull.lane.strap ∧
        frameBodyLen lockShort ≠ 5) ∧
      (frameCheck (request 1 []) = true ∧ frameKind (request 1 []) = 0x51 ∧
        frameDest (request 1 []) = nearlyFull.lane.strap) := by
  decide +kernel

theorem witness_FramesClassified_transit :
    nearlyFull.lane.control.transitQ.length < 64 ∧ nearlyFull.lane.fabric.transitQ.length < 64 ∧
      nearlyFull.lane.requests.length < 4 ∧
      (frameCheck noticeOdd = true ∧ frameKind noticeOdd = 0x31 ∧ frameBodyLen noticeOdd ≠ 5 ∧
          frameBodyLen noticeOdd ≠ 13) ∧
      (frameCheck lockElsewhere = true ∧ frameKind lockElsewhere = 0x42 ∧
          frameDest lockElsewhere ≠ nearlyFull.lane.strap) ∧
      (frameCheck requestElsewhere = true ∧ frameKind requestElsewhere = 0x51 ∧
        frameDest requestElsewhere ≠ nearlyFull.lane.strap) ∧
      (frameCheck foreign = true ∧ frameKind foreign ≠ 0x31 ∧ frameKind foreign ≠ 0x42 ∧ frameKind foreign ≠ 0x51) := by
  decide +kernel

/-- Every queue full but the CONTROL port's, which has one place left for a frame in transit. -/
def fullButTransit : State := withControl nearlyFull.lane.control full

theorem witness_FullQueuesRaiseOverflow :
    (∀ s ∈ [full, fullButTransit],
      s.lane.resetAsserted = false ∧ s.lane.control.workConserving ∧ 4 ≤ s.lane.requests.length ∧
        64 ≤ s.lane.fabric.transitQ.length ∧ 16 ≤ s.lane.localIn.length) ∧
      64 ≤ full.lane.control.transitQ.length ∧ fullButTransit.lane.control.transitQ.length < 64 := by
  unfold OutPort.workConserving
  decide +kernel

/-- The frames of each clause: taken in, in transit from CONTROL, and in transit from FABRIC. -/
theorem witness_FullQueuesRaiseOverflow_frames :
    (frameCheck (request 1 []) = true ∧ frameKind (request 1 []) = 0x51 ∧
        frameDest (request 1 []) = full.lane.strap) ∧
      (frameCheck requestElsewhere = true ∧ frameKind requestElsewhere = 0x51 ∧
        frameDest requestElsewhere ≠ full.lane.strap) ∧
      (frameCheck foreign = true ∧ frameKind foreign ≠ 0x31 ∧ frameKind foreign ≠ 0x42 ∧ frameKind foreign ≠ 0x51) ∧
      (frameCheck noticeOdd = true ∧ frameKind noticeOdd = 0x31 ∧ frameBodyLen noticeOdd ≠ 5 ∧
        frameBodyLen noticeOdd ≠ 13) ∧
      (frameCheck lockElsewhere = true ∧ frameKind lockElsewhere = 0x42 ∧
        frameDest lockElsewhere ≠ full.lane.strap) ∧
      (frameCheck lockFrame = true ∧ frameKind lockFrame = 0x42 ∧ frameDest lockFrame = full.lane.strap ∧
        frameBodyLen lockFrame = 5) ∧
      (frameCheck notice5 = true ∧ frameKind notice5 = 0x31 ∧ frameBodyLen notice5 = 5) ∧
      (frameCheck notice13 = true ∧ frameKind notice13 = 0x31 ∧ frameBodyLen notice13 = 13) := by
  decide +kernel

/-- Both output ports in one state. -/
def ports (p : OutPort) : State := withFabric p (withControl p s0)

theorem witness_ArbiterAlternates :
    let g : OutFrame := ⟨[0x00], false⟩
    (∀ q ∈ ([resetPort, ⟨[[0x01]], [], .transit, none⟩, ⟨[[0x01]], [g], .localQ, none⟩, ⟨[], [g], .localQ, none⟩,
        ⟨[[0x01]], [g], .transit, none⟩] : List OutPort),
      (ports { q with sending := some g }).lane.resetAsserted = false ∧
        (ports { q with sending := some g }).lane.fabric.sending = some g ∧
        (ports { q with sending := some g }).lane.control.sending = some g) ∧ g.isRestartAnswer = false := by
  decide +kernel

/-! Ticks. -/

/-- A watched input whose last tick came at 0. -/
def watchedInput (active : Bool) (gate : Option Gate) : TickInput :=
  { resetInput with watched := true, active := active, gate := gate }

theorem inputOk_watched (active : Bool) (gate : Option Gate) (h : ∀ g, gate = some g → g.ticks < 8000)
    (ha : active = false → gate = none) : InputOk (watchedInput active gate) :=
  ⟨by simp [watchedInput, resetInput], by simp [watchedInput, resetInput], by simp [watchedInput, resetInput],
    by simp [watchedInput, resetInput], fun _ => rfl,
    fun h0 => ⟨ha h0, rfl, rfl, rfl, rfl⟩, h, Nat.zero_le _, fun _ h0 => (nomatch h0)⟩

theorem inputOk_reset : InputOk resetInput :=
  ⟨by decide, by decide, by decide, by decide, by decide, fun _ => ⟨rfl, rfl, rfl, rfl, rfl⟩, fun _ h => (nomatch h),
    by decide, fun _ h => (nomatch h)⟩

theorem setInput_at (n : Slot) (i : TickInput) (s : State) : (s.setInput n i).inputs[n] = i := by
  simp [State.setInput]

theorem witness_TicksCounted_idle :
    (InputOk s0.inputs[(5 : Slot)] ∧ s0.inputs[(5 : Slot)].watched = false) ∧
      (InputOk (s0.setInput 5 (watchedInput false none)).inputs[(5 : Slot)] ∧
        (s0.setInput 5 (watchedInput false none)).inputs[(5 : Slot)].watched = true ∧
        (s0.setInput 5 (watchedInput false none)).inputs[(5 : Slot)].active = false) := by
  have h0 : s0.inputs[(5 : Slot)] = resetInput := by decide +kernel
  refine ⟨⟨?_, by decide +kernel⟩, ?_, by decide +kernel, by decide +kernel⟩
  · rw [h0]
    exact inputOk_reset
  · rw [setInput_at]; exact inputOk_watched _ _ (fun _ h => (nomatch h)) fun _ => rfl

/-- The span of 125,000 periods is just not over. -/
theorem witness_TicksCounted_active :
    (∀ q ∈ ([none, some ⟨0, 0⟩, some ⟨7998, 0⟩] : List (Option Gate)),
      InputOk (s0.setInput 5 (watchedInput true q)).inputs[(5 : Slot)] ∧
        (s0.setInput 5 (watchedInput true q)).inputs[(5 : Slot)].watched = true ∧
        (s0.setInput 5 (watchedInput true q)).inputs[(5 : Slot)].active = true ∧
        (s0.setInput 5 (watchedInput true q)).osc + 125000 ≤
          (s0.setInput 5 (watchedInput true q)).inputs[(5 : Slot)].lastTick + 125000 ∧
        (s0.setInput 5 (watchedInput true q)).inputs[(5 : Slot)].gate = q) := by
  intro q hq
  simp only [setInput_at]
  refine ⟨inputOk_watched _ _ ?_ (by simp), rfl, rfl,
      by simp [watchedInput, resetInput, State.setInput, s0, State.reset, State.powerOn], rfl⟩
  intro g hg
  simp only [List.mem_cons, List.not_mem_nil, or_false] at hq
  obtain rfl | rfl | rfl := hq
  · cases hg
  · cases hg; decide
  · cases hg; decide

/-- A gate at its last interval, with the window of W = 2 filled to the given length. -/
def lastInterval (window : List Nat) : TickInput :=
  { watchedInput true (some ⟨7999, 0⟩) with windowLen := 2, window := window }

/-- The window stays short (0 counts), fills in range (1 count), or stays full with a count out of range (2 counts). -/
theorem witness_GateCompletes :
    ∀ w ∈ ([[], [125000000], [125000000, 1]] : List (List Nat)),
      (s0.setInput 5 (lastInterval w)).inputs[(5 : Slot)].watched = true ∧
        (s0.setInput 5 (lastInterval w)).inputs[(5 : Slot)].active = true ∧
        (s0.setInput 5 (lastInterval w)).osc + 125000 ≤
            (s0.setInput 5 (lastInterval w)).inputs[(5 : Slot)].lastTick + 125000 ∧
        (s0.setInput 5 (lastInterval w)).inputs[(5 : Slot)].gate = some ⟨7999, 0⟩ ∧
        1 ≤ (s0.setInput 5 (lastInterval w)).inputs[(5 : Slot)].windowLen ∧
        (s0.setInput 5 (lastInterval w)).inputs[(5 : Slot)].window.length ≤
          (s0.setInput 5 (lastInterval w)).inputs[(5 : Slot)].windowLen := by
  decide +kernel

theorem witness_TickLossEntersMissing :
    (s0.setInput 5 (ticking 10)).inputs[(5 : Slot)].watched = true ∧
      (s0.setInput 5 (ticking 10)).inputs[(5 : Slot)].active = true := by
  decide +kernel

/-! Candidates and grades. -/

/-- Slot 5 as given, with reports of slots 3 and 5 in flight. -/
def reported (h : Bool) (c : Cand) : State :=
  { s0 with flight := { noFlight with health := [(3, true), (5, h), (5, !h)] } }.setCand 5 c

/-- In each of the states of Table 2-4, and in DOWN fresh, not fresh, under the maintenance hold and with WTR 0. -/
theorem witness_HealthReportMovesCandidate :
    (∀ c ∈ ([resetCand, cand .line .down true false .none, cand .line .down false false .none,
        { cand .line .down false false .none with maintHold := true },
            { cand .line .down false false .none with wtrS := 0 },
        cand .line .restoring false true (.wtr 9), cand .line .available false true .none,
        { cand .line .available false true .none with holdOffMs := 0 }, cand .line .suspect false false (.holdOff 9)] :
        List Cand), ∀ h : Bool,
      (reported h c).flight.health = [(3, true)] ++ (5, h) :: [(5, !h)] ∧ (reported h c).cands[(5 : Slot)] = c) ∧
      ∀ x ∈ [((3 : Slot), true)], x.1 ≠ 5 := by
  decide +kernel

theorem witness_RemovalLeavesLockFailedSets :
    { s0 with flight := { noFlight with removals := [3, 5, 5] } }.flight.removals = [3] ++ 5 :: [5] ∧
        (5 : Slot) ∉ [(3 : Slot)] := by
  decide +kernel

theorem witness_CandidateTimersExpire :
    (s0.setCand 5 (cand .line .suspect false false (.holdOff 9))).cands[(5 : Slot)].state = .suspect ∧
      (s0.setCand 5 (cand .line .suspect false false (.holdOff 9))).cands[(5 : Slot)].timer = .holdOff 9 ∧
      (s0.setCand 5 (cand .line .restoring false true (.wtr 9))).cands[(5 : Slot)].state = .restoring ∧
      (s0.setCand 5 (cand .line .restoring false true (.wtr 9))).cands[(5 : Slot)].timer = .wtr 9 := by
  decide +kernel

/-- Both body lengths, under an attached and under a detached map, after TIMED_OUT, and for an entry that forwards with
the transit queue one short of full and full. -/
theorem witness_NoticeGradesLineCandidate :
    let forwarding := withRx 50 ⟨true, some 5, false⟩ line5
    (∀ s ∈ [line5, withRmap 0 loose line5,
        line5.setGrade 5 { resetGrade with code := .timedOut }, withControl nearlyFull.lane.control forwarding,
        withControl full.lane.control forwarding],
      (withLocalIn [notice5, []] s).lane.localIn = notice5 :: [[]] ∧
        (withLocalIn [notice13, []] s).lane.localIn = notice13 :: [[]] ∧
        s.rxPorts[(50 : PortId)].inUse = true ∧ s.rxPorts[(50 : PortId)].bound = some 5 ∧
        s.cands[(5 : Slot)].kind = .line ∧ s.lane.control.workConserving) ∧
      (∀ f ∈ [notice5, notice13],
        frameKind f = 0x31 ∧ byteAt (frameBody f) 0 < 16 ∧ byteAt (frameBody f) 1 < 16 ∧
          (50 : PortId).val = byteAt (frameBody f) 0 * 16 + byteAt (frameBody f) 1 ∧
          byteAt (frameBody f) 3 = (7 : Code).val) ∧
      frameBodyLen notice5 ≠ 13 ∧ frameBodyLen notice13 = 13 := by
  unfold OutPort.workConserving
  decide +kernel

/-- Notices that name shelf 16, port 16 and code 16. -/
def noticeShelf16 : Frame := buildFrame 0x000 0x111 0x31 [16, 2, 0, 7, 0]
def noticePort16 : Frame := buildFrame 0x000 0x111 0x31 [3, 16, 0, 7, 0]
def noticeCode16 : Frame := buildFrame 0x000 0x111 0x31 [3, 2, 0, 16, 0]

/-- An entry that binds no slot and forwards, with the transit queue one short of full and full, and one that binds a
STATION and absorbs; then a notice of each field out of range, and one for an entry out of use. -/
theorem witness_NoticeWithoutLineCandidate :
    let a := withLocalIn [notice5] (withRx 50 ⟨true, none, false⟩ nearlyFull)
    let b := withLocalIn [notice5] (withRx 50 ⟨true, none, false⟩ full)
    let c := withLocalIn [notice5] (withRx 50 ⟨true, some 5, true⟩ (s0.setCand 5 (cand .station .down true false .none)))
    (∀ s ∈ [a, b, c], s.lane.localIn = [notice5] ∧ lookupNotice s notice5 = some 50) ∧
      (a.rxPorts[(50 : PortId)].bound = none ∧ a.lane.control.transitQ.length < 64) ∧
      (b.rxPorts[(50 : PortId)].bound = none ∧ ¬b.lane.control.transitQ.length < 64) ∧
      (c.rxPorts[(50 : PortId)].bound = some 5 ∧ c.cands[(5 : Slot)].kind ≠ .line) ∧
      (frameKind noticeShelf16 = 0x31 ∧ 15 < byteAt (frameBody noticeShelf16) 0) ∧
      (frameKind noticePort16 = 0x31 ∧ 15 < byteAt (frameBody noticePort16) 1) ∧
      (frameKind noticeCode16 = 0x31 ∧ 15 < byteAt (frameBody noticeCode16) 3) ∧
      ((50 : PortId).val = byteAt (frameBody notice5) 0 * 16 + byteAt (frameBody notice5) 1 ∧
        s0.rxPorts[(50 : PortId)].inUse = false) := by
  decide +kernel

theorem witness_NoticeTimerExpires :
    let s := s0.setGrade 5 { resetGrade with code := .received 7, timer := some 900 }
    s.grades[(5 : Slot)].timer = some 900 ∧ s.grades[(5 : Slot)].code ≠ .timedOut := by
  decide +kernel

theorem witness_TripleHandoverRegrades :
    let tr : Triple := ⟨3, 6, ⟨0x40, true⟩⟩
    let s := { s0 with flight := { noFlight with triples := [(2, tr), (4, tr), (4, tr)] } }
    s.flight.triples = [(2, tr)] ++ (4, tr) :: [(4, tr)] ∧ ∀ x ∈ [((2 : ShelfId), tr)], x.1 ≠ 4 := by
  decide +kernel

/-! The Notice Unit. -/

/-- Port 50 with nothing sent yet, at the last notice of its budget, past it, and with the new content already sent. -/
theorem witness_NoticeUnitTakesCopy :
    let c : NoticeCopy := ⟨⟨9, 0, ⟨3, false⟩⟩, none, .freerun⟩
    let held (v : TxPort) : State := { port50.setTx 50 v with flight := { noFlight with notices := [(2, c), (3, c)] } }
    let v := port50.txPorts[(50 : PortId)]
    (∀ w ∈ [v, { v with count := 2 }, { v with count := 3 },
        { v with lastSent := some (portContent { port50 with copies := port50.copies.set 3 c } 50) }],
      (held w).flight.notices = [(2, c)] ++ (3, c) :: [] ∧ (held w).txPorts[(50 : PortId)].inUse = true) ∧
      (∀ x ∈ [((2 : ShelfId), c)], x.1 ≠ 3) ∧ portShelf 50 = 3 := by
  decide +kernel

/-- 31 frames in the FABRIC local outbound queue, where one finds its place, and 32, where none does. -/
def fabricQueue (n : Nat) : OutPort :=
  { resetPort with localQ := List.replicate n ⟨[], false⟩, sending := some ⟨[], false⟩ }

theorem witness_NoticeTimersSend :
    (∀ n ∈ [31, 32], (withFabric (fabricQueue n) port50).txPorts[(50 : PortId)].periodic = some 7) ∧
      (withFabric (fabricQueue 31) port50).lane.fabric.localQ.length < 32 ∧
      ¬(withFabric (fabricQueue 32) port50).lane.fabric.localQ.length < 32 ∧
      (∀ b : Bool,
        let s := s0.setTx 50 { resetTxPort with inUse := true, count := 3, changePending := b }
        s.txPorts[(50 : PortId)].inUse = true ∧ s.txPorts[(50 : PortId)].changePending = b) ∧
      s0.txPorts[(50 : PortId)].inUse = false := by
  decide +kernel

/-! The Selection Engine. -/

/-- Shelf 0 with the list of Table 5-5, the given command and target, at the head of the evaluation queue. -/
def turn (c : Command) (t : Option Slot) (mark : Option Slot) : State :=
  let s := list55 ⟨.auto, false, 14, 20⟩
  withQueue [⟨0, mark⟩, ⟨3, none⟩]
    ((s.setShelf 0 { s.shelves[(0 : ShelfId)] with command := c, target := t.map fun n => ⟨n, .line, 0⟩ }).setSlice 0
      { slice 0 (if t.isSome then .acquiring else .freerun) t (match t with | some n => .track n | none => .hold) with
        lockTimer := t.map fun _ => 9 })

/-- An operation waits, and the count is one below the budget of 4. -/
def waiting (s : State) : State := withPhase .engineOp { s with engine := { s.engine with count := 3 } }

theorem witness_ParkedEvaluationChangesNothing :
    let s := waiting (withQueue [⟨3, some 5⟩] (s0.setSlice 3 (slice 3 .parked none .hold)))
    s.engine.queue = ⟨3, some 5⟩ :: [] ∧ s.slices[(3 : ShelfId)].timing = .parked ∧
      (s.agent.phase = .engineOp → s.engine.count < s.engine.budget) := by
  decide +kernel

theorem witness_CommandsDecideTarget :
    ∀ c ∈ ([.hold, .force 1, .force 7, .manual 2, .manual 0] : List Command),
      (waiting (turn c none none)).engine.queue = ⟨0, none⟩ :: [⟨3, none⟩] ∧
        (waiting (turn c none none)).slices[(0 : ShelfId)].timing ≠ .parked ∧
        ((waiting (turn c none none)).agent.phase = .engineOp →
          (waiting (turn c none none)).engine.count < (waiting (turn c none none)).engine.budget) ∧
        (waiting (turn c none none)).shelves[(0 : ShelfId)].command = c := by
  decide +kernel

/-- No eligible entry; a kept target in AUTO mode (C11, which none outranks). -/
theorem witness_AutomaticTargetChosen :
    let s := turn .none (some 11) none
    let e := withQueue [⟨3, none⟩] s0
    (s.engine.queue = ⟨0, none⟩ :: [⟨3, none⟩] ∧ s.slices[(0 : ShelfId)].timing ≠ .parked ∧
        (s.agent.phase = .engineOp → s.engine.count < s.engine.budget) ∧ s.shelves[(0 : ShelfId)].command = .none ∧
        s.shelves[(0 : ShelfId)].sel.revertive = false ∧ targetSlot s 0 = some 11 ∧
        (∃ f : EntryId, eligible s 0 f = true ∧ s.shelves[(0 : ShelfId)].entries[f].slot = 11) ∧
        ∀ f : EntryId, eligible s 0 f = true →
          s.grades[(11 : Slot)].eff.rank ≤ s.grades[s.shelves[(0 : ShelfId)].entries[f].slot].eff.rank) ∧
      (e.engine.queue = ⟨3, none⟩ :: [] ∧ e.slices[(3 : ShelfId)].timing ≠ .parked ∧ e.agent.phase ≠ .engineOp ∧
        e.shelves[(3 : ShelfId)].command = .none ∧ ∀ f : EntryId, eligible e 3 f = false) := by
  decide +kernel

theorem witness_MarkJoinsLockFailedSet :
    let s := turn .none (some 11) (some 11)
    s.engine.queue = ⟨0, some 11⟩ :: [⟨3, none⟩] ∧ s.slices[(0 : ShelfId)].timing ≠ .parked ∧
      (s.agent.phase = .engineOp → s.engine.count < s.engine.budget) ∧ targetSlot s 0 = some 11 := by
  decide +kernel

/-- Shelf 5 lists slot 9, a candidate of kind SHELF. -/
def cascading (s : State) : State :=
  (s.setCand 9 { cand .shelf .down true false .none with source := 0 }).setShelf 5
    { resetShelf with entries := resetShelf.entries.set 0 (entry 9 1) }

/-- Evaluations that keep the target, change it to a slot, and change it to NONE (by HOLD), with shelf 5 to be told, and
with the FABRIC local outbound queue one short of full and full. -/
theorem witness_TargetChangeDirectsModule :
    (∀ s ∈ [turn .none (some 11) none, turn .none none none, turn .hold (some 11) none], ∀ n ∈ [31, 32],
      let u := withFabric (fabricQueue n) (cascading s)
      u.engine.queue = ⟨0, none⟩ :: [⟨3, none⟩] ∧ u.slices[(0 : ShelfId)].timing ≠ .parked ∧
        (u.agent.phase = .engineOp → u.engine.count < u.engine.budget) ∧ listsShelfKind u 5 = true) ∧
      targetSlot (after .evaluation (turn .none (some 11) none)) 0 = some 11 ∧
      targetSlot (after .evaluation (turn .none none none)) 0 = some 11 ∧
      targetSlot (after .evaluation (turn .hold (some 11) none)) 0 = none := by
  decide +kernel

/-! The slices. -/

def lock16 : Frame := buildFrame 0x000 0x3A3 0x42 [16, 1, 2, 1, 5]

/-- A shelf number of 16; another source address; a PARKED slice. -/
theorem witness_UnacceptedReportConsumed :
    let a := withLocalIn [lock16] s0
    let b := withLocalIn [lockFrame] s0
    let c := withLocalIn [lockFrame] (s0.setSlice 3 (slice 3 .parked none .hold))
    (a.lane.localIn = lock16 :: [] ∧ frameKind lock16 = 0x42 ∧ 15 < byteAt (frameBody lock16) 0) ∧
      (b.lane.localIn = lockFrame :: [] ∧ frameKind lockFrame = 0x42 ∧
          (3 : ShelfId).val = byteAt (frameBody lockFrame) 0 ∧
        frameSource lockFrame ≠ b.slices[(3 : ShelfId)].cfg.module) ∧
      (c.lane.localIn = lockFrame :: [] ∧ c.slices[(3 : ShelfId)].timing = .parked) := by
  decide +kernel

/-- A report that is current in ACQUIRING, SETTLING, LOCKED, FREERUN and HOLDOVER, and one that is stale by the unsent
flag. -/
theorem witness_AcceptedReportMovesSlice :
    (∀ v ∈ ([slice 3 .acquiring (some 5) (.track 5), slice 3 .settling (some 5) (.track 5),
        slice 3 .locked (some 4) (.track 4), slice 3 .freerun none .hold, slice 3 .holdover none .hold,
        { slice 3 .freerun none .hold with unsent := true }, { slice 3 .freerun none .hold with seq := 0 }] : List
            Slice),
      (withLocalIn [lockFrame] (s0.setSlice 3 v)).lane.localIn = lockFrame :: [] ∧
        frameSource lockFrame = (withLocalIn [lockFrame] (s0.setSlice 3 v)).slices[(3 : ShelfId)].cfg.module ∧
        (withLocalIn [lockFrame] (s0.setSlice 3 v)).slices[(3 : ShelfId)].timing ≠ .parked ∧
        (withLocalIn [lockFrame] (s0.setSlice 3 v)).slices[(3 : ShelfId)] = v) ∧
      frameKind lockFrame = 0x42 ∧ (3 : ShelfId).val = byteAt (frameBody lockFrame) 0 ∧
          (reportOf lockFrame).echo = 1 := by
  decide +kernel

/-- Slice 3 SETTLING. -/
def settling3 : State := s0.setSlice 3 { slice 3 .settling (some 5) (.track 5) with settleTimer := some 900 }

theorem witness_SliceTimersExpire :
    (acquiring3.slices[(3 : ShelfId)].timing = .acquiring ∧ acquiring3.slices[(3 : ShelfId)].lockTimer = some 900 ∧
        acquiring3.slices[(3 : ShelfId)].target = some 5) ∧
      (settling3.slices[(3 : ShelfId)].timing = .settling ∧ settling3.slices[(3 : ShelfId)].settleTimer = some 900) ∧
      (s0.slices[(3 : ShelfId)].reportTimer = some 375000000 ∧ s0.slices[(3 : ShelfId)].unreachable = false) := by
  decide +kernel

theorem witness_HoldoverBudgetRunsOut :
    let s := s0.setSlice 3 { slice 3 .holdover none .hold with holdoverSince := some 7 }
    s.slices[(3 : ShelfId)].timing = .holdover ∧ s.slices[(3 : ShelfId)].holdoverSince = some 7 ∧
      s.slices[(3 : ShelfId)].exhausted = false ∧ s.slices[(3 : ShelfId)].unreachable = false := by
  decide +kernel

theorem witness_TargetGradeReachesTriple :
    let s := { s0 with flight := { noFlight with grades := [(2, 5), (3, 5), (3, 6)] } }.setSlice 3
        (slice 3 .locked (some 5) (.track 5))
    s.flight.grades = [(2, 5)] ++ (3, 5) :: [(3, 6)] ∧ (∀ x ∈ [((2 : ShelfId), (5 : Slot))], x.1 ≠ 3) ∧
      s.slices[(3 : ShelfId)].target = some 5 ∧ s.slices[(3 : ShelfId)].timing = .locked ∧
      s.slices[(3 : ShelfId)].unreachable = false ∧ s0.slices[(3 : ShelfId)].target ≠ some 5 := by
  decide +kernel

/-! The Event Unit. -/

/-- 7 frames in the CONTROL local outbound queue, where one finds its place, and 8, where none does. -/
def controlQueue (n : Nat) : OutPort :=
  { resetPort with localQ := List.replicate n ⟨[], false⟩, sending := some ⟨[], false⟩ }

def spaced (e : EventUnit) : State := withEvents { e with spacingTimer := some 4 } s0

/-- With news, the CONTROL queue free and full; without a destination; without news and resume point; with a resume
point before and after the standing latch; news with none standing; and a summary with a latch standing, outside and
during spacing. -/
theorem witness_EventTimersExpire :
    (∀ n ∈ [7, 8],
      let s := withControl (controlQueue n) (spaced events5)
      s.events.spacingTimer = some 4 ∧ s.events.destination ≠ 0 ∧ s.events.resume = none ∧ s.events.news = true ∧
        s.events.standing ≠ []) ∧
      ((spaced { events5 with destination := 0 }).events.spacingTimer = some 4 ∧
        (spaced { events5 with destination := 0 }).events.destination = 0) ∧
      ((spaced { events5 with news := false }).events.news = false ∧
        (spaced { events5 with news := false }).events.resume = none) ∧
      (∀ r ∈ [shelfLatch 0 2, shelfLatch 0 3], (spaced { events5 with resume := some r }).events.spacingTimer = some 4) ∧
      (spaced { resetEvents 0 with news := true }).events.spacingTimer = some 4 ∧
      (∀ s ∈ [withEvents events5 s0, spaced events5],
        s.events.summaryTimer = some 1250000000 ∧ s.events.standing ≠ []) ∧
      (withEvents events5 s0).events.spacingTimer = none ∧ (spaced events5).events.spacingTimer.isSome = true := by
  decide +kernel

theorem witness_EventTimersExpire_nothing_standing : s0.events.standing = [] := by decide +kernel

/-! Management requests. -/

theorem taken {row : Instr} {kind : Nat} {body : List Byte} {s : State} (hp : s.agent.phase = .ready)
    (h : requestRow (request kind body) = row ∧ requestOf (request kind body) = some (req kind body)) :
    Taken row (req kind body) (asked kind body s) :=
  ⟨hp, _, _, rfl, h.1, h.2⟩

theorem engineTaken {row : Instr} {kind : Nat} {body : List Byte} {s : State}
    (h : requestRow (request kind body) = row ∧ requestOf (request kind body) = some (req kind body))
    (hp : s.agent.phase = .ready ∨ s.agent.phase = .engineOp)
    (ht : s.engine.budget ≤ s.engine.count ∨ s.engine.queue = []) :
    EngineTaken row (req kind body) (asked kind body s) :=
  ⟨hp, ⟨_, _, rfl, h.1, h.2⟩, ht⟩

/-- An operation that waits, with its turn come at a count equal to the budget, while an evaluation waits too. -/
def atTurn (s : State) : State :=
  withQueue [⟨3, none⟩] (withPhase .engineOp { s with engine := { s.engine with count := 4 } })

theorem witness_WaitingAnswerPlaced :
    (withControl (controlQueue 7) (withPhase (.answerWaiting ⟨[], true⟩) s0)).agent.phase = .answerWaiting ⟨[], true⟩ ∧
      (withControl (controlQueue 7) s0).lane.control.localQ.length < 8 ∧
      8 ≤ (withControl (controlQueue 8) s0).lane.control.localQ.length := by
  decide +kernel

def shortRequest : Frame := buildFrame 0x000 0x055 0x51 [0x12, 0x34]

theorem witness_UnknownRequestsNotApplied :
    (frameBody shortRequest).length < 3 ∧
      ({ s0 with lane := { s0.lane with requests := [shortRequest] } }.lane.requests = shortRequest :: []) ∧
      (∀ kind ∈ [0, 0x14], (asked kind [] s0).agent.phase = .ready ∧
        (asked kind [] s0).lane.requests = request kind [] :: [] ∧
        requestOf (request kind []) = some (req kind []) ∧ ((req kind []).kind = 0 ∨ 0x13 < (req kind []).kind)) := by
  decide +kernel

/-- For each row a request of the wrong length: row, kind code, body and required length. -/
def badLengths : List (Instr × Nat × List Byte × Nat) :=
  [(.identify, 0x01, [0], 0), (.readTable, 0x02, [0, 0], 3), (.readStatusCandidate, 0x03, [], 2),
    (.readStatusShelf, 0x03, [1], 2), (.readStatusPort, 0x03, [2, 0, 0], 2), (.writeCandidate, 0x04, [], 18),
    (.writeListEntry, 0x05, [], 6), (.writeShelf, 0x06, [], 15), (.writeReceiveMap, 0x08, [], 18),
    (.writeTransmitMap, 0x08, [1], 18), (.detachReceiveMap, 0x0A, [0], 2), (.attachReceiveMap, 0x0B, [0, 0, 0], 2),
    (.detachTransmitMap, 0x0A, [1], 2), (.attachTransmitMap, 0x0B, [1], 2), (.writeNode, 0x09, [], 18),
        (.take, 0x0C, [], 1),
    (.release, 0x0D, [0, 0], 1), (.commandHold, 0x0E, [], 4), (.commandForce, 0x0E, [0, 2, 0], 4),
    (.commandManual, 0x0E, [0, 3], 4), (.commandClear, 0x0E, [0, 4], 4), (.commandLockout, 0x0E, [0, 5, 0, 0, 0], 4),
    (.park, 0x0F, [], 3), (.unpark, 0x0F, [0, 0, 2, 0], 3), (.sliceReset, 0x0F, [0, 0, 3, 0], 3),
        (.clearMarks, 0x10, [0], 2),
    (.restart, 0x12, [0], 0), (.clearRestartRecord, 0x13, [0], 0)]

theorem witness_RefusedRequestsNotApplied_length :
    ∀ q ∈ badLengths, Taken q.1 (req q.2.1 q.2.2.1) (asked q.2.1 q.2.2.1 s0) ∧
        (req q.2.1 q.2.2.1).body.length ≠ q.2.2.2 := by
  have h : ∀ q ∈ badLengths,
      (requestRow (request q.2.1 q.2.2.1) = q.1 ∧ requestOf (request q.2.1 q.2.2.1) = some (req q.2.1 q.2.2.1)) ∧
        (req q.2.1 q.2.2.1).body.length ≠ q.2.2.2 := by decide +kernel
  exact fun q hq => ⟨taken rfl (h q hq).1, (h q hq).2⟩

/-- One entry block of WRITE_PORTS: in use, with the given slot, transmit map and squelch rank. -/
def portBlock (slot tmap squelch : Byte) : List Byte := [51, 1] ++ [1, slot, 0, 0, tmap, squelch, 15, 1]

/-- For each row of requestLimits, in its order: the kind code, bodies of a wrong length, bodies with an index just out
of range, and bodies with a value just out of range. -/
def limitBodies : List (Instr × Nat × List (List Byte) × List (List Byte) × List (List Byte)) :=
  [(.readTable, 0x02, [[0, 0]], [[0, 24, 1], [1, 16, 1], [3, 8, 1], [4, 1, 1]], [[5, 0, 1], [0, 0, 0], [0, 0, 17]]),
    (.readStatusCandidate, 0x03, [[0]], [[0, 24]], [[3, 0]]), (.readStatusShelf, 0x03, [[1]], [[1, 16]], []),
    (.readStatusPort, 0x03, [[2]], [], []),
    (.writeCandidate, 0x04, [candidateBody ++ [0]],
      [candidateBody.set 0 24, candidateBody.set 2 16, candidateBody.set 8 4],
      [candidateBody.set 1 4, candidateBody.set 9 16, candidateBody.set 10 16]),
    (.writeListEntry, 0x05, [entryBody ++ [0]], [entryBody.set 2 8, entryBody.set 3 24], [entryBody.set 4 16]),
    (.writeShelf, 0x06, [shelfBody ++ [0]], [],
      [shelfBody.set 2 2, shelfBody.set 11 16, shelfBody.set 12 16, (shelfBody.set 13 0x05).set 14 0xA1]),
    (.writePorts, 0x07, [[0, 2] ++ unusedPort ++ unusedPort, portsBody ++ [0]], [portBlock 24 0 0, portBlock 0xFE 0 0,
      portBlock 5 4 0], [portBlock 5 0 16]),
    (.writeReceiveMap, 0x08, [[0, 2]], [mapBody16 0 4], [mapBody16 2 2, (mapBody16 0 2).set 17 16]),
    (.writeTransmitMap, 0x08, [[1, 2]], [mapBody16 1 4], [(mapBody16 1 2).set 2 16]),
    (.detachReceiveMap, 0x0A, [[0]], [[0, 4]], [[2, 0]]), (.attachReceiveMap, 0x0B, [[0]], [[0, 4]], [[2, 0]]),
    (.detachTransmitMap, 0x0A, [[1]], [[1, 4]], []), (.attachTransmitMap, 0x0B, [[1]], [[1, 4]], []),
    (.take, 0x0C, [[]], [], [[5]]), (.release, 0x0D, [[]], [], [[5]]),
    (.commandHold, 0x0E, [[0, 1]], [[16, 1, 0, 0], [0, 1, 8, 0]], [[0, 0, 0, 0], [0, 6, 0, 0]]),
    (.commandForce, 0x0E, [[0, 2]], [[16, 2, 0, 0], [0, 2, 8, 0]], []),
    (.commandManual, 0x0E, [[0, 3]], [[16, 3, 0, 0], [0, 3, 8, 0]], []),
    (.commandClear, 0x0E, [[0, 4]], [[16, 4, 0, 0], [0, 4, 8, 0]], []),
    (.commandLockout, 0x0E, [[0, 5]], [[16, 5, 0, 0], [0, 5, 8, 0]], []),
    (.park, 0x0F, [[0, 0]], [], [[0, 0, 0], [0, 0, 4]]), (.unpark, 0x0F, [[0, 0, 2, 0]], [], []),
    (.sliceReset, 0x0F, [[0, 0, 3, 0]], [], []),
    (.ackEvents, 0x11, [[], [1, 5]], [[1, 4, 24], [1, 5, 16], [1, 13, 1]],
      [80 :: List.replicate 160 1, [1, 0, 0], [1, 14, 0]])]

/-- Every row, with bodies of its own at the boundary of each of the three checks. -/
theorem witness_RefusedRequestsNotApplied_limits :
    List.Forall₂
      (fun q w => q.1 = w.1 ∧ (∀ b ∈ w.2.2.1, ¬q.2.1 b) ∧ (∀ b ∈ w.2.2.2.1, q.2.1 b ∧ q.2.2.1 b) ∧
        ∀ b ∈ w.2.2.2.2, q.2.1 b ∧ ¬q.2.2.1 b ∧ q.2.2.2 b)
      requestLimits limitBodies ∧
    ∀ w ∈ limitBodies, ∀ b ∈ w.2.2.1 ++ w.2.2.2.1 ++ w.2.2.2.2, Taken w.1 (req w.2.1 b) (asked w.2.1 b s0) := by
  have h : ∀ w ∈ limitBodies, ∀ b ∈ w.2.2.1 ++ w.2.2.2.1 ++ w.2.2.2.2,
      requestRow (request w.2.1 b) = w.1 ∧ requestOf (request w.2.1 b) = some (req w.2.1 b) := by decide +kernel
  refine ⟨?_, fun w hw b hb => taken rfl (h w hw b hb)⟩
  simp only [requestLimits, limitBodies, List.forall₂_cons, List.forall₂_nil_left_iff]
  and_intros <;> first | exact True.intro | decide +kernel

/-- For each guarded row a request that passes the checks: row, bank, kind code, body and the checks. -/
def guardedRequests : List (Instr × Fin 5 × Nat × List Byte × (Request → Option Status)) :=
  [(.writeCandidate, 0, 0x04, candidateBody, checkWriteCandidate),
      (.writeListEntry, 1, 0x05, entryBody, checkWriteListEntry),
    (.writeShelf, 1, 0x06, shelfBody, checkWriteShelf), (.writePorts, 2, 0x07, portsBody, checkWritePorts),
    (.writeReceiveMap, 3, 0x08, mapBody16 0 2, checkWriteMap),
        (.writeTransmitMap, 3, 0x08, mapBody16 1 3, checkWriteMap),
    (.detachReceiveMap, 3, 0x0A, [0, 2], checkMap), (.attachReceiveMap, 3, 0x0B, [0, 2], checkMap),
    (.detachTransmitMap, 3, 0x0A, [1, 3], checkMap), (.attachTransmitMap, 3, 0x0B, [1, 3], checkMap),
    (.writeNode, 4, 0x09, nodeBody, checkWriteNode), (.restart, 4, 0x12, [], checkEmpty),
    (.clearRestartRecord, 4, 0x13, [], checkEmpty)]

theorem guarded_rows : ∀ q ∈ guardedRequests,
    (requestRow (request q.2.2.1 q.2.2.2.1) = q.1 ∧
      requestOf (request q.2.2.1 q.2.2.2.1) = some (req q.2.2.1 q.2.2.2.1)) ∧ q.2.2.2.2 (req q.2.2.1 q.2.2.2.1) = none ∧
      (withSem q.2.1 0x123 s0).agent.sems[q.2.1] = some 0x123 := by
  decide +kernel

theorem witness_RefusedRequestsNotApplied_held :
    ∀ q ∈ guardedRequests,
      Taken q.1 (req q.2.2.1 q.2.2.2.1) (asked q.2.2.1 q.2.2.2.1 (withSem q.2.1 0x123 s0)) ∧
        q.2.2.2.2 (req q.2.2.1 q.2.2.2.1) = none ∧
        (asked q.2.2.1 q.2.2.2.1 (withSem q.2.1 0x123 s0)).agent.sems[q.2.1] = some 0x123 ∧
        (0x123 : Address) ≠ (req q.2.2.1 q.2.2.2.1).source :=
  fun q hq => ⟨taken rfl (guarded_rows q hq).1, (guarded_rows q hq).2.1, (guarded_rows q hq).2.2, by simp [req]⟩

theorem witness_IdentifyAnswersPart : Taken .identify (req 0x01 []) (asked 0x01 [] s0) ∧ (req 0x01 []).body = [] :=
  ⟨taken rfl (by decide +kernel), rfl⟩

/-- The last record of each table, one asked for and sixteen; the last object of each kind. -/
theorem witness_ReadsAnswerState :
    (∀ q ∈ ([(0, 23, 1), (1, 15, 16), (2, 255, 16), (3, 7, 1), (4, 0, 16)] : List (Nat × Nat × Nat)),
      Taken .readTable (req 0x02 [byteOf q.1, byteOf q.2.1, byteOf q.2.2])
          (asked 0x02 [byteOf q.1, byteOf q.2.1, byteOf q.2.2] s0) ∧
        ∃ size, tableSize (byteAt [byteOf q.1, byteOf q.2.1, byteOf q.2.2] 0) = some size ∧
          byteAt [byteOf q.1, byteOf q.2.1, byteOf q.2.2] 1 < size ∧
          1 ≤ byteAt [byteOf q.1, byteOf q.2.1, byteOf q.2.2] 2 ∧
              byteAt [byteOf q.1, byteOf q.2.1, byteOf q.2.2] 2 ≤ 16) ∧
      (Taken .readStatusCandidate (req 0x03 [0, 23]) (asked 0x03 [0, 23] s0) ∧ byteAt [0, 23] 1 = (23 : Slot).val) ∧
      (Taken .readStatusShelf (req 0x03 [1, 15]) (asked 0x03 [1, 15] s0) ∧ byteAt [1, 15] 1 = (15 : ShelfId).val) ∧
      (Taken .readStatusPort (req 0x03 [2, 255]) (asked 0x03 [2, 255] s0) ∧ byteAt [2, 255] 1 = (255 : PortId).val) :=
          by
  refine ⟨fun q hq => ⟨?_, ?_⟩, ⟨taken rfl (by decide +kernel), by decide⟩, ⟨taken rfl (by decide +kernel), by decide⟩,
    taken rfl (by decide +kernel), by decide⟩
  · simp only [List.mem_cons, List.not_mem_nil, or_false] at hq
    obtain rfl | rfl | rfl | rfl | rfl := hq <;> exact taken rfl (by decide +kernel)
  · simp only [List.mem_cons, List.not_mem_nil, or_false] at hq
    obtain rfl | rfl | rfl | rfl | rfl := hq <;> exact ⟨_, rfl, by decide, by decide, by decide⟩

/-- Every guarded write is taken with its semaphore FREE and with it held by the requester itself. -/
theorem guarded_taken : ∀ q ∈ guardedRequests, ∀ s, s.agent.phase = .ready →
    Taken q.1 (req q.2.2.1 q.2.2.2.1) (asked q.2.2.1 q.2.2.2.1 s) :=
  fun q hq _ hp => taken hp (guarded_rows q hq).1

/-- What the writes below are taken with: binding a slot that was NONE, unbinding, rebinding, and the same binding with
the maintenance hold set and clear and with map 2. -/
def candidateBodies : List (List Byte) :=
  [candidateBody, candidateBody.set 1 0, candidateBody.set 1 3, candidateBody.set 7 1, candidateBody.set 8 2]

theorem witness_CandidateWriteStores :
    (∀ b ∈ candidateBodies, ∀ s : State, s.agent.phase = .ready →
      Taken .writeCandidate (req 0x04 b) (asked 0x04 b s) ∧ checkWriteCandidate (req 0x04 b) = none ∧
        byteAt b 0 = (5 : Slot).val) ∧
      Unheld 0 (req 0x04 candidateBody) (asked 0x04 candidateBody s0) ∧
      Unheld 0 (req 0x04 candidateBody) (asked 0x04 candidateBody (withSem 0 0x055 s0)) := by
  have h : ∀ b ∈ candidateBodies,
      (requestRow (request 0x04 b) = .writeCandidate ∧ requestOf (request 0x04 b) = some (req 0x04 b)) ∧
        checkWriteCandidate (req 0x04 b) = none ∧ byteAt b 0 = (5 : Slot).val := by decide +kernel
  exact ⟨fun b hb s hs => ⟨taken hs (h b hb).1, (h b hb).2⟩, Or.inl (by decide +kernel), Or.inr (by decide +kernel)⟩

/-- A RESTORING candidate of slot 5, its WTR timer running, and paused with the given periods left. -/
def restoring5 : Cand := cand .line .restoring false true (.wtr 9)
def paused5 (left : Nat) : Cand := { cand .line .restoring false true (.wtrPaused left) with maintHold := true }

/-- The cases of the statement: each kind of binding change, with the health false and true; the maintenance hold set
while WTR runs and cleared with 0 and with 9 periods left; and a change to an attached and to a detached map. -/
theorem witness_CandidateWriteStores_cases :
    (s0.cands[(5 : Slot)].kind = .none ∧ s0.cands[(5 : Slot)].state = .idle ∧ byteAt candidateBody 1 ≠ 0) ∧
      (∀ c ∈ [cand .line .down true false .none, cand .line .available false true .none, restoring5],
        (s0.setCand 5 c).cands[(5 : Slot)].kind ≠ .none ∧ c.kind ≠ kindOfCode (byteAt (candidateBody.set 1 3) 1) ∧
          c.kind = kindOfCode (byteAt candidateBody 1)) ∧
      (restoring5.timer = .wtr 9 ∧ restoring5.maintHold = false ∧ bitAt (candidateBody.set 7 1) 7 0 = true) ∧
      (∀ left ∈ [0, 9],
        (paused5 left).timer = .wtrPaused left ∧ (paused5 left).maintHold = true ∧ bitAt candidateBody 7 0 = false) ∧
      (portOf (withRx 50 ⟨true, some 5, true⟩ s0).rxPorts 5).isSome = true ∧
      (s0.grades[(5 : Slot)].rmap ≠ 2 ∧ byteAt (candidateBody.set 8 2) 8 = (2 : MapId).val ∧
        s0.rmaps[(2 : MapId)].attached = true ∧ (withRmap 2 loose s0).rmaps[(2 : MapId)].attached = false) := by
  decide +kernel

theorem witness_CandidateWriteStores_legal :
    CandidateOk (cand .line .available false true .none) ∧ CandidateOk restoring5 ∧ CandidateOk (paused5 0) ∧
      CandidateOk resetCand := by
  simp [CandidateOk, restoring5, paused5, cand, resetCand]

/-- A write that drops the target of shelf 0, and a FORCE or MANUAL of the entry; one of another entry, which leaves the
target; one that stores the entry as it is; and one that shelf 3 refuses as DUPLICATE. -/
theorem witness_ListEntryWriteStores :
    (∀ c ∈ ([.none, .force 2, .manual 2] : List Command),
      EngineTaken .writeListEntry (req 0x05 entryBody) (asked 0x05 entryBody (atTurn (turn c (some 11) none)))) ∧
      EngineTaken .writeListEntry (req 0x05 entryBody) (asked 0x05 entryBody s0) ∧
      checkWriteListEntry (req 0x05 entryBody) = none ∧ Unheld 1 (req 0x05 entryBody) (asked 0x05 entryBody s0) ∧
      byteAt entryBody 2 = (2 : EntryId).val ∧ (BitVec.ofNat 16 (numAt entryBody 0 2)).getLsbD 0 = true := by
  refine ⟨fun c _ => engineTaken (by decide +kernel) (Or.inr rfl) (Or.inl ?_),
    engineTaken (by decide +kernel) (Or.inl rfl) (Or.inr rfl), by decide +kernel, Or.inl (by decide +kernel),
    by decide +kernel, by decide +kernel⟩
  exact (by decide +kernel : (atTurn s0).engine.budget ≤ (atTurn s0).engine.count)

theorem witness_ListEntryWriteStores_cases :
    let s := turn .none (some 11) none
    let w := entryOf entryBody
    let stored := s0.setShelf 0 { resetShelf with entries := resetShelf.entries.set 2 w }
    let listed := s0.setShelf 3 { resetShelf with entries := resetShelf.entries.set 1 (entry 5 1) }
    (s.shelves[(0 : ShelfId)].entries[(2 : EntryId)].priority ≠ 0 ∧
        targetSlot s 0 = some s.shelves[(0 : ShelfId)].entries[(2 : EntryId)].slot ∧
        w.slot ≠ s.shelves[(0 : ShelfId)].entries[(2 : EntryId)].slot) ∧
      targetSlot (turn .none (some 7) none) 0 ≠ some s.shelves[(0 : ShelfId)].entries[(2 : EntryId)].slot ∧
      stored.shelves[(0 : ShelfId)].entries[(2 : EntryId)] = w ∧ w.priority ≠ 0 ∧
      listed.shelves[(3 : ShelfId)].entries[(1 : EntryId)].priority ≠ 0 ∧
      listed.shelves[(3 : ShelfId)].entries[(1 : EntryId)].slot = w.slot := by
  decide +kernel

/-- Two shelves masked, none, and minimum ranks of 14, 15 and 16. -/
theorem witness_ShelfWriteStores :
    ∀ b ∈ [shelfBody, (shelfBody.set 0 0).set 1 0, shelfBody.set 4 15, shelfBody.set 4 16],
      EngineTaken .writeShelf (req 0x06 b) (asked 0x06 b (atTurn s0)) ∧ checkWriteShelf (req 0x06 b) = none ∧
        Unheld 1 (req 0x06 b) (asked 0x06 b (atTurn s0)) ∧
        (BitVec.ofNat 16 (numAt b 0 2)).getLsbD 3 = decide (numAt b 0 2 ≠ 0) ∧
        (BitVec.ofNat 16 (numAt b 0 2)).getLsbD 4 = false := by
  have h : ∀ b ∈ [shelfBody, (shelfBody.set 0 0).set 1 0, shelfBody.set 4 15, shelfBody.set 4 16],
      (requestRow (request 0x06 b) = .writeShelf ∧ requestOf (request 0x06 b) = some (req 0x06 b)) ∧
        checkWriteShelf (req 0x06 b) = none ∧
        (BitVec.ofNat 16 (numAt b 0 2)).getLsbD 3 = decide (numAt b 0 2 ≠ 0) ∧
        (BitVec.ofNat 16 (numAt b 0 2)).getLsbD 4 = false := by
    decide +kernel
  have turn : (atTurn s0).engine.budget ≤ (atTurn s0).engine.count ∧ (atTurn s0).agent.sems[(1 : Fin 5)] = none := by
    decide +kernel
  exact fun b hb => ⟨engineTaken (h b hb).1 (Or.inr rfl) (Or.inl turn.1), (h b hb).2.1, Or.inl turn.2, (h b hb).2.2⟩

/-- R174: a write with an empty mask is answered DONE, though a field of it would be clamped. -/
theorem test_writeShelf_empty_mask :
    sent .writeShelf (asked 0x06 ((shelfBody.set 0 0).set 1 0) s0) = some [0x12, 0x34, 0x06, 0x00, 0, 0, 0, 0, 0] := by
  decide +kernel

/-- Two entries in use that bind slot 5. -/
def conflictBody : List Byte :=
  [51, 4] ++ unusedPort ++ [1, 5, 0, 0, 0, 15, 15, 1] ++ [1, 5, 0, 0, 0, 15, 15, 1] ++ unusedPort

/-- The bound slots after a write over the port table of power-on, read from the body alone. -/
theorem boundSlots_written (b : List Byte) :
    boundSlots (writtenPorts b s0.rxPorts) =
      (List.finRange 256).filterMap fun p =>
        if inBlock b p then (if (rxOf (entryFor b p)).inUse then (rxOf (entryFor b p)).bound else none) else none := by
  refine List.filterMap_congr fun p _ => ?_
  simp only [writtenPorts, Fin.getElem_fin, Vector.getElem_ofFn]
  by_cases h : inBlock b p = true <;> simp [h, s0, State.reset, State.powerOn, resetRxPort]

theorem witness_PortWriteStores :
    (Taken .writePorts (req 0x07 portsBody) (asked 0x07 portsBody s0) ∧ checkWritePorts (req 0x07 portsBody) = none ∧
        Unheld 2 (req 0x07 portsBody) (asked 0x07 portsBody s0) ∧
        (boundSlots (writtenPorts portsBody (asked 0x07 portsBody s0).rxPorts)).Nodup) ∧
      (Taken .writePorts (req 0x07 conflictBody) (asked 0x07 conflictBody s0) ∧
        checkWritePorts (req 0x07 conflictBody) = none ∧ Unheld 2 (req 0x07 conflictBody) (asked 0x07 conflictBody s0) ∧
        ¬(boundSlots (writtenPorts conflictBody (asked 0x07 conflictBody s0).rxPorts)).Nodup) :=
  ⟨⟨taken rfl (by decide +kernel), by decide +kernel, Or.inl (by decide +kernel),
      (boundSlots_written portsBody).symm ▸ (by decide +kernel)⟩,
    taken rfl (by decide +kernel), by decide +kernel, Or.inl (by decide +kernel),
    (boundSlots_written conflictBody).symm ▸ (by decide +kernel)⟩

/-- The same write binds slot 5, of kind LINE and of another kind, which no entry bound before. -/
theorem witness_PortWriteStores_binding :
    (∀ k ∈ [Kind.line, Kind.station],
      (s0.setCand 5 (cand k .down true false .none)).cands[(5 : Slot)].kind = k ∧
        portOf (s0.setCand 5 (cand k .down true false .none)).rxPorts 5 = none) ∧
      inBlock portsBody 50 = true ∧ bitAt (entryFor portsBody 50) 0 0 = true ∧
      byteAt (entryFor portsBody 50) 1 = (5 : Slot).val := by
  decide +kernel

/-- Port 51 in use, binding slot 7: the write of portsBody takes it out of use. -/
def inUse51 : State := withRx 51 ⟨true, some 7, true⟩ (s0.setTx 51 { resetTxPort with inUse := true, bound := some 7 })

theorem witness_PortWriteStores_unbinding :
    Taken .writePorts (req 0x07 portsBody) (asked 0x07 portsBody inUse51) ∧
      (boundSlots (writtenPorts portsBody inUse51.rxPorts)).Nodup ∧ (portOf inUse51.rxPorts 7).isSome = true ∧
      inBlock portsBody 51 = true ∧ bitAt (entryFor portsBody 51) 0 0 = false := by
  refine ⟨taken rfl (by decide +kernel), ?_, by decide +kernel⟩
  have h : writtenPorts portsBody inUse51.rxPorts = writtenPorts portsBody s0.rxPorts := by
    ext p hp : 1
    by_cases h51 : p = 51
    · have hb : inBlock portsBody 51 = true := by decide +kernel
      subst h51
      simp [writtenPorts, hb]
    · simp [writtenPorts, inUse51, withRx, State.setTx, Vector.getElem_set, Ne.symm h51]
  rw [h, boundSlots_written]
  decide +kernel

theorem maps_unheld : s0.agent.sems[(3 : Fin 5)] = none := by decide +kernel

/-- Attached and detached maps; slot 5 uses receive map 0 and port 50 transmit map 0. -/
theorem witness_MapRequestsServed :
    (∀ q ∈ guardedRequests, q.2.1 = 3 → ∀ s ∈ [s0, withRmap 2 loose (withTmap 3 loose s0)],
      Taken q.1 (req q.2.2.1 q.2.2.2.1) (asked q.2.2.1 q.2.2.2.1 s) ∧ q.2.2.2.2 (req q.2.2.1 q.2.2.2.1) = none ∧
        Unheld 3 (req q.2.2.1 q.2.2.2.1) (asked q.2.2.1 q.2.2.2.1 s)) ∧
      byteAt (mapBody16 0 2) 1 = (2 : MapId).val ∧ byteAt (mapBody16 1 3) 1 = (3 : MapId).val ∧
      s0.rmaps[(2 : MapId)].attached = true ∧ (withRmap 2 loose s0).rmaps[(2 : MapId)].attached = false ∧
      s0.tmaps[(3 : MapId)].attached = true ∧ (withTmap 3 loose s0).tmaps[(3 : MapId)].attached = false := by
  refine ⟨fun q hq _ s hs => ⟨guarded_taken q hq s ?_, (guarded_rows q hq).2.1, Or.inl ?_⟩, by decide +kernel⟩
  · simp only [List.mem_cons, List.not_mem_nil, or_false] at hs
    obtain rfl | rfl := hs <;> rfl
  · simp only [List.mem_cons, List.not_mem_nil, or_false] at hs
    obtain rfl | rfl := hs <;> exact maps_unheld

/-- A new base tag, and the base tag as it is; a latch kind enabled that was not, with its condition present; a new
event destination; and a new summary interval. -/
theorem witness_NodeWriteStores :
    Taken .writeNode (req 0x09 nodeBody) (asked 0x09 nodeBody s0) ∧ (req 0x09 nodeBody).body.length = 18 ∧
      Unheld 4 (req 0x09 nodeBody) (asked 0x09 nodeBody s0) ∧
      BitVec.ofNat 48 (numAt nodeBody 0 6) &&& 0xFFFFFFFFFFF0#48 ≠ s0.baseTag ∧
      BitVec.ofNat 48 (numAt nodeBody 0 6) &&& 0xFFFFFFFFFFF0#48 = { s0 with baseTag := 0x001122334450#48 }.baseTag ∧
      (let l := condLatch (condNoticeLost 5)
        let s := withEvents { resetEvents 0 with copies := (resetEvents 0).copies.set (condNoticeLost 5) true } s0
        s.events.enabled l = false ∧ s.events.present l = true ∧
          (after .writeNode (asked 0x09 nodeBody s)).events.latches[l] = .set) ∧
      addressAt nodeBody 9 ≠ s0.events.destination ∧ byteAt nodeBody 17 ≠ s0.events.summaryS :=
  ⟨taken rfl (by decide +kernel), by decide, Or.inl (by decide +kernel), by decide +kernel⟩

theorem witness_SemaphoresTakenAndReleased :
    (req 0x0C [4]).body = [byteOf (4 : Fin 5).val] ∧ Taken .take (req 0x0C [4]) (asked 0x0C [4] s0) ∧
      s0.agent.sems[(4 : Fin 5)] = none ∧ Taken .take (req 0x0C [4]) (asked 0x0C [4] (withSem 4 0x055 s0)) ∧
      (withSem 4 0x055 s0).agent.sems[(4 : Fin 5)] = some 0x055 ∧ (req 0x0D [4]).body = [byteOf (4 : Fin 5).val] ∧
      Taken .release (req 0x0D [4]) (asked 0x0D [4] (withSem 4 0x123 s0)) :=
  ⟨rfl, taken rfl (by decide +kernel), by decide +kernel, taken rfl (by decide +kernel), by decide +kernel, rfl,
    taken rfl (by decide +kernel)⟩

/-- HOLD, FORCE, MANUAL and LOCKOUT of shelf 15, entry 7, waiting at the engine and newly come. -/
theorem witness_CommandsServed :
    ∀ q ∈ ([(.commandHold, [15, 1, 7, 0]), (.commandForce, [15, 2, 7, 0]), (.commandManual, [15, 3, 7, 0]),
        (.commandLockout, [15, 5, 7, 1]), (.commandClear, [15, 4, 7, 0])] : List (Instr × List Byte)),
      EngineTaken q.1 (req 0x0E q.2) (asked 0x0E q.2 (atTurn s0)) ∧ EngineTaken q.1 (req 0x0E q.2) (asked 0x0E q.2 s0) ∧
        checkCommand (req 0x0E q.2) = none ∧ byteAt q.2 0 = (15 : ShelfId).val ∧ byteAt q.2 2 = (7 : EntryId).val := by
  have h : ∀ q ∈ ([(.commandHold, [15, 1, 7, 0]), (.commandForce, [15, 2, 7, 0]), (.commandManual, [15, 3, 7, 0]),
      (.commandLockout, [15, 5, 7, 1]), (.commandClear, [15, 4, 7, 0])] : List (Instr × List Byte)),
      (requestRow (request 0x0E q.2) = q.1 ∧ requestOf (request 0x0E q.2) = some (req 0x0E q.2)) ∧
        checkCommand (req 0x0E q.2) = none ∧ byteAt q.2 0 = (15 : ShelfId).val ∧ byteAt q.2 2 = (7 : EntryId).val := by
    decide +kernel
  exact fun q hq => ⟨engineTaken (h q hq).1 (Or.inr rfl) (Or.inl (by decide +kernel)),
    engineTaken (h q hq).1 (Or.inl rfl) (Or.inr rfl), (h q hq).2⟩

/-- The requests of the engine, with bodies that pass their checks. -/
def engineRequests : List (Instr × Nat × List Byte) :=
  [(.writeListEntry, 0x05, entryBody), (.writeShelf, 0x06, shelfBody), (.commandHold, 0x0E, [15, 1, 7, 0]),
    (.commandForce, 0x0E, [15, 2, 7, 0]), (.commandManual, 0x0E, [15, 3, 7, 0]), (.commandClear, 0x0E, [15, 4, 7, 0]),
    (.commandLockout, 0x0E, [15, 5, 7, 1]), (.park, 0x0F, [0, 9, 1]), (.unpark, 0x0F, [0, 9, 2]),
    (.sliceReset, 0x0F, [0, 9, 3]), (.clearMarks, 0x10, [0, 9])]

/-- A request of every kind that comes while evaluations come first, the count one below the budget, waits at the
engine; and an operation whose turn has come holds back the evaluation. -/
theorem witness_CommandsServed_waiting :
    let s := withQueue [⟨3, none⟩] { s0 with engine := { s0.engine with count := 3 } }
    (∀ q ∈ engineRequests,
      Taken q.1 (req q.2.1 q.2.2) (asked q.2.1 q.2.2 s) ∧
        (after q.1 (asked q.2.1 q.2.2 s)).agent.phase = .engineOp) ∧
      (s.engine.count < s.engine.budget ∧ s.engine.queue ≠ []) ∧
      ((atTurn s0).agent.phase = .engineOp ∧ (atTurn s0).engine.budget ≤ (atTurn s0).engine.count) := by
  have h : ∀ q ∈ engineRequests,
      (requestRow (request q.2.1 q.2.2) = q.1 ∧ requestOf (request q.2.1 q.2.2) = some (req q.2.1 q.2.2)) ∧
        (after q.1 (asked q.2.1 q.2.2
          (withQueue [⟨3, none⟩] { s0 with engine := { s0.engine with count := 3 } }))).agent.phase = .engineOp := by
    decide +kernel
  exact ⟨fun q hq => ⟨taken rfl (h q hq).1, (h q hq).2⟩, by decide +kernel, by decide +kernel⟩

/-- A parked shelf; a command under HOLD; an entry that FORCE and MANUAL do not admit and one that they admit; and the
lockout of a forced entry. -/
theorem witness_CommandsServed_cases :
    let s := list55 ⟨.auto, false, 14, 20⟩
    (s0.setSlice 3 (slice 3 .parked none .hold)).slices[(3 : ShelfId)].timing = .parked ∧
      precedence (.force 7) < precedence .hold ∧ forceAdmits s 0 7 = false ∧ manualAdmits s 0 0 = false ∧
      forceAdmits s 0 2 = true ∧ manualAdmits s 0 2 = true ∧
      (turn (.force 2) none none).shelves[(0 : ShelfId)].command = .force 2 ∧
      s.shelves[(0 : ShelfId)].entries[(2 : EntryId)].lockout ≠ true := by
  decide +kernel

theorem witness_ClearEndsCommand :
    EngineTaken .commandClear (req 0x0E [15, 4, 0, 0]) (asked 0x0E [15, 4, 0, 0] (atTurn s0)) ∧
      checkCommand (req 0x0E [15, 4, 0, 0]) = none ∧ byteAt [15, 4, 0, 0] 0 = (15 : ShelfId).val ∧
      (asked 0x0E [15, 4, 0, 0] (atTurn s0)).slices[(15 : ShelfId)].timing ≠ .parked :=
  ⟨engineTaken (by decide +kernel) (Or.inr rfl) (Or.inl (by decide +kernel)), by decide +kernel, by decide, by
  decide +kernel⟩

/-- PARK, UNPARK and RESET of shelves 0 and 3, slice 3 unparked and parked, with the last place of the FABRIC local
outbound queue free, and with the queue full. -/
theorem witness_SliceRequestsServed :
    (∀ q ∈ ([(.park, [0, 9, 1]), (.unpark, [0, 9, 2]), (.sliceReset, [0, 9, 3])] : List (Instr × List Byte)),
      ∀ n ∈ [31, 32],
        EngineTaken q.1 (req 0x0F q.2) (asked 0x0F q.2 (atTurn (withFabric (fabricQueue n) s0))) ∧
          checkSlice (req 0x0F q.2) = none ∧ (BitVec.ofNat 16 (numAt q.2 0 2)).getLsbD 3 = true ∧
          (BitVec.ofNat 16 (numAt q.2 0 2)).getLsbD 4 = false) ∧
      s0.slices[(3 : ShelfId)].timing ≠ .parked ∧
      (s0.setSlice 3 (slice 3 .parked none .hold)).slices[(3 : ShelfId)].timing = .parked := by
  have h : ∀ q ∈ ([(.park, [0, 9, 1]), (.unpark, [0, 9, 2]), (.sliceReset, [0, 9, 3])] : List (Instr × List Byte)),
      (requestRow (request 0x0F q.2) = q.1 ∧ requestOf (request 0x0F q.2) = some (req 0x0F q.2)) ∧
        checkSlice (req 0x0F q.2) = none ∧ (BitVec.ofNat 16 (numAt q.2 0 2)).getLsbD 3 = true ∧
        (BitVec.ofNat 16 (numAt q.2 0 2)).getLsbD 4 = false := by
    decide +kernel
  have turn : (atTurn s0).engine.budget ≤ (atTurn s0).engine.count := by decide +kernel
  exact ⟨fun q hq _ _ => ⟨engineTaken (h q hq).1 (Or.inr rfl) (Or.inl turn), (h q hq).2⟩, by decide +kernel,
    by decide +kernel⟩

theorem witness_ClearMarksEmptiesSets :
    EngineTaken .clearMarks (req 0x10 [0, 9]) (asked 0x10 [0, 9] (atTurn s0)) ∧ (req 0x10 [0, 9]).body.length = 2 :=
  ⟨engineTaken (by decide +kernel) (Or.inr rfl) (Or.inl (by decide +kernel)), rfl⟩

/-- The last pair of Table 8-1 and the acknowledgement of all. -/
theorem witness_AcknowledgementsApplied :
    (Taken .ackEvents (req 0x11 [1, 13, 0]) (asked 0x11 [1, 13, 0] s0) ∧ checkAckEvents (req 0x11 [1, 13, 0]) = none ∧
        latchOf 13 0 = some 194) ∧
      (Taken .ackEvents (req 0x11 [0]) (asked 0x11 [0] s0) ∧ checkAckEvents (req 0x11 [0]) = none) :=
  ⟨⟨taken rfl (by decide +kernel), by decide +kernel, by decide +kernel⟩, taken rfl (by decide +kernel), by
  decide +kernel⟩

/-- With the last place of the CONTROL queue free, and with the queue full. -/
theorem witness_RestartRequestAnswered :
    (∀ n ∈ [7, 8], Taken .restart (req 0x12 []) (asked 0x12 [] (withControl (controlQueue n) s0)) ∧
        Taken .clearRestartRecord (req 0x13 []) (asked 0x13 [] (withControl (controlQueue n) s0))) ∧
      (req 0x12 []).body = [] ∧ (req 0x13 []).body = [] ∧ Unheld 4 (req 0x12 []) (asked 0x12 [] s0) ∧
      (controlQueue 7).localQ.length < 8 ∧ ¬(controlQueue 8).localQ.length < 8 :=
  ⟨fun _ _ => ⟨taken rfl (by decide +kernel), taken rfl (by decide +kernel)⟩, rfl, rfl, Or.inl (by decide +kernel),
    by decide +kernel, by decide +kernel⟩

/-! Invariants: states that meet them, and a step from each. -/

def stepped (s : State) : State := { s with pending := [.resetLineAsserted] }

/-- Port 50 in use on both sides, binding slot 5, at the end of its budget. -/
def bound50 : State :=
  line5.setTx 50
    { resetTxPort with inUse := true, bound := some 5, periodic := some 7, count := 3, changePending := true }

/-- A WRITE_SHELF that waits at the engine. -/
def writeWaiting : State := asked 0x06 shelfBody (atTurn s0)

theorem writeWaiting_kept : HeadRequestKept (stepped writeWaiting) := by
  have h : requestOf (request 0x06 shelfBody) = some (req 0x06 shelfBody) ∧
      checkWriteShelf (req 0x06 shelfBody) = none ∧ requestRow (request 0x06 shelfBody) = .writeShelf := by
    decide +kernel
  exact ⟨_, _, _, rfl, h.1, fun _ => h.2.1, fun h0 => by rw [h.2.2] at h0; cases h0⟩

theorem witness_StepKeepsQueuesBounded :
    (QueuesBounded (stepped full) ∧ step (stepped full) = .next (assertReset full)) ∧
      (TransmitPortsOk (stepped bound50) ∧ step (stepped bound50) = .next (assertReset bound50)) ∧
      (HeadRequestKept (stepped writeWaiting) ∧ step (stepped writeWaiting) = .next (assertReset writeWaiting)) :=
  ⟨⟨by unfold QueuesBounded; decide +kernel, rfl⟩, ⟨by unfold TransmitPortsOk; decide +kernel, rfl⟩,
    writeWaiting_kept, rfl⟩

theorem witness_StepKeepsArbitersServing :
    ArbitersServe (stepped full) ∧ step (stepped full) = .next (assertReset full) :=
  ⟨by simp [ArbitersServe, OutPort.workConserving, stepped, full, s0, State.reset, State.powerOn, resetLane, resetPort],
    rfl⟩

theorem witness_StepKeepsEngineQueue :
    (EngineQueueOk (stepped (atTurn s0)) ∧ step (stepped (atTurn s0)) = .next (assertReset (atTurn s0))) ∧
      (SettingsInRange (stepped writeWaiting) ∧ HeadRequestKept (stepped writeWaiting) ∧
        step (stepped writeWaiting) = .next (assertReset writeWaiting)) :=
  ⟨⟨by unfold EngineQueueOk; decide +kernel, rfl⟩, by unfold SettingsInRange; decide +kernel, writeWaiting_kept, rfl⟩

theorem witness_StepKeepsListsFreeOfDuplicates :
    (ListsHaveNoDuplicates (stepped (list55 ⟨.auto, true, 14, 20⟩)) ∧
        step (stepped (list55 ⟨.auto, true, 14, 20⟩)) = .next (assertReset (list55 ⟨.auto, true, 14, 20⟩))) ∧
      (BindingsUnique (stepped bound50) ∧ step (stepped bound50) = .next (assertReset bound50)) ∧
      (TargetsListed (stepped (turn .none (some 11) none)) ∧
        step (stepped (turn .none (some 11) none)) = .next (assertReset (turn .none (some 11) none))) :=
  ⟨⟨by unfold ListsHaveNoDuplicates; decide +kernel, rfl⟩, ⟨by unfold BindingsUnique; decide +kernel, rfl⟩,
    by unfold TargetsListed; decide +kernel, rfl⟩

theorem witness_StepKeepsCascadeAcyclic :
    CascadeAcyclic (stepped (turn .none (some 11) none)) ∧
      step (stepped (turn .none (some 11) none)) = .next (assertReset (turn .none (some 11) none)) :=
  ⟨by unfold CascadeAcyclic; decide +kernel, rfl⟩

theorem witness_StepKeepsSlicesFollowingTargets :
    SlicesFollowTargets (stepped (turn .none (some 11) none)) ∧ SliceTimersOk (stepped (turn .none (some 11) none)) ∧
      step (stepped (turn .none (some 11) none)) = .next (assertReset (turn .none (some 11) none)) :=
  ⟨by unfold SlicesFollowTargets; decide +kernel, by unfold SliceTimersOk; decide +kernel, rfl⟩

/-- Slot 5 bound, with an active input whose gate has begun. -/
def watching5 : State :=
  (s0.setCand 5 (cand .line .available false true .none)).setInput 5 (watchedInput true (some ⟨0, 0⟩))

theorem witness_StepKeepsCandidatesLegal :
    CandidatesOk (stepped watching5) ∧ InputsOk (stepped watching5) ∧
      step (stepped watching5) = .next (assertReset watching5) := by
  have h : ∀ n : Slot,
      (stepped watching5).cands[n] = (if n = 5 then cand .line .available false true .none else resetCand) ∧
        (stepped watching5).inputs[n] = (if n = 5 then watchedInput true (some ⟨0, 0⟩) else resetInput) := by
    decide +kernel
  refine ⟨fun n => ?_, fun n => ⟨?_, ?_⟩, rfl⟩
  · rw [(h n).1]
    split <;> simp [CandidateOk, resetCand, cand]
  · rw [(h n).2]
    split
    · exact inputOk_watched _ _ (fun g hg => by cases hg; decide) (fun h0 => nomatch h0)
    · exact inputOk_reset
  · rw [(h n).1, (h n).2]
    split <;> rfl

theorem witness_StepKeepsGradesCurrent :
    (GradesCurrent (stepped s0) ∧ step (stepped s0) = .next (assertReset s0)) ∧
      (HeldWithMap (stepped s0) ∧ step (stepped s0) = .next (assertReset s0)) :=
  ⟨⟨by unfold GradesCurrent; decide +kernel, rfl⟩, by unfold HeldWithMap; decide +kernel, rfl⟩

theorem witness_StepKeepsLatchesLegal :
    LatchesOk (stepped (withEvents events5 s0)) ∧ ConditionsCurrent (stepped (withEvents events5 s0)) ∧
      step (stepped (withEvents events5 s0)) = .next (assertReset (withEvents events5 s0)) :=
  ⟨by unfold LatchesOk; decide +kernel, by unfold ConditionsCurrent; decide +kernel, rfl⟩

end Sys2Proof.Tests
end

section
/-! PROOFS. What a command can do to the Lane Interface, said once: the moves of the lane, and the operations that do no
more than offer frames which the part generated. -/

namespace Sys2Proof.Machine

-- One theorem after the other: the joined text would otherwise ask for a thread per waiting proof.
set_option Elab.async false

/-! ### The moves of the lane -/

/-- The part offers one frame that it generated: it joins a local outbound queue that has a free place, and the arbiter
chooses (R11, R12, R14). -/
inductive LaneOffer : Lane → Lane → Prop
  | fabric (f : OutFrame) (l : Lane) (h : l.fabric.localQ.length < 32) :
    LaneOffer l { l with fabric := OutPort.serve l.live { l.fabric with localQ := l.fabric.localQ ++ [f] } }
  | control (f : OutFrame) (l : Lane) (h : l.control.localQ.length < 8) :
    LaneOffer l { l with control := OutPort.serve l.live { l.control with localQ := l.control.localQ ++ [f] } }

/-- Between the states the lane does no more than take generated frames into its local outbound queues. -/
def LaneOffers (s t : State) : Prop := Relation.ReflTransGen LaneOffer s.lane t.lane

/-- What one command can do to the lane: generated frames, frames received and taken, transmissions that end, the reset
line, and the two ways in which the lane starts anew (R4, R6, R7, R10, R14, R16, R17). -/
inductive LaneMove : Lane → Lane → Prop
  | offer {l l' : Lane} (h : LaneOffer l l') : LaneMove l l'
  | transitToFabric (f : Frame) (l : Lane) (h : l.fabric.transitQ.length < 64) :
    LaneMove l { l with fabric := OutPort.serve l.live { l.fabric with transitQ := l.fabric.transitQ ++ [f] } }
  | transitToControl (f : Frame) (l : Lane) (h : l.control.transitQ.length < 64) :
    LaneMove l { l with control := OutPort.serve l.live { l.control with transitQ := l.control.transitQ ++ [f] } }
  | localJoins (f : Frame) (l : Lane) (h : l.localIn.length < 16) : LaneMove l { l with localIn := l.localIn ++ [f] }
  | localTaken (l : Lane) : LaneMove l { l with localIn := l.localIn.tail }
  | requestJoins (f : Frame) (l : Lane) (h : l.requests.length < 4) : LaneMove l { l with requests := l.requests ++ [f] }
  | requestTaken (l : Lane) : LaneMove l { l with requests := l.requests.tail }
  | fabricEnds (l : Lane) : LaneMove l { l with fabric := l.fabric.endTransmission l.live }
  | controlEnds (l : Lane) : LaneMove l { l with control := l.control.endTransmission l.live }
  | asserted (l : Lane) :
    LaneMove l
      { l with
        resetAsserted := true
        fabric := { l.fabric with sending := none }
        control := { l.control with sending := none } }
  | reset (l : Lane) (strap : Address) (asserted : Bool) : LaneMove l (resetLane strap asserted)
  | restart (l : Lane) : LaneMove l l.restart

/-- The lane gets from s to t by moves. -/
def LaneMoves (s t : State) : Prop := Relation.ReflTransGen LaneMove s.lane t.lane

/-! ### Paths of offers -/

theorem LaneOffers.of_lane_eq {s t : State} (h : t.lane = s.lane) : LaneOffers s t := by
  unfold LaneOffers; rw [h]

theorem LaneOffers.refl (s : State) : LaneOffers s s := .of_lane_eq rfl

theorem LaneOffers.trans {s t u : State} (h : LaneOffers s t) (g : LaneOffers t u) : LaneOffers s u :=
  Relation.ReflTransGen.trans h g

/-- Work on a state with the lane of s offers from s. -/
theorem LaneOffers.from {s s1 t : State} (g : LaneOffers s1 t) (h : s1.lane = s.lane := by rfl) : LaneOffers s t :=
  (LaneOffers.of_lane_eq h).trans g

theorem LaneOffers.ite {c : Prop} [Decidable c] {s t u : State} (h : LaneOffers s t) (g : LaneOffers s u) :
    LaneOffers s (if c then t else u) := by split <;> assumption

/-- The parts that make up the lane. -/
def laneParts : List Part := [.strap, .resetLevel, .fabric, .control, .localIn, .requests]

/-- A frame that names no part of the lane leaves the lane as it is. -/
theorem sameBut.lane_eq {ps : List Part} {s t : State} (h : sameBut ps s t)
    (hd : ∀ p ∈ laneParts, p ∉ ps := by decide) : t.lane = s.lane := by
  have hstrap : t.lane.strap = s.lane.strap := h .strap (hd _ (by decide))
  have hlevel : t.lane.resetAsserted = s.lane.resetAsserted := h .resetLevel (hd _ (by decide))
  have hfabric : t.lane.fabric = s.lane.fabric := h .fabric (hd _ (by decide))
  have hcontrol : t.lane.control = s.lane.control := h .control (hd _ (by decide))
  have hlocal : t.lane.localIn = s.lane.localIn := h .localIn (hd _ (by decide))
  have hrequests : t.lane.requests = s.lane.requests := h .requests (hd _ (by decide))
  cases ht : t.lane
  cases hs : s.lane
  simp_all

theorem LaneOffers.of_sameBut {ps : List Part} {s t : State} (h : sameBut ps s t)
    (hd : ∀ p ∈ laneParts, p ∉ ps := by decide) : LaneOffers s t := .of_lane_eq (h.lane_eq hd)

theorem LaneOffers.foldl {α : Type} (f : α → State → State) (h : ∀ a t, LaneOffers t (f a t)) (l : List α) (s : State) :
    LaneOffers s (l.foldl (fun t a => f a t) s) :=
  foldl_keeps f (LaneOffers s) (fun a t ht => ht.trans (h a t)) l s (.refl s)

theorem LaneOffers.overSlots (f : Slot → State → State) (h : ∀ n t, LaneOffers t (f n t)) (s : State) :
    LaneOffers s (overSlots f s) := .foldl f h _ s

theorem LaneOffers.overShelves (f : ShelfId → State → State) (h : ∀ k t, LaneOffers t (f k t)) (s : State) :
    LaneOffers s (overShelves f s) := .foldl f h _ s

theorem LaneOffers.overPorts (f : PortId → State → State) (h : ∀ p t, LaneOffers t (f p t)) (s : State) :
    LaneOffers s (overPorts f s) := .foldl f h _ s

theorem LaneOffers.overMask (m : BitVec 16) (f : ShelfId → State → State) (h : ∀ k t, LaneOffers t (f k t)) (s : State) :
    LaneOffers s (overMask m f s) := .overShelves _ (fun k t => (h k t).ite (.refl t)) s

/-- Offered frames leave the strap, the reset level and what was received as they are. -/
theorem LaneOffers.keeps {s t : State} (h : LaneOffers s t) :
    t.lane.resetAsserted = s.lane.resetAsserted ∧ t.lane.localIn = s.lane.localIn ∧
      t.lane.requests = s.lane.requests := by
  unfold LaneOffers at h
  generalize s.lane = l at h ⊢
  generalize t.lane = l' at h ⊢
  induction h with
  | refl => exact ⟨rfl, rfl, rfl⟩
  | tail _ hm ih => cases hm <;> exact ih

/-! ### The Event Unit -/

theorem offerFabric_offers (f : Frame) (s : State) : LaneOffers s (offerFabric f s).1 := by
  rw [offerFabric_eq]
  split
  · exact .single (.fabric ⟨f, false⟩ s.lane (by assumption))
  · exact .refl s

theorem offerControl_offers (f : OutFrame) (s : State) : LaneOffers s (offerControl f s).1 := by
  rw [offerControl_eq]
  split
  · exact .single (.control f s.lane (by assumption))
  · exact .refl s

theorem sendNotice_offers (fresh : Bool) (ls : List LatchId) (s : State) : LaneOffers s (sendNotice fresh ls s) :=
  (offerControl_offers _ s).trans (.of_lane_eq rfl)

theorem freshNotice_offers (s : State) : LaneOffers s (freshNotice s) := by
  unfold freshNotice
  split
  · exact .of_lane_eq rfl
  · exact sendNotice_offers _ _ s

theorem sendDecision_offers (s : State) : LaneOffers s (sendDecision s) := by
  unfold sendDecision
  refine (LaneOffers.refl s).ite ?_
  split
  · exact (freshNotice_offers s).ite (.refl s)
  · split
    · exact sendNotice_offers _ _ s
    · exact LaneOffers.from (s1 := { s with events := { s.events with resume := none } })
        ((freshNotice_offers _).ite (.refl _))

theorem eventStep_offers (f : EventUnit → EventUnit) (s : State) : LaneOffers s (eventStep f s) := by
  unfold eventStep
  exact .ite (sendDecision_offers _).from (.of_lane_eq rfl)

theorem raiseEdge_offers (l : LatchId) (s : State) : LaneOffers s (raiseEdge l s) := eventStep_offers _ s

theorem raiseCondition_offers (c : CondId) (b a : Bool) (s : State) : LaneOffers s (raiseCondition c b a s) :=
  (LaneOffers.refl s).ite (eventStep_offers _ s)

/-! ### Candidates, grades and tick inputs -/

theorem commitCand_offers (n : Slot) (c : Cand) (b : Bool) (s : State) : LaneOffers s (commitCand n c b s) := by
  have htold : LaneOffers s (requestListing n (raiseCandState n (s.setCand n c))) :=
    (eventStep_offers _ (s.setCand n c)).from.trans (.of_sameBut (requestListing_sameBut n _))
  have hflight : ∀ (x : InFlight) (t : State), LaneOffers t (t.setFlight x) := fun _ _ => .of_lane_eq rfl
  exact .ite (.ite (htold.trans (hflight _ _)) htold) (.of_lane_eq rfl)

theorem regrade_offers (n : Slot) (s : State) : LaneOffers s (regrade n s) := by
  have hset : LaneOffers s (s.setGrade n { s.grades[n] with eff := effectiveGrade s n }) := .of_lane_eq rfl
  exact (LaneOffers.refl s).ite
    (((hset.ite (hset.trans (raiseEdge_offers _ _))).trans (.of_sameBut (requestListing_sameBut n _))).trans
      (.of_sameBut (handGrade_sameBut n _)))

theorem commitGrade_offers (n : Slot) (g : GradeSlot) (s : State) : LaneOffers s (commitGrade n g s) := by
  have hgrade : LaneOffers s (regrade n (s.setGrade n { g with eff := s.grades[n].eff })) := (regrade_offers n _).from
  exact hgrade.trans (raiseCondition_offers _ _ _ _)

theorem commitInput_offers (n : Slot) (i : TickInput) (s : State) : LaneOffers s (commitInput n i s) := by
  have hset : (s.setInput n i).lane = s.lane := rfl
  refine LaneOffers.trans (LaneOffers.ite ?_ ?_) (raiseCondition_offers _ _ _ _)
  · exact .of_lane_eq hset
  · exact .of_lane_eq rfl

/-! ### Slices and target changes -/

theorem sendDirective_offers (k : ShelfId) (s : State) : LaneOffers s (sendDirective k s) :=
  (offerFabric_offers _ s).trans (.of_lane_eq rfl)

theorem newDirective_offers (k : ShelfId) (a : Action) (s : State) : LaneOffers s (newDirective k a s) :=
  (sendDirective_offers k _).from

/-- A Directive made for a slice whose record was just stored. -/
theorem setSlice_newDirective_offers (k : ShelfId) (a : Action) (v : Slice) (s : State) :
    LaneOffers s (newDirective k a (s.setSlice k v)) := (newDirective_offers k a _).from

theorem closeSlice_offers (k : ShelfId) (old : Slice) (s : State) : LaneOffers s (closeSlice k old s) := by
  have htold : LaneOffers s (if s.slices[k].timing = old.timing then s else raiseEdge (shelfLatch 1 k) s) :=
    (LaneOffers.refl s).ite (raiseEdge_offers _ s)
  have hsilent := htold.trans (raiseCondition_offers (condModuleSilent k) old.unreachable s.slices[k].unreachable _)
  exact .ite (hsilent.trans (.of_sameBut (retriple_sameBut _ _ _))) hsilent

/-- The closing of an event at a slice whose record was just stored. -/
theorem setSlice_closeSlice_offers (k : ShelfId) (old v : Slice) (s : State) :
    LaneOffers s (closeSlice k old (s.setSlice k v)) := (closeSlice_offers k old _).from

theorem takeTarget_offers (k : ShelfId) (t : Option Slot) (s : State) : LaneOffers s (takeTarget k t s) := by
  cases t with
  | none =>
    exact (LaneOffers.refl s).ite ((setSlice_newDirective_offers k _ _ s).trans (setSlice_closeSlice_offers k _ _ _))
  | some c =>
    exact (LaneOffers.refl s).ite ((setSlice_newDirective_offers k _ _ s).trans (setSlice_closeSlice_offers k _ _ _))

theorem changeTarget_offers (k : ShelfId) (t : Option Target) (s : State) : LaneOffers s (changeTarget k t s) := by
  have htaken : LaneOffers s (takeTarget k (t.map Target.slot) (s.setShelf k { s.shelves[k] with target := t })) :=
    (takeTarget_offers k _ _).from
  exact (htaken.trans (raiseEdge_offers (shelfLatch 0 k) _)).trans (.of_sameBut (requestCascade_sameBut k _))

/-! ### The Notice Unit -/

theorem offerNotice_offers (p : PortId) (ty : NoticeType) (c : Content) (s : State) :
    LaneOffers s (offerNotice p ty c s) := (offerFabric_offers _ s).trans (.of_lane_eq rfl)

theorem recomputePort_offers (p : PortId) (s : State) : LaneOffers s (recomputePort p s) := by
  have hset : ∀ x, LaneOffers s (s.setTx p x) := fun _ => .of_lane_eq rfl
  exact .ite (hset _) (.ite ((hset _).trans (offerNotice_offers p _ _ _)) (hset _))

/-- A port compared after its record was stored. -/
theorem setTx_recomputePort_offers (p : PortId) (x : TxPort) (s : State) :
    LaneOffers s (recomputePort p (s.setTx p x)) := (recomputePort_offers p _).from

theorem startWindow_offers (p : PortId) (s : State) : LaneOffers s (startWindow p s) :=
  .ite (setTx_recomputePort_offers p _ s) (.of_lane_eq rfl)

theorem writeTransmitHalf_offers (p : PortId) (w : TxWrite) (s : State) : LaneOffers s (writeTransmitHalf p w s) := by
  unfold writeTransmitHalf
  dsimp only
  split
  · exact setTx_recomputePort_offers p _ s
  · exact .of_lane_eq rfl
  · exact setTx_recomputePort_offers p _ s
  · exact .of_lane_eq rfl

/-! ### The Selection Engine -/

/-- A shelf that takes a new record and queues the others for the cascade. -/
theorem setShelf_requestCascade_offers (k : ShelfId) (h : Shelf) (s : State) :
    LaneOffers s (requestCascade k (s.setShelf k h)) :=
  (LaneOffers.of_sameBut (requestCascade_sameBut k (s.setShelf k h))).from

theorem applyTarget_offers (k : ShelfId) (t : Option Slot) (s : State) : LaneOffers s (applyTarget k t s) :=
  (LaneOffers.refl s).ite (.ite (setShelf_requestCascade_offers k _ s) (changeTarget_offers k _ s))

theorem evaluate_offers (k : ShelfId) (m : Option Slot) (s : State) : LaneOffers s (evaluate k m s) := by
  have hmark : LaneOffers s (applyMark k m s) := .of_sameBut (applyMark_sameBut k m s)
  have hdrop : LaneOffers (applyMark k m s) (dropManual k (applyMark k m s)) := (raiseEdge_offers _ _).from
  exact (LaneOffers.refl s).ite ((hmark.trans (hdrop.ite (.refl _))).trans (applyTarget_offers k _ _))

theorem withdrawTarget_offers (k : ShelfId) (s : State) : LaneOffers s (withdrawTarget k s) := by
  unfold withdrawTarget
  split
  · exact .refl s
  · exact (raiseEdge_offers (shelfLatch 0 k) (s.setShelf k { s.shelves[k] with target := none })).from.trans
      (.of_sameBut (requestCascade_sameBut k _))

/-- A shelf whose changed list is handed over, and which is queued. -/
theorem listChange_offers (k : ShelfId) (h : Shelf) (s : State) :
    LaneOffers s (requestEvaluation k none (raiseListChange k (s.setShelf k h))) := by
  have htold : LaneOffers s (raiseListChange k (s.setShelf k h)) := (eventStep_offers _ (s.setShelf k h)).from
  exact htold.trans (.of_sameBut (requestEvaluation_sameBut k none _))

theorem writeEntry_offers (k : ShelfId) (e : EntryId) (w : Entry) (s : State) : LaneOffers s (writeEntry k e w s) := by
  have hset : LaneOffers s (s.setShelf k { s.shelves[k] with entries := s.shelves[k].entries.set e w }) := .of_lane_eq rfl
  exact (LaneOffers.refl s).ite
    (((hset.trans (changeTarget_offers k none _)).ite hset).trans (listChange_offers k _ _))

theorem setLockout_offers (k : ShelfId) (e : EntryId) (on : Bool) (s : State) : LaneOffers s (setLockout k e on s) :=
  (LaneOffers.refl s).ite (listChange_offers k _ s)

theorem writeSlice_offers (k : ShelfId) (w : SliceSettings) (s : State) : LaneOffers s (writeSlice k w s) := by
  have hset : LaneOffers s (s.setSlice k (s.slices[k].writeSettings s.osc w)) := .of_lane_eq rfl
  have hsent := (hset.trans (sendDirective_offers k _)).ite hset
    (c := (decide (w.module ≠ s.slices[k].cfg.module) && decide (s.slices[k].timing ≠ .parked)) = true)
  exact .ite (hsent.trans (.of_sameBut (retriple_sameBut k false _))) hsent

theorem parkBoth_offers (k : ShelfId) (s : State) : LaneOffers s (parkBoth k s) := by
  have hengine : LaneOffers s (parkEngine k s) := (LaneOffers.refl s).ite (withdrawTarget_offers k s)
  exact hengine.trans ((LaneOffers.refl _).ite (setSlice_closeSlice_offers k _ _ _))

/-- A slice that takes a new record, makes a Directive, and is queued. -/
theorem directedSlice_offers (k : ShelfId) (old v : Slice) (s : State) :
    LaneOffers s (requestEvaluation k none (closeSlice k old (newDirective k .hold (s.setSlice k v)))) :=
  ((setSlice_newDirective_offers k .hold v s).trans (closeSlice_offers k old _)).trans
    (.of_sameBut (requestEvaluation_sameBut k none _))

theorem unparkSlice_offers (k : ShelfId) (s : State) : LaneOffers s (unparkSlice k s) :=
  .ite (directedSlice_offers k _ _ s) (.refl s)

theorem resetBoth_offers (k : ShelfId) (s : State) : LaneOffers s (resetBoth k s) := by
  have hengine : LaneOffers s (resetEngineHalf k s) := (withdrawTarget_offers k s).trans (.of_lane_eq rfl)
  exact hengine.trans
    (.ite ((setSlice_closeSlice_offers k _ _ _).trans (.of_sameBut (requestEvaluation_sameBut k none _)))
      (directedSlice_offers k _ _ _))

/-! ### The writes of the Management Agent -/

theorem watchInput_offers (n : Slot) (a b : Bool) (s : State) : LaneOffers s (watchInput n a b s) := by
  have hreports : (if b then s else consumeReports n s).lane = s.lane := by split <;> rfl
  exact (LaneOffers.refl s).ite ((raiseCondition_offers _ _ _ _).from hreports)

theorem writeCandidate_offers (n : Slot) (bw : BindingWrite) (gw : GradeWrite) (fw : FrequencyWrite) (s : State) :
    LaneOffers s (writeCandidate n bw gw fw s) := by
  have hbinding : LaneOffers s (writeBinding n bw s) := (commitCand_offers n _ _ s).trans (watchInput_offers n _ _ _)
  have hgrade : LaneOffers s
      (writeGrade n gw (decide (s.cands[n].kind ≠ bw.kind) || s.cands[n].rebinds bw) (writeBinding n bw s)) :=
    hbinding.trans (commitGrade_offers n _ _)
  exact hgrade.trans (.of_lane_eq rfl)

theorem applyPorts_offers (b : List Byte) (s : State) : LaneOffers s (applyPorts b s) := by
  have hrebind : ∀ (n : Slot) (x y : Option PortId) (t : State), LaneOffers t (rebindPort n x y t) := fun n x y t =>
    (LaneOffers.refl t).ite ((commitGrade_offers n _ t).ite (.refl t))
  have hreceive : LaneOffers s (writeReceiveHalves (writtenPorts b s.rxPorts) s) :=
    (LaneOffers.overSlots _ (fun n t => hrebind n _ _ t) { s with rxPorts := writtenPorts b s.rxPorts }).from
  exact hreceive.trans (.overPorts _ (fun p t => (writeTransmitHalf_offers p _ t).ite (.refl t)) _)

theorem attachReceive_offers (m : MapId) (s : State) : LaneOffers s (attachReceive m s) := by
  have hset : ∀ (n : Slot) (x : GradeSlot) (t : State), LaneOffers t (t.setGrade n x) := fun _ _ _ => .of_lane_eq rfl
  have hremap := LaneOffers.overSlots
    (fun n t =>
      if t.grades[n].rmap = m then
        t.setGrade n (t.grades[n].remap (decide (s.cands[n].kind = .line)) { s.rmaps[m] with attached := true })
      else t)
    (fun n t => (hset n _ t).ite (.refl t)) { s with rmaps := s.rmaps.set m { s.rmaps[m] with attached := true } }
  exact (LaneOffers.refl s).ite
    (hremap.from.trans (.overSlots _ (fun n t => (regrade_offers n t).ite (.refl t)) _))

theorem attachTransmit_offers (m : MapId) (s : State) : LaneOffers s (attachTransmit m s) := by
  have hports := LaneOffers.overPorts
    (fun p t => if t.txPorts[p].inUse && decide (t.txPorts[p].tmap = m) then recomputePort p t else t)
    (fun p t => (recomputePort_offers p t).ite (.refl t))
    { s with tmaps := s.tmaps.set m { s.tmaps[m] with attached := true } }
  exact (LaneOffers.refl s).ite hports.from

theorem writeNode_offers (w : NodeWrite) (s : State) : LaneOffers s (writeNode w s) := by
  have hbase : (writeBaseTag w.baseTag
      { s with correction := w.correction, engine := { s.engine with budget := w.budget } }).lane = s.lane :=
    (writeBaseTag_spec w.baseTag _).2.2.2.lane_eq
  exact (sendDecision_offers _).from hbase

end Sys2Proof.Machine
end

section
/-! PROOFS. Every command moves the lane by the moves of `LaneMove` only. -/

namespace Sys2Proof.Machine

-- One theorem after the other: the joined text would otherwise ask for a thread per waiting proof.
set_option Elab.async false

/-! ### Paths of moves -/

theorem LaneMoves.trans {s t u : State} (h : LaneMoves s t) (g : LaneMoves t u) : LaneMoves s u :=
  Relation.ReflTransGen.trans h g

theorem LaneOffers.moves {s t : State} (h : LaneOffers s t) : LaneMoves s t :=
  Relation.ReflTransGen.mono (fun _ _ => LaneMove.offer) _ _ h

theorem LaneMoves.of_lane_eq {s t : State} (h : t.lane = s.lane) : LaneMoves s t := (LaneOffers.of_lane_eq h).moves

theorem LaneMoves.refl (s : State) : LaneMoves s s := .of_lane_eq rfl

theorem LaneMoves.of_sameBut {ps : List Part} {s t : State} (h : sameBut ps s t)
    (hd : ∀ p ∈ laneParts, p ∉ ps := by decide) : LaneMoves s t := .of_lane_eq (h.lane_eq hd)

/-- Work on a state with the lane of s moves from s. -/
theorem LaneMoves.from {s s1 t : State} (g : LaneMoves s1 t) (h : s1.lane = s.lane := by rfl) : LaneMoves s t :=
  (LaneMoves.of_lane_eq h).trans g

theorem LaneMoves.ite {c : Prop} [Decidable c] {s t u : State} (h : LaneMoves s t) (g : LaneMoves s u) :
    LaneMoves s (if c then t else u) := by split <;> assumption

/-- A single move to a state whose lane is written out. -/
theorem LaneMoves.single {s t : State} (h : LaneMove s.lane t.lane) : LaneMoves s t := Relation.ReflTransGen.single h

/-- A property that every move keeps is kept from s to t. -/
theorem LaneMoves.keeps {s t : State} (h : LaneMoves s t) (I : Lane → Prop) (hI : ∀ l l', LaneMove l l' → I l → I l')
    (hs : I s.lane) : I t.lane := by
  unfold LaneMoves at h
  generalize t.lane = l' at h ⊢
  induction h with
  | refl => exact hs
  | tail _ hm ih => exact hI _ _ hm ih

/-! ### Received frames -/

theorem joinToControl_moves (f : Frame) (s : State) : LaneMoves s (joinToControl f s) := by
  rw [joinToControl_eq]
  split
  · exact .single (.transitToControl f s.lane (by assumption))
  · exact (raiseEdge_offers _ s).moves

theorem joinToFabric_moves (f : Frame) (s : State) : LaneMoves s (joinToFabric f s) := by
  rw [joinToFabric_eq]
  split
  · exact .single (.transitToFabric f s.lane (by assumption))
  · exact (raiseEdge_offers _ s).moves

theorem joinLocal_moves (f : Frame) (s : State) : LaneMoves s (joinLocal f s) := by
  rw [joinLocal_eq]
  split
  · exact .single (.localJoins f s.lane (by assumption))
  · have htold : LaneMoves s (raiseEdge (deviceLatch 1) s) := (raiseEdge_offers _ s).moves
    exact (htold.trans (joinToControl_moves f _)).ite htold

theorem joinRequests_moves (f : Frame) (s : State) : LaneMoves s (joinRequests f s) := by
  rw [joinRequests_eq]
  split
  · exact .single (.requestJoins f s.lane (by assumption))
  · exact (raiseEdge_offers _ s).moves

theorem receiveFrame_moves (port : LanePort) (f : Frame) (b : Bool) (s : State) :
    LaneMoves s (receiveFrame port f b s) := by
  refine (LaneMoves.refl s).ite (.ite ?_ (.refl s))
  split
  · exact joinLocal_moves f s
  · exact joinRequests_moves f s
  · cases port with
    | fabric => exact joinToControl_moves f s
    | control => exact joinToFabric_moves f s
  · exact .refl s

theorem processNotice_moves (f : Frame) (s : State) : LaneMoves s (processNotice f s) := by
  unfold processNotice
  split
  · exact joinToControl_moves f s
  · rename_i p _
    have hgraded : LaneMoves s
        (match boundLine s p with
          | some c => applyNotice c f s
          | none => s) := by
      split
      · exact (commitGrade_offers _ _ s).moves
      · exact .refl s
    exact hgraded.ite (hgraded.trans (joinToControl_moves f _))

/-- The head of the local inbound queue is taken. -/
theorem localTaken_moves (f : Frame) (rest : List Frame) (s : State) (h : s.lane.localIn = f :: rest) :
    LaneMoves s (s.setLane { s.lane with localIn := rest }) := by
  have hm := LaneMove.localTaken s.lane
  rw [h] at hm
  exact .single hm

theorem takeNotice_moves (s : State) : LaneMoves s (takeNotice s) := by
  unfold takeNotice
  split
  · exact .ite ((localTaken_moves _ _ s (by assumption)).trans (processNotice_moves _ _)) (.refl s)
  · exact .refl s

theorem takeReport_offers (k : ShelfId) (f : Frame) (s : State) : LaneOffers s (takeReport k f s) := by
  have hresent : ∀ v, LaneOffers s (sendDirective k (s.setSlice k v)) := fun v => (sendDirective_offers k _).from
  exact .ite (.ite ((hresent _).trans (closeSlice_offers k _ _)) (setSlice_closeSlice_offers k _ _ s)) (.refl s)

theorem takeLockReport_moves (s : State) : LaneMoves s (takeLockReport s) := by
  unfold takeLockReport
  split
  · refine .ite ?_ (.refl s)
    have htaken := localTaken_moves _ _ s (by assumption)
    dsimp only
    split
    · exact htaken.trans (takeReport_offers _ _ _).moves
    · exact htaken
  · exact .refl s

/-! ### Expiries and hand-overs -/

theorem loseTicks_offers (n : Slot) (s : State) : LaneOffers s (loseTicks n s) :=
  .ite (commitInput_offers n _ _).from (.refl s)

theorem takeTick_offers (n : Slot) (d : Nat) (s : State) : LaneOffers s (takeTick n d s) := by
  have hlost : LaneOffers s
      (if (s.advanceTo (s.osc + d)).inputs[n].active &&
          decide ((s.advanceTo (s.osc + d)).inputs[n].lastTick + Config.lossSpan < (s.advanceTo (s.osc + d)).osc)
        then loseTicks n (s.advanceTo (s.osc + d)) else s.advanceTo (s.osc + d)) :=
    .ite (loseTicks_offers n _).from (.of_lane_eq rfl)
  exact .ite (hlost.trans (commitInput_offers n _ _)) (.of_lane_eq rfl)

theorem takeHealthReport_offers (n : Slot) (s : State) : LaneOffers s (takeHealthReport n s) := by
  unfold takeHealthReport
  split
  · exact .refl s
  · exact (commitCand_offers n _ _ _).from

theorem expireHoldOff_offers (n : Slot) (s : State) : LaneOffers s (expireHoldOff n s) := by
  unfold expireHoldOff
  split
  · exact (commitCand_offers n _ _ _).from
  · exact .refl s

theorem expireWtr_offers (n : Slot) (s : State) : LaneOffers s (expireWtr n s) := by
  unfold expireWtr
  split
  · exact (commitCand_offers n _ _ _).from
  · exact .refl s

theorem expireNotice_offers (n : Slot) (s : State) : LaneOffers s (expireNotice n s) := by
  unfold expireNotice
  split
  · exact (commitGrade_offers n _ _).from
  · exact .refl s

theorem takeTriple_offers (k : ShelfId) (s : State) : LaneOffers s (takeTriple k s) := by
  unfold takeTriple
  split
  · exact .refl s
  · exact (LaneOffers.overSlots _ (fun n t => (regrade_offers n t).ite (.refl t)) _).from

theorem takeNoticeCopy_offers (k : ShelfId) (s : State) : LaneOffers s (takeNoticeCopy k s) := by
  unfold takeNoticeCopy
  split
  · exact .refl s
  · exact (LaneOffers.overPorts _ (fun p t => (recomputePort_offers p t).ite (.refl t)) _).from

theorem expirePeriodic_offers (p : PortId) (s : State) : LaneOffers s (expirePeriodic p s) := by
  unfold expirePeriodic
  split
  · exact .refl s
  · exact (offerNotice_offers p _ _ _).from

theorem startBudgetWindow_offers (s : State) : LaneOffers s (startBudgetWindow s) :=
  (LaneOffers.overPorts _ (fun p t => (startWindow_offers p t).ite (.refl t)) _).from

theorem serveEvaluation_offers (s : State) : LaneOffers s (serveEvaluation s) := by
  unfold serveEvaluation
  split
  · exact .refl s
  · exact (LaneOffers.refl s).ite (evaluate_offers _ _ _).from

theorem expireLock_offers (k : ShelfId) (s : State) : LaneOffers s (expireLock k s) := by
  unfold expireLock
  dsimp only
  split
  · exact (raiseEdge_offers _ _).from
  · exact .refl s

theorem expireSettle_offers (k : ShelfId) (s : State) : LaneOffers s (expireSettle k s) := by
  unfold expireSettle
  dsimp only
  split
  · exact (closeSlice_offers k _ _).from
  · exact .refl s

theorem expireReport_offers (k : ShelfId) (s : State) : LaneOffers s (expireReport k s) := by
  unfold expireReport
  dsimp only
  split
  · exact (closeSlice_offers k _ _).from
  · exact .refl s

theorem expireSpacing_offers (s : State) : LaneOffers s (expireSpacing s) := by
  unfold expireSpacing
  split
  · exact (sendDecision_offers _).from
  · exact .refl s

theorem expireSummary_offers (s : State) : LaneOffers s (expireSummary s) := by
  unfold expireSummary
  split
  · exact .ite (.of_lane_eq rfl) (sendDecision_offers _).from
  · exact .refl s

/-! ### Answers and the service of requests -/

theorem dequeueRequest_moves (ph : Phase) (s : State) : LaneMoves s (dequeueRequest ph s) :=
  .single (.requestTaken s.lane)

theorem placeAnswer_moves (a : OutFrame) (s : State) : LaneMoves s (placeAnswer a s) :=
  .ite ((offerControl_offers a s).moves.trans (dequeueRequest_moves _ _)) (.of_lane_eq rfl)

theorem answer_moves (r : Request) (o : Served) : LaneMoves o.state (answer r o) := placeAnswer_moves _ _

theorem serveAgent_moves (row : Instr) (check : Request → State → Option RefusalAnswer)
    (run : Request → State → Served) (hrun : ∀ r t, LaneOffers t (run r t).state) (s : State) :
    LaneMoves s (serveAgent row check run s) := by
  unfold serveAgent
  split
  · refine .ite ?_ (.refl s)
    split
    · exact .refl s
    · split
      · exact placeAnswer_moves _ s
      · exact (hrun _ s).moves.trans (answer_moves _ _)
  · exact .refl s

theorem runOperation_moves (run : Request → State → Served) (r : Request)
    (hrun : ∀ t, LaneOffers t (run r t).state) (s : State) : LaneMoves s (runOperation run r s) :=
  (hrun (s.setEngine { s.engine with count := 0 })).from.moves.trans (answer_moves _ _)

theorem serveEngine_moves (row : Instr) (check : Request → State → Option RefusalAnswer)
    (run : Request → State → Served) (hrun : ∀ r t, LaneOffers t (run r t).state) (s : State) :
    LaneMoves s (serveEngine row check run s) := by
  unfold serveEngine
  split
  · exact .refl s
  · refine .ite ?_ (.refl s)
    split
    · split
      · exact placeAnswer_moves _ s
      · exact (runOperation_moves run _ (hrun _) s).ite (.of_lane_eq rfl)
    · exact (runOperation_moves run _ (hrun _) s).ite (.refl s)
    · exact .refl s

theorem placeWaiting_moves (s : State) : LaneMoves s (placeWaiting s) := by
  unfold placeWaiting
  split
  · exact placeAnswer_moves _ s
  · exact .refl s

theorem dropShortRequest_moves (s : State) : LaneMoves s (dropShortRequest s) := by
  unfold dropShortRequest
  split
  · exact (dequeueRequest_moves _ s).ite (.refl s)
  · exact .refl s

theorem serveRestart_moves (s : State) : LaneMoves s (serveRestart s) := by
  unfold serveRestart
  split
  · refine .ite ?_ (.refl s)
    split
    · exact .refl s
    · split
      · exact placeAnswer_moves _ s
      · exact placeAnswer_moves _ s
  · exact .refl s

/-! ### What serving a request offers -/

theorem runWriteListEntry_offers (r : Request) (s : State) : LaneOffers s (runWriteListEntry r s).state :=
  .overMask _ _ (fun k t => writeEntry_offers k _ _ t) s

theorem runWriteShelf_offers (r : Request) (s : State) : LaneOffers s (runWriteShelf r s).state :=
  .overMask _ _
    (fun k t =>
      (LaneOffers.of_sameBut (writeSelection_spec k (selectionOf r.body) t).2.2).trans (writeSlice_offers k _ _)) s

theorem runWritePorts_offers (r : Request) (s : State) : LaneOffers s (runWritePorts r s).state := by
  by_cases h : (boundSlots (writtenPorts r.body s.rxPorts)).Nodup
  · have hrun : (runWritePorts r s).state = applyPorts r.body s := by unfold runWritePorts; rw [if_pos h]
    rw [hrun]; exact applyPorts_offers r.body s
  · have hrun : (runWritePorts r s).state = s := by unfold runWritePorts; rw [if_neg h]
    rw [hrun]; exact .refl s

theorem runWriteReceiveMap_offers (r : Request) (s : State) : LaneOffers s (runWriteReceiveMap r s).state := by
  unfold runWriteReceiveMap
  dsimp only
  split <;> exact .of_lane_eq rfl

theorem runWriteTransmitMap_offers (r : Request) (s : State) : LaneOffers s (runWriteTransmitMap r s).state := by
  unfold runWriteTransmitMap
  dsimp only
  split <;> exact .of_lane_eq rfl

theorem runTake_offers (r : Request) (s : State) : LaneOffers s (runTake r s).state := by
  unfold runTake
  dsimp only
  split <;> exact .of_lane_eq rfl

theorem runCommand_offers (c : Request → Command) (r : Request) (s : State) :
    LaneOffers s (runCommand c r s).state := by
  unfold runCommand
  split
  · exact .refl s
  · exact .of_sameBut (setCommand_spec _ _ s).2.2

theorem runUnranked_offers (act : Request → State → State) (h : ∀ r t, LaneOffers t (act r t)) (r : Request)
    (s : State) : LaneOffers s (runUnranked act r s).state := by
  unfold runUnranked
  split
  · exact .refl s
  · exact h r s

theorem runMasked_offers (act : ShelfId → State → State) (h : ∀ k t, LaneOffers t (act k t)) (r : Request)
    (s : State) : LaneOffers s (runMasked act r s).state := .overMask _ act h s

/-! ### The reset line and the restart -/

theorem releaseReset_moves (a : Address) (s : State) : LaneMoves s (releaseReset a s) :=
  .ite (.single (.reset s.lane a false)) (.refl s)

theorem deviceRestart_moves (s : State) : LaneMoves s (deviceRestart s) := by
  have hstart : LaneMoves s (restartEvents (regradeSilently (restartBlocks s))) := .single (.restart s.lane)
  have hdirect := LaneOffers.overShelves
    (fun k t => if t.slices[k].timing = .parked then t else newDirective k .hold t)
    (fun k t => (LaneOffers.refl t).ite (newDirective_offers k .hold t)) (restartEvents (regradeSilently (restartBlocks s)))
  exact hstart.trans hdirect.moves

theorem endTransmission_moves (port : LanePort) (s : State) : LaneMoves s (endTransmission port s) := by
  cases port with
  | fabric => exact .ite (.single (.fabricEnds s.lane)) (.refl s)
  | control => exact (deviceRestart_moves s).ite (.ite (.single (.controlEnds s.lane)) (.refl s))

/-! ### Every command -/

/-- What the lane does in a command, when the command answers with the state u. -/
theorem LaneMoves.of_next {c : Instr} {s t u : State} (hs : LaneMoves s u) (h : exec c s = .next t)
    (hu : exec c s = .next u) : LaneMoves s t := by
  obtain rfl : u = t := Host.Outcome.next.inj (hu.symm.trans h)
  exact hs

/-- A command moves the lane by the moves of `LaneMove` only. -/
theorem exec_laneMoves (c : Instr) (s t : State) (h : exec c s = .next t) : LaneMoves s t := by
  cases c with
  | powerOn a => exact LaneMoves.of_next (.single (.reset s.lane a s.lane.resetAsserted)) h rfl
  | resetLineAsserted => exact LaneMoves.of_next (.single (.asserted s.lane)) h rfl
  | resetLineReleased a => exact (releaseReset_moves a s).of_next h rfl
  | frameReceived port f b => exact (receiveFrame_moves port f b s).of_next h rfl
  | transmissionEnd port => exact (endTransmission_moves port s).of_next h rfl
  | deviceRestart => exact ((deviceRestart_moves s).ite (.refl s)).of_next h rfl
  | receivedGradeNotice => exact (takeNotice_moves s).of_next h rfl
  | lockReport => exact (takeLockReport_moves s).of_next h rfl
  | tick n d => exact (takeTick_offers n d s).moves.of_next h rfl
  | tickLoss n => exact (loseTicks_offers n s).moves.of_next h rfl
  | healthReport n => exact (takeHealthReport_offers n s).moves.of_next h rfl
  | lockFailedRemoval n => exact (LaneMoves.of_sameBut (takeRemoval_sameBut n s)).of_next h rfl
  | holdOffExpiry n => exact (expireHoldOff_offers n s).moves.of_next h rfl
  | wtrExpiry n => exact (expireWtr_offers n s).moves.of_next h rfl
  | noticeTimerExpiry n => exact (expireNotice_offers n s).moves.of_next h rfl
  | tripleHandover k => exact (takeTriple_offers k s).moves.of_next h rfl
  | targetGradeHandover k => exact (LaneMoves.of_sameBut (takeTargetGrade_sameBut k s)).of_next h rfl
  | noticeUnitHandover k => exact (takeNoticeCopy_offers k s).moves.of_next h rfl
  | periodicTimerExpiry p => exact (expirePeriodic_offers p s).moves.of_next h rfl
  | budgetWindowStart => exact (startBudgetWindow_offers s).moves.of_next h rfl
  | evaluation => exact (serveEvaluation_offers s).moves.of_next h rfl
  | lockTimerExpiry k => exact (expireLock_offers k s).moves.of_next h rfl
  | settleTimerExpiry k => exact (expireSettle_offers k s).moves.of_next h rfl
  | reportTimerExpiry k => exact (expireReport_offers k s).moves.of_next h rfl
  | holdoverBudgetExhausted k => exact (LaneMoves.of_sameBut (exhaustBudget_sameBut k s)).of_next h rfl
  | spacingTimerExpiry => exact (expireSpacing_offers s).moves.of_next h rfl
  | summaryTimerExpiry => exact (expireSummary_offers s).moves.of_next h rfl
  | answerPlaced => exact (placeWaiting_moves s).of_next h rfl
  | requestTooShort => exact (dropShortRequest_moves s).of_next h rfl
  | unknownKind => exact (serveAgent_moves _ _ _ (fun _ t => .refl t) s).of_next h rfl
  | identify => exact (serveAgent_moves _ _ _ (fun _ t => .refl t) s).of_next h rfl
  | readTable => exact (serveAgent_moves _ _ _ (fun _ t => .refl t) s).of_next h rfl
  | readStatusCandidate => exact (serveAgent_moves _ _ _ (fun _ t => .refl t) s).of_next h rfl
  | readStatusShelf => exact (serveAgent_moves _ _ _ (fun _ t => .refl t) s).of_next h rfl
  | readStatusPort => exact (serveAgent_moves _ _ _ (fun _ t => .refl t) s).of_next h rfl
  | writeCandidate => exact (serveAgent_moves _ _ _ (fun _ t => writeCandidate_offers _ _ _ _ t) s).of_next h rfl
  | writeListEntry => exact (serveEngine_moves _ _ _ runWriteListEntry_offers s).of_next h rfl
  | writeShelf => exact (serveEngine_moves _ _ _ runWriteShelf_offers s).of_next h rfl
  | writePorts => exact (serveAgent_moves _ _ _ runWritePorts_offers s).of_next h rfl
  | writeReceiveMap => exact (serveAgent_moves _ _ _ runWriteReceiveMap_offers s).of_next h rfl
  | writeTransmitMap => exact (serveAgent_moves _ _ _ runWriteTransmitMap_offers s).of_next h rfl
  | detachReceiveMap =>
    exact (serveAgent_moves _ _ _ (fun _ t => .of_sameBut (detachReceive_spec _ t).2.2) s).of_next h rfl
  | attachReceiveMap => exact (serveAgent_moves _ _ _ (fun _ t => attachReceive_offers _ t) s).of_next h rfl
  | detachTransmitMap => exact (serveAgent_moves _ _ _ (fun _ _ => .of_lane_eq rfl) s).of_next h rfl
  | attachTransmitMap => exact (serveAgent_moves _ _ _ (fun _ t => attachTransmit_offers _ t) s).of_next h rfl
  | writeNode => exact (serveAgent_moves _ _ _ (fun _ t => writeNode_offers _ t) s).of_next h rfl
  | take => exact (serveAgent_moves _ _ _ runTake_offers s).of_next h rfl
  | release => exact (serveAgent_moves _ _ _ (fun _ _ => .of_lane_eq rfl) s).of_next h rfl
  | commandHold => exact (serveEngine_moves _ _ _ (runCommand_offers _) s).of_next h rfl
  | commandForce => exact (serveEngine_moves _ _ _ (runCommand_offers _) s).of_next h rfl
  | commandManual => exact (serveEngine_moves _ _ _ (runCommand_offers _) s).of_next h rfl
  | commandClear =>
    exact (serveEngine_moves _ _ _ (runUnranked_offers _ fun _ t => .of_sameBut (setCommand_spec _ _ t).2.2) s).of_next
      h rfl
  | commandLockout =>
    exact (serveEngine_moves _ _ _ (runUnranked_offers _ fun _ t => setLockout_offers _ _ _ t) s).of_next h rfl
  | park => exact (serveEngine_moves _ _ _ (runMasked_offers _ parkBoth_offers) s).of_next h rfl
  | unpark => exact (serveEngine_moves _ _ _ (runMasked_offers _ unparkSlice_offers) s).of_next h rfl
  | sliceReset => exact (serveEngine_moves _ _ _ (runMasked_offers _ resetBoth_offers) s).of_next h rfl
  | clearMarks =>
    exact (serveEngine_moves _ _ _ (runMasked_offers _ fun k t => .of_sameBut (clearMarks_spec k t).2.2) s).of_next h rfl
  | ackEvents => exact (serveAgent_moves _ _ _ (fun _ _ => .of_lane_eq rfl) s).of_next h rfl
  | restart => exact (serveRestart_moves s).of_next h rfl
  | clearRestartRecord => exact (serveAgent_moves _ _ _ (fun _ _ => .of_lane_eq rfl) s).of_next h rfl

end Sys2Proof.Machine
end

section
/-! PROOFS. What every command keeps of the queues, of the output ports and of the request in service. -/

namespace Sys2Proof.Machine

-- One theorem after the other: the joined text would otherwise ask for a thread per waiting proof.
set_option Elab.async false

/-! ### The arbiter -/

/-- With nothing in transmission, a live port that was served has nothing waiting (R14). -/
theorem serve_workConserving (p : OutPort) : (OutPort.serve true p).workConserving := by
  obtain ⟨transitQ, localQ, servedLast, sending⟩ := p
  intro hs
  cases sending with
  | some f => simp [OutPort.serve] at hs
  | none =>
    cases transitQ <;> cases localQ <;> cases servedLast <;> simp_all [OutPort.serve, OutPort.choice]

/-- The arbiter never adds a frame to the transit queue. -/
theorem serve_transitQ_length (live : Bool) (p : OutPort) :
    (OutPort.serve live p).transitQ.length ≤ p.transitQ.length := by
  unfold OutPort.serve
  split
  · split <;> simp
  · exact Nat.le_refl _

/-! ### QueuesBounded -/

/-- The queues of a lane hold no more than their capacities: `QueuesBounded` of a state is this of its lane. -/
def Lane.Bounded (l : Lane) : Prop :=
  l.fabric.transitQ.length ≤ 64 ∧ l.control.transitQ.length ≤ 64 ∧ l.localIn.length ≤ 16 ∧ l.requests.length ≤ 4 ∧
    l.fabric.localQ.length ≤ 32 ∧ l.control.localQ.length ≤ 8

theorem queuesBounded_iff (s : State) : QueuesBounded s ↔ s.lane.Bounded := Iff.rfl

/-- A port that served after a frame joined its local outbound queue has gained at most that frame. -/
theorem serve_joinLocal_lengths (live : Bool) (p : OutPort) (f : OutFrame) :
    (OutPort.serve live { p with localQ := p.localQ ++ [f] }).transitQ.length ≤ p.transitQ.length ∧
      (OutPort.serve live { p with localQ := p.localQ ++ [f] }).localQ.length ≤ p.localQ.length + 1 :=
  ⟨serve_transitQ_length live _, (serve_keeps_length live _).trans (by simp)⟩

/-- A port that served after a frame joined its transit queue has gained at most that frame. -/
theorem serve_joinTransit_lengths (live : Bool) (p : OutPort) (f : Frame) :
    (OutPort.serve live { p with transitQ := p.transitQ ++ [f] }).transitQ.length ≤ p.transitQ.length + 1 ∧
      (OutPort.serve live { p with transitQ := p.transitQ ++ [f] }).localQ.length ≤ p.localQ.length :=
  ⟨(serve_transitQ_length live _).trans (by simp), serve_keeps_length live _⟩

/-- A port whose transmission ended holds no more than before. -/
theorem endTransmission_lengths (live : Bool) (p : OutPort) :
    (p.endTransmission live).transitQ.length ≤ p.transitQ.length ∧
      (p.endTransmission live).localQ.length ≤ p.localQ.length :=
  ⟨serve_transitQ_length live _, serve_keeps_length live _⟩

theorem laneMove_keeps_bounded (l l' : Lane) (h : LaneMove l l') (hl : l.Bounded) : l'.Bounded := by
  obtain ⟨hft, hct, hin, hrq, hfl, hcl⟩ := hl
  cases h with
  | offer h =>
    cases h with
    | fabric f _ hroom =>
      have hp := serve_joinLocal_lengths l.live l.fabric f
      exact ⟨hp.1.trans hft, hct, hin, hrq, hp.2.trans hroom, hcl⟩
    | control f _ hroom =>
      have hp := serve_joinLocal_lengths l.live l.control f
      exact ⟨hft, hp.1.trans hct, hin, hrq, hfl, hp.2.trans hroom⟩
  | transitToFabric f _ hroom =>
    have hp := serve_joinTransit_lengths l.live l.fabric f
    exact ⟨hp.1.trans hroom, hct, hin, hrq, hp.2.trans hfl, hcl⟩
  | transitToControl f _ hroom =>
    have hp := serve_joinTransit_lengths l.live l.control f
    exact ⟨hft, hp.1.trans hroom, hin, hrq, hfl, hp.2.trans hcl⟩
  | localJoins f _ hroom => exact ⟨hft, hct, by simp; omega, hrq, hfl, hcl⟩
  | localTaken => exact ⟨hft, hct, by simp; omega, hrq, hfl, hcl⟩
  | requestJoins f _ hroom => exact ⟨hft, hct, hin, by simp; omega, hfl, hcl⟩
  | requestTaken => exact ⟨hft, hct, hin, by simp; omega, hfl, hcl⟩
  | fabricEnds =>
    have hp := endTransmission_lengths l.live l.fabric
    exact ⟨hp.1.trans hft, hct, hin, hrq, hp.2.trans hfl, hcl⟩
  | controlEnds =>
    have hp := endTransmission_lengths l.live l.control
    exact ⟨hft, hp.1.trans hct, hin, hrq, hfl, hp.2.trans hcl⟩
  | asserted => exact ⟨hft, hct, hin, hrq, hfl, hcl⟩
  | reset => simp [Lane.Bounded, resetLane, resetPort]
  | restart => simp [Lane.Bounded, Lane.restart, resetPort]

/-! ### ArbitersServe -/

/-- What `ArbitersServe` says of one port: on a live lane it leaves nothing waiting while it is free (R14), and under the
reset line it sends nothing (R16). -/
def OutPort.Serves (live : Bool) (p : OutPort) : Prop := if live then p.workConserving else p.sending = none

/-- `ArbitersServe` of a state is this of its lane. -/
def Lane.Serves (l : Lane) : Prop := l.fabric.Serves l.live ∧ l.control.Serves l.live

theorem arbitersServe_iff (s : State) : ArbitersServe s ↔ s.lane.Serves := by
  unfold ArbitersServe Lane.Serves OutPort.Serves Lane.live
  cases s.lane.resetAsserted <;> rfl

/-- The arbiter leaves its port as it should be, if nothing was sent under the reset line. -/
theorem serves_serve (live : Bool) (p : OutPort) (h : live = false → p.sending = none) :
    (OutPort.serve live p).Serves live := by
  cases live with
  | true => exact serve_workConserving p
  | false => exact h rfl

theorem OutPort.Serves.sending {live : Bool} {p : OutPort} (h : p.Serves live) : live = false → p.sending = none := by
  rintro rfl; exact h

/-- A port with empty queues serves, if nothing is sent under the reset line. -/
theorem serves_of_empty (live : Bool) (p : OutPort) (ht : p.transitQ = []) (hq : p.localQ = [])
    (h : live = false → p.sending = none) : p.Serves live := by
  cases live with
  | true => exact fun _ => ⟨ht, hq⟩
  | false => exact h rfl

theorem laneMove_keeps_serves (l l' : Lane) (h : LaneMove l l') (hl : l.Serves) : l'.Serves := by
  obtain ⟨hf, hc⟩ := hl
  cases h with
  | offer h =>
    cases h with
    | fabric => exact ⟨serves_serve l.live _ hf.sending, hc⟩
    | control => exact ⟨hf, serves_serve l.live _ hc.sending⟩
  | transitToFabric => exact ⟨serves_serve l.live _ hf.sending, hc⟩
  | transitToControl => exact ⟨hf, serves_serve l.live _ hc.sending⟩
  | localJoins | localTaken | requestJoins | requestTaken => exact ⟨hf, hc⟩
  | fabricEnds => exact ⟨serves_serve l.live _ fun _ => rfl, hc⟩
  | controlEnds => exact ⟨hf, serves_serve l.live _ fun _ => rfl⟩
  | asserted => exact ⟨rfl, rfl⟩
  | reset => exact ⟨serves_of_empty _ _ rfl rfl fun _ => rfl, serves_of_empty _ _ rfl rfl fun _ => rfl⟩
  | restart => exact ⟨serves_of_empty _ _ rfl rfl hf.sending, serves_of_empty _ _ rfl rfl fun _ => rfl⟩

/-! ### From commands to steps -/

/-- What every command keeps, and does not read the queue of waiting commands, every step keeps. -/
theorem step_keeps (I : State → Prop) (hexec : ∀ c s t, exec c s = .next t → I s → I t)
    (hpending : ∀ s rest, I s → I { s with pending := rest }) (s t : State) (hs : I s) (h : step s = .next t) : I t := by
  unfold step at h
  split at h
  · exact hexec _ _ t h (hpending s _ hs)
  · exact Host.Outcome.next.inj h ▸ hs

theorem exec_keeps_queuesBounded (c : Instr) (s t : State) (h : exec c s = .next t) (hs : QueuesBounded s) :
    QueuesBounded t := (exec_laneMoves c s t h).keeps Lane.Bounded laneMove_keeps_bounded hs

theorem exec_keeps_arbitersServe (c : Instr) (s t : State) (h : exec c s = .next t) (hs : ArbitersServe s) :
    ArbitersServe t := by
  rw [arbitersServe_iff] at hs ⊢
  exact (exec_laneMoves c s t h).keeps Lane.Serves laneMove_keeps_serves hs

/-! ### HeadRequestKept -/

theorem HeadRequestKept.congr {s t : State} (hs : HeadRequestKept s) (hr : t.lane.requests = s.lane.requests)
    (hp : t.agent.phase = s.agent.phase) : HeadRequestKept t := by
  unfold HeadRequestKept at *
  rw [hr, hp]
  exact hs

/-- A command whose frame names neither the request queue nor the phase keeps the head request. -/
theorem HeadRequestKept.of_frame {c : Instr} {s t : State} (hs : HeadRequestKept s) (h : exec c s = .next t)
    (hd : decide (Part.requests ∉ commandParts c ∧ Part.phase ∉ commandParts c) = true := by rfl) :
    HeadRequestKept t := by
  have hparts := of_decide_eq_true hd
  have hframe := exec_sameBut c s t h
  exact hs.congr (hframe .requests hparts.1) (hframe .phase hparts.2)

/-- With no request in service there is nothing to keep. -/
theorem headRequestKept_of_idle {s : State} (h : s.agent.phase = .ready ∨ s.agent.phase = .restarting) :
    HeadRequestKept s := by
  unfold HeadRequestKept
  rcases h with h | h <;> rw [h] <;> trivial

/-- An answer to a request that stands in the queue is placed, or waits with its request in the queue (R13). -/
theorem placeAnswer_headKept (a : OutFrame) (s : State) (hr : s.lane.requests ≠ []) :
    HeadRequestKept (placeAnswer a s) := by
  have h := placeAnswer_cases a s
  split at h
  · obtain ⟨-, -, hphase, -⟩ := h
    refine headRequestKept_of_idle ?_
    rw [hphase]
    cases a.isRestartAnswer <;> simp
  · obtain ⟨hphase, hframe⟩ := h
    unfold HeadRequestKept
    have hq : (placeAnswer a s).lane.requests = s.lane.requests := hframe .requests (by decide)
    rw [hphase, hq]
    exact hr

theorem serveAgent_headKept (row : Instr) (check : Request → State → Option RefusalAnswer)
    (run : Request → State → Served) (hrun : ∀ r t, LaneOffers t (run r t).state) (s : State) (hs : HeadRequestKept s) :
    HeadRequestKept (serveAgent row check run s) := by
  unfold serveAgent
  split
  · rename_i f rest _ hq
    have hne : s.lane.requests ≠ [] := by rw [hq]; simp
    split
    · split
      · exact hs
      · split
        · exact placeAnswer_headKept _ s hne
        · exact placeAnswer_headKept _ _ ((hrun _ s).keeps.2.2 ▸ hne)
    · exact hs
  · exact hs

/-- A request that waits at the engine has passed the checks of its row, which are those of the shelf writes for theirs
(R164, R166). -/
def ChecksWrites (row : Instr) (check : Request → State → Option RefusalAnswer) : Prop :=
  ∀ r s, check r s = none →
    (row = .writeShelf → checkWriteShelf r = none) ∧ (row = .writeListEntry → checkWriteListEntry r = none)

theorem runOperation_headKept (run : Request → State → Served) (r : Request)
    (hrun : ∀ t, LaneOffers t (run r t).state) (s : State) (hne : s.lane.requests ≠ []) :
    HeadRequestKept (runOperation run r s) := by
  refine placeAnswer_headKept _ _ ?_
  rw [(hrun _).keeps.2.2]
  exact hne

theorem serveEngine_headKept (row : Instr) (check : Request → State → Option RefusalAnswer)
    (run : Request → State → Served) (hcheck : ChecksWrites row check) (hrun : ∀ r t, LaneOffers t (run r t).state)
    (s : State) (hs : HeadRequestKept s) : HeadRequestKept (serveEngine row check run s) := by
  unfold serveEngine
  split
  · exact hs
  · rename_i f rest hq
    have hne : s.lane.requests ≠ [] := by rw [hq]; simp
    by_cases hrow : requestRow f = row
    · rw [if_pos hrow]
      split
      · rename_i r hreq hphase
        cases hc : check r s with
        | some q => exact placeAnswer_headKept _ s hne
        | none =>
          dsimp only
          split
          · exact runOperation_headKept run r (hrun r) s hne
          · obtain ⟨hshelf, hlist⟩ := hcheck r s hc
            exact ⟨f, rest, r, hq, hreq, fun h => hshelf (hrow.symm.trans h), fun h => hlist (hrow.symm.trans h)⟩
      · split
        · exact runOperation_headKept run _ (hrun _) s hne
        · exact hs
      · exact hs
    · rw [if_neg hrow]; exact hs

theorem guarded_none {bank : Fin 5} {c : Option Status} {r : Request} {s : State} (h : guarded bank c r s = none) :
    c = none := by
  cases c with
  | none => rfl
  | some st => cases h

/-- The checks of a row that writes no shelf and no list entry. -/
theorem checksWrites_of_ne {row : Instr} (check : Request → State → Option RefusalAnswer) (hs : row ≠ .writeShelf)
    (hl : row ≠ .writeListEntry) : ChecksWrites row check := fun _ _ _ => ⟨fun h => absurd h hs, fun h => absurd h hl⟩

/-- A received request joins behind the head. -/
theorem joinRequests_headKept (f : Frame) (s : State) (hs : HeadRequestKept s) : HeadRequestKept (joinRequests f s) := by
  rw [joinRequests_eq]
  split
  · unfold HeadRequestKept at *
    dsimp only [State.setLane_lane, State.setLane_agent]
    split
    · trivial
    · trivial
    · simp
    · rename_i hphase
      rw [hphase] at hs
      obtain ⟨g, rest, r, hq, hok⟩ := hs
      exact ⟨g, rest ++ [f], r, by rw [hq]; rfl, hok⟩
  · exact hs.congr (raiseEdge_sameBut _ s .requests (by decide)) (raiseEdge_sameBut _ s .phase (by decide))

theorem receiveFrame_headKept (port : LanePort) (f : Frame) (b : Bool) (s : State) (hs : HeadRequestKept s) :
    HeadRequestKept (receiveFrame port f b s) := by
  have hkept : ∀ {ps : List Part} {t : State}, sameBut ps s t → Part.requests ∉ ps → Part.phase ∉ ps →
      HeadRequestKept t := fun h hr hp => hs.congr (h .requests hr) (h .phase hp)
  unfold receiveFrame
  split
  · exact hs
  · split
    · split
      · exact hkept (joinLocal_sameBut f s) (by decide) (by decide)
      · exact joinRequests_headKept f s hs
      · cases port with
        | fabric => exact hkept (joinToControl_sameBut f s) (by decide) (by decide)
        | control => exact hkept (joinToFabric_sameBut f s) (by decide) (by decide)
      · exact hs
    · exact hs

/-- After the blocks have their restart values, only the HOLD Directives are made (R130). -/
theorem deviceRestart_directs (s : State) :
    sameBut [.slices, .fabric] (restartEvents (regradeSilently (restartBlocks s))) (deviceRestart s) := by
  unfold deviceRestart
  exact overShelves_sameBut _ (fun k t => (sameBut.refl _ t).ite (newDirective_sameBut k .hold t)) _

theorem deviceRestart_phase (s : State) : (deviceRestart s).agent.phase = .ready :=
  deviceRestart_directs s .phase (by decide)

/-- The end of a transmission is the restart, or changes the output ports only (R14, R17). -/
theorem endTransmission_cases (port : LanePort) (s : State) :
    endTransmission port s = deviceRestart s ∨
      ∃ l, l.requests = s.lane.requests ∧ endTransmission port s = s.setLane l := by
  cases port with
  | fabric =>
    unfold endTransmission
    dsimp only
    split
    · exact .inr ⟨_, by rfl, rfl⟩
    · exact .inr ⟨s.lane, rfl, rfl⟩
  | control =>
    unfold endTransmission
    dsimp only
    split
    · exact .inl rfl
    · split
      · exact .inr ⟨_, by rfl, rfl⟩
      · exact .inr ⟨s.lane, rfl, rfl⟩

/-- DEVICE_RESTART is the restart, or nothing (R17). -/
theorem endRestartAnswer_cases (s : State) :
    endRestartAnswer s = deviceRestart s ∨ ∃ l, l.requests = s.lane.requests ∧ endRestartAnswer s = s.setLane l := by
  unfold endRestartAnswer
  split
  · exact .inl rfl
  · exact .inr ⟨s.lane, rfl, rfl⟩

theorem placeWaiting_headKept (s : State) (hs : HeadRequestKept s) : HeadRequestKept (placeWaiting s) := by
  unfold placeWaiting
  split
  · rename_i a hphase
    unfold HeadRequestKept at hs
    rw [hphase] at hs
    exact placeAnswer_headKept a s hs
  · exact hs

theorem dropShortRequest_headKept (s : State) (hs : HeadRequestKept s) : HeadRequestKept (dropShortRequest s) := by
  unfold dropShortRequest
  split
  · split
    · exact headRequestKept_of_idle (.inl rfl)
    · exact hs
  · exact hs

theorem serveRestart_headKept (s : State) (hs : HeadRequestKept s) : HeadRequestKept (serveRestart s) := by
  unfold serveRestart
  split
  · rename_i f rest _ hq
    have hne : s.lane.requests ≠ [] := by rw [hq]; simp
    split
    · split
      · exact hs
      · split
        · exact placeAnswer_headKept _ s hne
        · exact placeAnswer_headKept _ s hne
    · exact hs
  · exact hs

/-- The state that a command answers with. -/
theorem exec_eq_of_next {c : Instr} {s t u : State} (h : exec c s = .next t) (hu : exec c s = .next u) : t = u :=
  Host.Outcome.next.inj (h.symm.trans hu)

/-- After the restart, or after a change of the output ports only, the head request is kept. -/
theorem HeadRequestKept.of_restart {s t : State} (hs : HeadRequestKept s)
    (h : t = deviceRestart s ∨ ∃ l, l.requests = s.lane.requests ∧ t = s.setLane l) : HeadRequestKept t := by
  rcases h with h | ⟨l, hl, rfl⟩
  · exact headRequestKept_of_idle (.inl (h ▸ deviceRestart_phase s))
  · exact hs.congr hl rfl

theorem HeadRequestKept.of_next {c : Instr} {s t u : State} (hu : HeadRequestKept u) (h : exec c s = .next t)
    (he : exec c s = .next u) : HeadRequestKept t := exec_eq_of_next h he ▸ hu

theorem exec_keeps_headRequest (c : Instr) (s t : State) (h : exec c s = .next t) (hs : HeadRequestKept s) :
    HeadRequestKept t := by
  have agent : ∀ {row check run}, exec c s = .next (serveAgent row check run s) →
      (∀ r t, LaneOffers t (Served.state (run r t))) → HeadRequestKept t := fun he hrun =>
    (serveAgent_headKept _ _ _ hrun s hs).of_next h he
  have engine : ∀ {row check run}, exec c s = .next (serveEngine row check run s) → ChecksWrites row check →
      (∀ r t, LaneOffers t (Served.state (run r t))) → HeadRequestKept t := fun he hcheck hrun =>
    (serveEngine_headKept _ _ _ hcheck hrun s hs).of_next h he
  cases c with
  | powerOn a => exact (headRequestKept_of_idle (.inl rfl)).of_next h rfl
  | resetLineReleased a =>
    rw [exec_eq_of_next (u := releaseReset a s) h rfl]
    unfold releaseReset
    split
    · exact headRequestKept_of_idle (.inl rfl)
    · exact hs
  | frameReceived port f b => exact (receiveFrame_headKept port f b s hs).of_next h rfl
  | transmissionEnd port =>
    refine hs.of_restart ?_
    rw [exec_eq_of_next (u := endTransmission port s) h rfl]
    exact endTransmission_cases port s
  | deviceRestart =>
    refine hs.of_restart ?_
    rw [exec_eq_of_next (u := endRestartAnswer s) h rfl]
    exact endRestartAnswer_cases s
  | resetLineAsserted | receivedGradeNotice | lockReport | tick | tickLoss | healthReport | lockFailedRemoval
  | holdOffExpiry | wtrExpiry | noticeTimerExpiry | tripleHandover | targetGradeHandover | noticeUnitHandover
  | periodicTimerExpiry | budgetWindowStart | evaluation | lockTimerExpiry | settleTimerExpiry | reportTimerExpiry
  | holdoverBudgetExhausted | spacingTimerExpiry | summaryTimerExpiry => exact hs.of_frame h
  | answerPlaced => exact (placeWaiting_headKept s hs).of_next h rfl
  | requestTooShort => exact (dropShortRequest_headKept s hs).of_next h rfl
  | unknownKind | identify | readTable | readStatusCandidate | readStatusShelf | readStatusPort =>
    exact agent rfl (fun _ t => .refl t)
  | writeCandidate => exact agent rfl (fun _ t => writeCandidate_offers _ _ _ _ t)
  | writeListEntry => exact engine rfl (fun _ _ hc => ⟨nofun, fun _ => guarded_none hc⟩) runWriteListEntry_offers
  | writeShelf => exact engine rfl (fun _ _ hc => ⟨fun _ => guarded_none hc, nofun⟩) runWriteShelf_offers
  | writePorts => exact agent rfl runWritePorts_offers
  | writeReceiveMap => exact agent rfl runWriteReceiveMap_offers
  | writeTransmitMap => exact agent rfl runWriteTransmitMap_offers
  | detachReceiveMap => exact agent rfl (fun _ t => .of_sameBut (detachReceive_spec _ t).2.2)
  | attachReceiveMap => exact agent rfl (fun _ t => attachReceive_offers _ t)
  | detachTransmitMap => exact agent rfl (fun _ _ => .of_lane_eq rfl)
  | attachTransmitMap => exact agent rfl (fun _ t => attachTransmit_offers _ t)
  | writeNode => exact agent rfl (fun _ t => writeNode_offers _ t)
  | take => exact agent rfl runTake_offers
  | release => exact agent rfl (fun _ _ => .of_lane_eq rfl)
  | commandHold | commandForce | commandManual =>
    exact engine rfl (checksWrites_of_ne _ nofun nofun) (runCommand_offers _)
  | commandClear =>
    exact engine rfl (checksWrites_of_ne _ nofun nofun)
      (runUnranked_offers _ fun _ t => .of_sameBut (setCommand_spec _ _ t).2.2)
  | commandLockout =>
    exact engine rfl (checksWrites_of_ne _ nofun nofun) (runUnranked_offers _ fun _ t => setLockout_offers _ _ _ t)
  | park => exact engine rfl (checksWrites_of_ne _ nofun nofun) (runMasked_offers _ parkBoth_offers)
  | unpark => exact engine rfl (checksWrites_of_ne _ nofun nofun) (runMasked_offers _ unparkSlice_offers)
  | sliceReset => exact engine rfl (checksWrites_of_ne _ nofun nofun) (runMasked_offers _ resetBoth_offers)
  | clearMarks =>
    exact engine rfl (checksWrites_of_ne _ nofun nofun)
      (runMasked_offers _ fun k t => .of_sameBut (clearMarks_spec k t).2.2)
  | ackEvents => exact agent rfl (fun _ _ => .of_lane_eq rfl)
  | restart => exact (serveRestart_headKept s hs).of_next h rfl
  | clearRestartRecord => exact agent rfl (fun _ _ => .of_lane_eq rfl)

end Sys2Proof.Machine
end

section
/-! PROOFS. What every command keeps of the transmit ports; and the settled statements O52 and O53. -/

namespace Sys2Proof.Machine

-- One theorem after the other: the joined text would otherwise ask for a thread per waiting proof.
set_option Elab.async false

/-! ### TransmitPortsOk -/

/-- The dynamic state of a transmit port by itself: the periodic timer runs exactly in use (R143), at most 3 EVENT notices
(R144), and nothing held out of use (R148). -/
def TxPort.Legal (t : TxPort) : Prop :=
  t.periodic.isSome = t.inUse ∧ t.count ≤ 3 ∧
    (t.inUse = false → t.lastSent = none ∧ t.heldCode = none ∧ t.count = 0 ∧ t.changePending = false)

/-- What `TransmitPortsOk` says of one port: the copies are the port table's (R138), and the dynamic state is legal. -/
def PortAgrees (r : RxPort) (t : TxPort) : Prop := t.inUse = r.inUse ∧ t.bound = r.bound ∧ t.Legal

theorem transmitPortsOk_iff (s : State) :
    TransmitPortsOk s ↔ ∀ p : PortId, PortAgrees s.rxPorts[p] s.txPorts[p] := Iff.rfl

/-- A port in use is legal with its periodic timer running and its count in the budget. -/
theorem TxPort.legal_of_inUse {t : TxPort} (hu : t.inUse = true) (hp : t.periodic.isSome = true) (hc : t.count ≤ 3) :
    t.Legal := ⟨hp.trans hu.symm, hc, fun h => absurd (hu.symm.trans h) Bool.noConfusion⟩

/-- A cleared port is legal with its periodic timer running exactly in use (R148, R151). -/
theorem TxPort.clear_legal (t : TxPort) (periodic : Timer) (h : periodic.isSome = t.inUse) :
    (t.clear periodic).Legal := ⟨h, Nat.zero_le 3, fun _ => ⟨rfl, rfl, rfl, rfl⟩⟩

/-- A notice that was offered adds at most one to the count, and only an EVENT notice does (R141, R143). -/
theorem TxPort.afterOffer_keeps (ty : NoticeType) (c : Content) (taken : Bool) (t : TxPort) :
    (t.afterOffer ty c taken).inUse = t.inUse ∧ (t.afterOffer ty c taken).bound = t.bound ∧
      (t.afterOffer ty c taken).periodic = t.periodic ∧
      (t.afterOffer ty c taken).count ≤ if ty = .event then t.count + 1 else t.count := by
  cases taken
  · refine ⟨rfl, rfl, rfl, ?_⟩
    show t.count ≤ _
    split <;> omega
  · exact ⟨rfl, rfl, rfl, Nat.le_refl _⟩

/-- A port in use stays legal when its content is compared: an EVENT notice is sent only below the budget (R141, R144). -/
theorem recomputePort_legal (p : PortId) (s : State) (hu : s.txPorts[p].inUse = true) (hl : s.txPorts[p].Legal) :
    (recomputePort p s).txPorts[p].Legal := by
  obtain ⟨hperiodic, hcount, -⟩ := hl
  rw [hu] at hperiodic
  rw [recomputePort_at, if_pos rfl]
  split
  · exact TxPort.legal_of_inUse hu hperiodic hcount
  · split
    · rename_i hbudget
      obtain ⟨hu', -, hp', hc'⟩ := TxPort.afterOffer_keeps .event (portContent s p)
        (decide (s.lane.fabric.localQ.length < 32)) { s.txPorts[p] with heldCode := portHeld s p }
      exact TxPort.legal_of_inUse (hu'.trans hu) (hp' ▸ hperiodic) (hc'.trans hbudget)
    · exact TxPort.legal_of_inUse hu hperiodic hcount

/-- Work at one port keeps the ports when it leaves the port table and the other ports alone and this port agrees. -/
theorem TransmitPortsOk.at_port {s t : State} (hs : TransmitPortsOk s) (p : PortId) (hrx : t.rxPorts = s.rxPorts)
    (hother : ∀ q, p ≠ q → t.txPorts[q] = s.txPorts[q]) (hp : PortAgrees s.rxPorts[p] t.txPorts[p]) :
    TransmitPortsOk t := by
  rw [transmitPortsOk_iff] at hs ⊢
  intro q
  rw [hrx]
  by_cases hq : p = q
  · exact hq ▸ hp
  · exact hother q hq ▸ hs q

theorem TransmitPortsOk.congr {s t : State} (hs : TransmitPortsOk s) (hrx : t.rxPorts = s.rxPorts)
    (htx : t.txPorts = s.txPorts) : TransmitPortsOk t := by
  unfold TransmitPortsOk at *
  rw [hrx, htx]
  exact hs

/-- A record stored at a port that agrees with the port table. -/
theorem TransmitPortsOk.setTx {s : State} (hs : TransmitPortsOk s) (p : PortId) (x : TxPort)
    (hx : PortAgrees s.rxPorts[p] x) : TransmitPortsOk (s.setTx p x) := by
  refine hs.at_port p rfl (fun q hq => ?_) ?_
  · rw [State.setTx_txPorts_at, if_neg hq]
  · rw [State.setTx_txPorts_at, if_pos rfl]; exact hx

theorem recomputePort_portsOk (p : PortId) (s : State) (hu : s.txPorts[p].inUse = true) (hs : TransmitPortsOk s) :
    TransmitPortsOk (recomputePort p s) := by
  obtain ⟨huse, hbound, hlegal⟩ := hs p
  have hset := recomputePort_settings p s
  refine hs.at_port p (recomputePort_sameBut p s .rxPorts (by decide)) (fun q hq => ?_) ?_
  · rw [recomputePort_at, if_neg hq]
  · exact ⟨hset.1.trans huse, hset.2.1.trans hbound, recomputePort_legal p s hu hlegal⟩

/-- A comparison of the ports in use that a test picks. -/
theorem overPorts_recompute_portsOk (c : PortId → State → Bool) (s : State) (hs : TransmitPortsOk s)
    (hc : ∀ p t, c p t = true → t.txPorts[p].inUse = true) :
    TransmitPortsOk (overPorts (fun p t => if c p t then recomputePort p t else t) s) := by
  refine foldl_keeps _ TransmitPortsOk (fun p t ht => ?_) _ s hs
  split
  · exact recomputePort_portsOk p t (hc p t (by assumption)) ht
  · exact ht

theorem takeNoticeCopy_portsOk (k : ShelfId) (s : State) (hs : TransmitPortsOk s) :
    TransmitPortsOk (takeNoticeCopy k s) := by
  unfold takeNoticeCopy
  split
  · exact hs
  · exact overPorts_recompute_portsOk (fun p t => decide (portShelf p = k) && t.txPorts[p].inUse) _
      (hs.congr rfl rfl) fun p t h => (Bool.and_eq_true_iff.1 h).2

theorem attachTransmit_portsOk (m : MapId) (s : State) (hs : TransmitPortsOk s) : TransmitPortsOk (attachTransmit m s) := by
  unfold attachTransmit
  split
  · exact hs
  · exact overPorts_recompute_portsOk (fun p t => t.txPorts[p].inUse && decide (t.txPorts[p].tmap = m)) _
      (hs.congr rfl rfl) fun p t h => (Bool.and_eq_true_iff.1 h).1

theorem startWindow_portsOk (p : PortId) (s : State) (hu : s.txPorts[p].inUse = true) (hs : TransmitPortsOk s) :
    TransmitPortsOk (startWindow p s) := by
  obtain ⟨huse, hbound, hperiodic, -, -⟩ := hs p
  have hset : TransmitPortsOk (s.setTx p { s.txPorts[p] with count := 0 }) :=
    hs.setTx p _ ⟨huse, hbound, TxPort.legal_of_inUse hu (hperiodic.trans hu) (Nat.zero_le 3)⟩
  unfold startWindow
  dsimp only
  split
  · exact recomputePort_portsOk p _ (by rw [State.setTx_txPorts_at, if_pos rfl]; exact hu) hset
  · exact hset

theorem startBudgetWindow_portsOk (s : State) (hs : TransmitPortsOk s) : TransmitPortsOk (startBudgetWindow s) := by
  refine foldl_keeps _ TransmitPortsOk (fun p t ht => ?_) _ _ (hs.congr rfl rfl)
  split
  · exact startWindow_portsOk p t (by assumption) ht
  · exact ht

theorem offerNotice_periodic_portsOk (p : PortId) (c : Content) (s : State) (hu : s.txPorts[p].inUse = true)
    (hs : TransmitPortsOk s) : TransmitPortsOk (offerNotice p .periodic c s) := by
  obtain ⟨huse, hbound, hperiodic, hcount, -⟩ := hs p
  obtain ⟨hu', hb', hp', hc'⟩ := TxPort.afterOffer_keeps .periodic c (decide (s.lane.fabric.localQ.length < 32))
    s.txPorts[p]
  refine hs.at_port p (offerNotice_sameBut p .periodic c s .rxPorts (by decide)) (fun q hq => ?_) ?_
  · rw [offerNotice_at, if_neg hq]
  · rw [offerNotice_at, if_pos rfl]
    exact ⟨hu'.trans huse, hb'.trans hbound,
      TxPort.legal_of_inUse (hu'.trans hu) (hp' ▸ hperiodic.trans hu) (hc'.trans hcount)⟩

theorem expirePeriodic_portsOk (p : PortId) (s : State) (hs : TransmitPortsOk s) : TransmitPortsOk (expirePeriodic p s) := by
  unfold expirePeriodic
  split
  · exact hs
  · rename_i due hdue
    obtain ⟨huse, hbound, hperiodic, hcount, -⟩ := hs p
    have hu : s.txPorts[p].inUse = true := by rw [← hperiodic, hdue]; rfl
    refine offerNotice_periodic_portsOk p _ _ (by rw [State.setTx_txPorts_at, if_pos rfl]; exact hu) ?_
    exact TransmitPortsOk.setTx (s := s.advanceTo due) (hs.congr rfl rfl) p _
      ⟨huse, hbound, TxPort.legal_of_inUse hu rfl hcount⟩

/-! A WRITE_PORTS stores the receive halves first; until its transmit half is written, a port of the block is legal but may
disagree with the port table. -/

theorem writeTransmitHalf_agrees (p : PortId) (w : TxWrite) (s : State) (hl : s.txPorts[p].Legal) :
    PortAgrees s.rxPorts[p] (writeTransmitHalf p w s).txPorts[p] := by
  obtain ⟨-, huse, hbound, -⟩ := writeTransmitHalf_spec p w s
  refine ⟨huse, hbound, ?_⟩
  have hrecompute : ∀ x : TxPort, x.inUse = true → x.Legal → (recomputePort p (s.setTx p x)).txPorts[p].Legal := by
    intro x hu hx
    refine recomputePort_legal p _ ?_ ?_ <;> rw [State.setTx_txPorts_at, if_pos rfl] <;> assumption
  have hset : ∀ x : TxPort, x.Legal → (s.setTx p x).txPorts[p].Legal := by
    intro x hx
    rw [State.setTx_txPorts_at, if_pos rfl]; exact hx
  unfold writeTransmitHalf
  dsimp only
  split <;> rename_i hold hnew
  · exact hrecompute _ hnew (TxPort.clear_legal _ _ hnew.symm)
  · exact hset _ (TxPort.clear_legal _ _ hnew.symm)
  · obtain ⟨hperiodic, hcount, -⟩ := hl
    exact hrecompute _ hnew (TxPort.legal_of_inUse hnew (hperiodic.trans hold) hcount)
  · obtain ⟨hperiodic, hcount, hclear⟩ := hl
    exact hset _ ⟨hperiodic.trans (hold.trans hnew.symm), hcount, fun _ => hclear hold⟩

theorem applyPorts_portsOk (b : List Byte) (s : State) (hs : TransmitPortsOk s) : TransmitPortsOk (applyPorts b s) := by
  obtain ⟨v, hv⟩ : ∃ v, v = writeReceiveHalves (writtenPorts b s.rxPorts) s := ⟨_, rfl⟩
  obtain ⟨hrx, -, hframe⟩ := writeReceiveHalves_spec _ s v hv
  have htx : v.txPorts = s.txPorts := hframe .txPorts (by decide)
  have hrun : applyPorts b s =
      overPorts (fun p t => if inBlock b p then writeTransmitHalf p (txOf (entryFor b p)) t else t) v := by rw [hv]; rfl
  rw [transmitPortsOk_iff, (applyPorts_spec b s).1, ← hrx, hrun]
  refine overPorts_at _ (fun p t => t.txPorts[p]) (fun t => t.rxPorts = v.rxPorts)
    (fun p t => PortAgrees v.rxPorts[p] t.txPorts[p]) v ?_ ?_ ?_ ?_ rfl
  · intro p t ht
    split
    · exact (writeTransmitHalf_sameBut p _ t .rxPorts (by decide)).trans ht
    · exact ht
  · intro p q t _ hpq
    split
    · exact (writeTransmitHalf_spec p _ t).1 q (Ne.symm hpq)
    · rfl
  · intro p t ht hget
    obtain ⟨huse, hbound, hlegal⟩ := hs p
    rw [← htx, ← hget] at huse hbound hlegal
    split
    · have hwritten := writeTransmitHalf_agrees p (txOf (entryFor b p)) t hlegal
      rwa [ht] at hwritten
    · rename_i hblock
      have hkept : v.rxPorts[p] = s.rxPorts[p] := by
        rw [hrx]
        simp only [writtenPorts, Fin.getElem_fin, Vector.getElem_ofFn]
        exact if_neg hblock
      rw [hkept]
      exact ⟨huse, hbound, hlegal⟩
  · intro p q t _ hpq hq
    split
    · rw [(writeTransmitHalf_spec p _ t).1 q (Ne.symm hpq)]
      exact hq
    · exact hq

/-- An answer leaves the ports as they are. -/
theorem TransmitPortsOk.answer {r : Request} {o : Served} (h : TransmitPortsOk o.state) : TransmitPortsOk (answer r o) :=
  h.congr (answer_sameBut r o .rxPorts (by decide)) (answer_sameBut r o .txPorts (by decide))

theorem serveAgent_portsOk (row : Instr) (check : Request → State → Option RefusalAnswer)
    (run : Request → State → Served) (hrun : ∀ r t, TransmitPortsOk t → TransmitPortsOk (run r t).state) (s : State)
    (hs : TransmitPortsOk s) : TransmitPortsOk (serveAgent row check run s) := by
  unfold serveAgent
  split
  · split
    · split
      · exact hs
      · split
        · exact TransmitPortsOk.answer hs
        · exact TransmitPortsOk.answer (hrun _ s hs)
    · exact hs
  · exact hs

theorem runWritePorts_portsOk (r : Request) (s : State) (hs : TransmitPortsOk s) :
    TransmitPortsOk (runWritePorts r s).state := by
  by_cases h : (boundSlots (writtenPorts r.body s.rxPorts)).Nodup
  · have hrun : (runWritePorts r s).state = applyPorts r.body s := by unfold runWritePorts; rw [if_pos h]
    rw [hrun]; exact applyPorts_portsOk r.body s hs
  · have hrun : (runWritePorts r s).state = s := by unfold runWritePorts; rw [if_neg h]
    rw [hrun]; exact hs

/-- At power-on and when the reset line is released every port is out of use (R53, R150). -/
theorem powerOn_portsOk (now : Nat) (strap : Address) (asserted : Bool) (record : RestartRecord) (pending : List Instr) :
    TransmitPortsOk (State.powerOn now strap asserted record pending) := by
  rw [transmitPortsOk_iff]
  intro p
  simp only [State.powerOn, Fin.getElem_fin, Vector.getElem_replicate]
  exact ⟨rfl, rfl, rfl, Nat.zero_le 3, fun _ => ⟨rfl, rfl, rfl, rfl⟩⟩

/-- The restart clears the dynamic state of every port (R151). -/
theorem deviceRestart_ports (s : State) : (deviceRestart s).rxPorts = s.rxPorts ∧
    (deviceRestart s).txPorts = s.txPorts.map (TxPort.restart s.osc) :=
  ⟨deviceRestart_directs s .rxPorts (by decide), deviceRestart_directs s .txPorts (by decide)⟩

theorem deviceRestart_portsOk (s t : State) (ht : t = deviceRestart s) (hs : TransmitPortsOk s) : TransmitPortsOk t := by
  obtain ⟨hrx, htx⟩ := deviceRestart_ports s
  rw [← ht] at hrx htx
  rw [transmitPortsOk_iff]
  intro p
  obtain ⟨huse, hbound, -⟩ := hs p
  rw [hrx, htx, Fin.getElem_fin, Fin.getElem_fin, Vector.getElem_map]
  refine ⟨huse, hbound, TxPort.clear_legal _ _ ?_⟩
  split <;> rename_i h
  · exact h.symm
  · exact (Bool.eq_false_iff.2 h).symm

/-- A command whose frame names no half of the port table keeps the ports. -/
theorem TransmitPortsOk.of_frame {c : Instr} {s t : State} (hs : TransmitPortsOk s) (h : exec c s = .next t)
    (hd : decide (Part.rxPorts ∉ commandParts c ∧ Part.txPorts ∉ commandParts c) = true := by rfl) :
    TransmitPortsOk t := by
  have hparts := of_decide_eq_true hd
  have hframe := exec_sameBut c s t h
  exact hs.congr (hframe .rxPorts hparts.1) (hframe .txPorts hparts.2)

theorem TransmitPortsOk.of_next {c : Instr} {s t u : State} (hu : TransmitPortsOk u) (h : exec c s = .next t)
    (he : exec c s = .next u) : TransmitPortsOk t := exec_eq_of_next h he ▸ hu

/-- After the restart, or after a change of the output ports only, the ports are kept. -/
theorem TransmitPortsOk.of_restart {s t : State} (hs : TransmitPortsOk s)
    (h : t = deviceRestart s ∨ ∃ l, l.requests = s.lane.requests ∧ t = s.setLane l) : TransmitPortsOk t := by
  rcases h with h | ⟨l, -, rfl⟩
  · exact deviceRestart_portsOk s t h hs
  · exact hs.congr rfl rfl

theorem exec_keeps_transmitPorts (c : Instr) (s t : State) (h : exec c s = .next t) (hs : TransmitPortsOk s) :
    TransmitPortsOk t := by
  cases c with
  | powerOn a => exact TransmitPortsOk.of_next (powerOn_portsOk _ _ _ _ _) h rfl
  | resetLineReleased a =>
    rw [exec_eq_of_next (u := releaseReset a s) h rfl]
    unfold releaseReset
    split
    · exact powerOn_portsOk _ _ _ _ _
    · exact hs
  | transmissionEnd port =>
    refine hs.of_restart ?_
    rw [exec_eq_of_next (u := endTransmission port s) h rfl]
    exact endTransmission_cases port s
  | deviceRestart =>
    refine hs.of_restart ?_
    rw [exec_eq_of_next (u := endRestartAnswer s) h rfl]
    exact endRestartAnswer_cases s
  | noticeUnitHandover k => exact (takeNoticeCopy_portsOk k s hs).of_next h rfl
  | periodicTimerExpiry p => exact (expirePeriodic_portsOk p s hs).of_next h rfl
  | budgetWindowStart => exact (startBudgetWindow_portsOk s hs).of_next h rfl
  | writePorts => exact (serveAgent_portsOk _ _ _ runWritePorts_portsOk s hs).of_next h rfl
  | attachTransmitMap =>
    exact (serveAgent_portsOk _ _ _ (fun _ t => attachTransmit_portsOk _ t) s hs).of_next h rfl
  | _ => exact hs.of_frame h

/-! ### The settled statements -/

/-- Settles O52, by the lane's moves for the queues, and by the commands that change a port or the head request for the
others. -/
theorem stepKeepsQueuesBounded : Obligations.StepKeepsQueuesBounded :=
  ⟨step_keeps QueuesBounded exec_keeps_queuesBounded fun _ _ h => h,
    step_keeps TransmitPortsOk exec_keeps_transmitPorts fun _ _ h => h,
    step_keeps HeadRequestKept exec_keeps_headRequest fun _ _ h => h⟩

/-- Settles O53: every move of the lane ends with the arbiter's choice, or with nothing that waits. -/
theorem stepKeepsArbitersServing : Obligations.StepKeepsArbitersServing :=
  step_keeps ArbitersServe exec_keeps_arbitersServe fun _ _ h => h

end Sys2Proof.Machine
end

section
/-! PROOFS. The step, power-on and the reset line, the frames on the lane, and the answers that wait (O1, O3, O6, O8, O9, O10,
O34). -/

namespace Sys2Proof.Machine

-- One theorem after the other: the joined text would otherwise ask for a thread per waiting proof.
set_option Elab.async false

/-! ### The step, power-on and the reset line -/

/-- Settles O1: it is the step's definition. -/
theorem stepTakesFrontCommand : Obligations.StepTakesFrontCommand := by
  refine ⟨fun c rest s h => ?_, fun s h => ?_⟩ <;> unfold step <;> rw [h]

/-- The power-on state starts the Lane Interface and the agent (R16, R167, R182). -/
theorem powerOn_starts (now : Nat) (a : Address) (asserted : Bool) (record : RestartRecord) (pending : List Instr) :
    startsLaneAndAgent a (State.powerOn now a asserted record pending) := by
  refine ⟨rfl, rfl, rfl, rfl, rfl, fun b => ?_, rfl⟩
  simp only [State.powerOn, resetAgent, Fin.getElem_fin, Vector.getElem_replicate]

/-- Settles O3: both commands end in the power-on state, under the straps, the level and the record that each gives. -/
theorem powerUpStartsLaneAndAgent : Obligations.PowerUpStartsLaneAndAgent := by
  intro a s
  refine ⟨⟨powerUp a s, rfl, powerOn_starts _ _ _ _ _, rfl, rfl, rfl, rfl⟩, fun h => ?_⟩
  refine ⟨State.powerOn s.osc a false { s.agent.record with resetLine := true } s.pending, ?_, powerOn_starts _ _ _ _ _,
    rfl, rfl, rfl, rfl⟩
  have hrun : releaseReset a s = State.powerOn s.osc a false { s.agent.record with resetLine := true } s.pending :=
    if_pos h
  exact congrArg Host.Outcome.next hrun

/-- Settles O6, by the frame of the assertion. -/
theorem resetAssertStopsLane : Obligations.ResetAssertStopsLane := fun s =>
  ⟨assertReset s, rfl, rfl, rfl, rfl, assertReset_sameBut s⟩

/-! ### The output arbiter -/

/-- The arbiter's choice on a live port whose transmission ends: nothing, the transit queue's head or the local outbound
queue's head (R14). -/
theorem endTransmission_choice (p : OutPort) :
    (p.transitQ = [] → p.localQ = [] → p.endTransmission true = { p with sending := none }) ∧
      (∀ f q, p.transitQ = f :: q → p.localQ = [] ∨ p.servedLast = .localQ →
        p.endTransmission true = { p with transitQ := q, sending := some ⟨f, false⟩, servedLast := .transit }) ∧
      (∀ f q, p.localQ = f :: q → p.transitQ = [] ∨ p.servedLast = .transit →
        p.endTransmission true = { p with localQ := q, sending := some f, servedLast := .localQ }) := by
  obtain ⟨transitQ, localQ, servedLast, sending⟩ := p
  refine ⟨?_, ?_, ?_⟩
  · rintro rfl rfl; rfl
  · rintro f q rfl (rfl | rfl)
    · rfl
    · cases localQ <;> rfl
  · rintro f q rfl (rfl | rfl)
    · rfl
    · cases transitQ <;> rfl

/-- Settles O10: the end of a transmission is the arbiter's choice on that port alone. -/
theorem arbiterAlternates : Obligations.ArbiterAlternates := by
  intro s g hr
  have hlive : s.lane.live = true := by simp [Lane.live, hr]
  refine ⟨fun hs => ?_, fun hs hg => ?_⟩
  · have hrun : endTransmission .fabric s =
        s.setLane { s.lane with fabric := s.lane.fabric.endTransmission s.lane.live } := by
      unfold endTransmission; simp [hs]
    refine ⟨_, congrArg Host.Outcome.next hrun, ?_, ?_⟩
    · intro p hp; cases p <;> simp_all [Part.same]
    · rw [hlive]; exact endTransmission_choice s.lane.fabric
  · have hrun : endTransmission .control s =
        s.setLane { s.lane with control := s.lane.control.endTransmission s.lane.live } := by
      unfold endTransmission sendingRestartAnswer; simp [hs, hg]
    refine ⟨_, congrArg Host.Outcome.next hrun, ?_, ?_⟩
    · intro p hp; cases p <;> simp_all [Part.same]
    · rw [hlive]; exact endTransmission_choice s.lane.control

/-! ### Classification (Table 1-2, R5) -/

theorem classify_notice (strap : Address) (f : Frame) (hk : frameKind f = 0x31)
    (hl : frameBodyLen f = 5 ∨ frameBodyLen f = 13) : classify strap .fabric f = .localInbound := by
  simp [classify, kindReceivedNotice, hk, hl]

theorem classify_report (strap : Address) (f : Frame) (hk : frameKind f = 0x42) (hd : frameDest f = strap) :
    classify strap .fabric f = if frameBodyLen f = 5 then .localInbound else .discard := by
  simp [classify, kindReceivedNotice, kindLockReport, addressed, hk, hd]

theorem classify_request_fabric (strap : Address) (f : Frame) (hk : frameKind f = 0x51) (hd : frameDest f = strap) :
    classify strap .fabric f = .discard := by
  simp [classify, kindReceivedNotice, kindLockReport, kindRequest, addressed, hk, hd]

/-- What goes to the transit queue from FABRIC: a notice that fails the form check, a Lock Report or a request to another
address, and every other kind (R4, R5). -/
theorem classify_transit_fabric (strap : Address) (f : Frame)
    (h : (frameKind f = 0x31 ∧ frameBodyLen f ≠ 5 ∧ frameBodyLen f ≠ 13) ∨ (frameKind f = 0x42 ∧ frameDest f ≠ strap) ∨
      (frameKind f = 0x51 ∧ frameDest f ≠ strap) ∨ (frameKind f ≠ 0x31 ∧ frameKind f ≠ 0x42 ∧ frameKind f ≠ 0x51)) :
    classify strap .fabric f = .transit := by
  unfold classify kindReceivedNotice kindLockReport kindRequest addressed
  rcases h with ⟨hk, h5, h13⟩ | ⟨hk, hd⟩ | ⟨hk, hd⟩ | ⟨hn, hl, hr⟩
  · simp [hk, h5, h13]
  · simp [hk, hd]
  · simp [hk, hd]
  · simp [hn, hl, hr]

theorem classify_request_control (strap : Address) (f : Frame) (hk : frameKind f = 0x51) (hd : frameDest f = strap) :
    classify strap .control f = .request := by
  simp [classify, kindRequest, addressed, hk, hd]

theorem classify_transit_control (strap : Address) (f : Frame) (h : frameKind f ≠ 0x51 ∨ frameDest f ≠ strap) :
    classify strap .control f = .transit := by
  rcases h with h | h <;> simp [classify, kindRequest, addressed, h]

/-! ### Joining a queue -/

/-- A latch is raised as one event, and nothing else happens (R156, R159). -/
theorem raiseEdge_told (l : LatchId) (s : State) :
    raisedBy l s (raiseEdge l s) ∧ edgeRaised l s (raiseEdge l s) ∧
      sameBut [.latches, .noticeState, .control] s (raiseEdge l s) :=
  ⟨raiseEdge_raisedBy l s, raiseEdge_edge l s, raiseEdge_sameBut l s⟩

/-- A frame in transit toward CONTROL joins its queue, or raises TRANSIT_OVERFLOW and is discarded (R6). -/
theorem joinToControl_cases (f : Frame) (s : State) :
    if s.lane.control.transitQ.length < 64 then
      (joinToControl f s).lane.control =
          OutPort.serve s.lane.live { s.lane.control with transitQ := s.lane.control.transitQ ++ [f] } ∧
        sameBut [.control] s (joinToControl f s)
    else raisedBy (deviceLatch 0) s (joinToControl f s) ∧ edgeRaised (deviceLatch 0) s (joinToControl f s) ∧
        sameBut [.latches, .noticeState, .control] s (joinToControl f s) := by
  rw [joinToControl_eq]
  split
  · refine ⟨rfl, ?_⟩
    intro p hp; cases p <;> simp_all [Part.same]
  · exact raiseEdge_told _ s

/-- A frame in transit toward FABRIC joins its queue, or raises TRANSIT_OVERFLOW and is discarded (R6). -/
theorem joinToFabric_cases (f : Frame) (s : State) :
    if s.lane.fabric.transitQ.length < 64 then
      (joinToFabric f s).lane.fabric =
          OutPort.serve s.lane.live { s.lane.fabric with transitQ := s.lane.fabric.transitQ ++ [f] } ∧
        sameBut [.fabric] s (joinToFabric f s)
    else raisedBy (deviceLatch 0) s (joinToFabric f s) ∧ edgeRaised (deviceLatch 0) s (joinToFabric f s) ∧
        sameBut [.latches, .noticeState, .control] s (joinToFabric f s) := by
  rw [joinToFabric_eq]
  split
  · refine ⟨rfl, ?_⟩
    intro p hp; cases p <;> simp_all [Part.same]
  · exact raiseEdge_told _ s

theorem joinLocal_room (f : Frame) (s : State) (h : s.lane.localIn.length < 16) :
    (joinLocal f s).lane.localIn = s.lane.localIn ++ [f] ∧ sameBut [.localIn] s (joinLocal f s) := by
  rw [joinLocal_eq, if_pos h]
  refine ⟨rfl, ?_⟩
  intro p hp; cases p <;> simp_all [Part.same]

theorem joinRequests_room (f : Frame) (s : State) (h : s.lane.requests.length < 4) :
    (joinRequests f s).lane.requests = s.lane.requests ++ [f] ∧ sameBut [.requests] s (joinRequests f s) := by
  rw [joinRequests_eq, if_pos h]
  refine ⟨rfl, ?_⟩
  intro p hp; cases p <;> simp_all [Part.same]

/-! ### FRAME_RECEIVED -/

/-- A frame under the reset line, begun there, or that fails the check is lost (R2, R16). -/
theorem receiveFrame_lost (port : LanePort) (f : Frame) (begun : Bool) (s : State)
    (h : s.lane.resetAsserted = true ∨ begun = true ∨ frameCheck f = false) : receiveFrame port f begun s = s := by
  unfold receiveFrame
  rcases h with h | h | h
  · rw [if_pos (by simp [h])]
  · rw [if_pos (by simp [h])]
  · rw [h, if_neg Bool.false_ne_true, ite_self]

/-- Settles O8: each clause is one treatment of `classify`, and the treatment's queue has room. -/
theorem framesClassified : Obligations.FramesClassified := by
  refine ⟨fun port f begun s h => congrArg Host.Outcome.next (receiveFrame_lost port f begun s h), ?_⟩
  intro port f s hr hf
  have hlive : s.lane.live = true := by simp [Lane.live, hr]
  obtain ⟨hlocal, hrequest, htransit, hdiscard⟩ := receiveFrame_live port f s hr hf
  refine ⟨receiveFrame port f false s, rfl, ?_, ?_⟩
  · rintro rfl
    refine ⟨fun hk hl hroom => ?_, fun hk hd => ⟨fun hl hroom => ?_, fun hl => ?_⟩, fun hk hd => ?_, fun h hroom => ?_⟩
    · rw [hlocal (classify_notice _ f hk hl)]
      exact joinLocal_room f s hroom
    · rw [hlocal ((classify_report _ f hk hd).trans (if_pos hl))]
      exact joinLocal_room f s hroom
    · exact hdiscard ((classify_report _ f hk hd).trans (if_neg hl))
    · exact hdiscard (classify_request_fabric _ f hk hd)
    · rw [htransit (classify_transit_fabric _ f h), ← hlive]
      have hjoin := joinToControl_cases f s
      rwa [if_pos hroom] at hjoin
  · rintro rfl
    refine ⟨fun hk hd hroom => ?_, fun h hroom => ?_⟩
    · rw [hrequest (classify_request_control _ f hk hd)]
      exact joinRequests_room f s hroom
    · rw [htransit (classify_transit_control _ f h), ← hlive]
      have hjoin := joinToFabric_cases f s
      rwa [if_pos hroom] at hjoin

/-- A notice that finds the local inbound queue full: LOCAL_OVERFLOW, and then transit (R8). -/
theorem joinLocal_full_notice (f : Frame) (s : State) (hk : frameKind f = 0x31) (hfull : 16 ≤ s.lane.localIn.length) :
    joinLocal f s = joinToControl f (raiseEdge (deviceLatch 1) s) := by
  rw [joinLocal_eq, if_neg (Nat.not_lt.2 hfull), if_pos hk]

/-- A Lock Report that finds the local inbound queue full: LOCAL_OVERFLOW alone (R8). -/
theorem joinLocal_full_report (f : Frame) (s : State) (hk : frameKind f = 0x42) (hfull : 16 ≤ s.lane.localIn.length) :
    joinLocal f s = raiseEdge (deviceLatch 1) s := by
  rw [joinLocal_eq, if_neg (Nat.not_lt.2 hfull), if_neg (by rw [hk]; decide)]

/-- A frame goes to the CONTROL transit queue from u, an event of s having left the queue as it was (R6, R8). -/
theorem joinToControl_after_event (f : Frame) {s u : State} (htold : eventTold s u) (hw : s.lane.control.workConserving)
    (hlevel : u.lane.resetAsserted = s.lane.resetAsserted) :
    if s.lane.control.transitQ.length < 64 then
      (joinToControl f u).lane.control =
          OutPort.serve s.lane.live { u.lane.control with transitQ := s.lane.control.transitQ ++ [f] } ∧
        sameBut [.control] u (joinToControl f u)
    else raisedBy (deviceLatch 0) u (joinToControl f u) ∧ edgeRaised (deviceLatch 0) u (joinToControl f u) ∧
        sameBut [.latches, .noticeState, .control] u (joinToControl f u) := by
  have hjoin := joinToControl_cases f u
  have hlive : u.lane.live = s.lane.live := by simp [Lane.live, hlevel]
  rwa [htold.transitQ hw, hlive] at hjoin

/-- Settles O9: each clause is one treatment of `classify`, and the treatment's queue is full. -/
theorem fullQueuesRaiseOverflow : Obligations.FullQueuesRaiseOverflow := by
  intro f s hr hf hw
  obtain ⟨-, hrequest, htransit, -⟩ := receiveFrame_live .control f s hr hf
  obtain ⟨hlocalF, -, htransitF, -⟩ := receiveFrame_live .fabric f s hr hf
  refine ⟨fun hk hd hfull => ?_, fun h hfull => ?_, fun h hfull => ?_, fun hk hd hl hfull => ?_, fun hk hl hfull => ?_⟩
  · have hrun : receiveFrame .control f false s = raiseEdge (deviceLatch 2) s := by
      rw [hrequest (classify_request_control _ f hk hd), joinRequests_eq, if_neg (Nat.not_lt.2 hfull)]
    exact ⟨_, congrArg Host.Outcome.next hrun, raiseEdge_told _ s⟩
  · have hrun : receiveFrame .control f false s = joinToFabric f s := htransit (classify_transit_control _ f h)
    have hjoin := joinToFabric_cases f s
    rw [if_neg (Nat.not_lt.2 hfull)] at hjoin
    exact ⟨_, congrArg Host.Outcome.next hrun, hjoin⟩
  · have hrun : receiveFrame .fabric f false s = joinToControl f s := htransitF (classify_transit_fabric _ f h)
    have hjoin := joinToControl_cases f s
    rw [if_neg (Nat.not_lt.2 hfull)] at hjoin
    exact ⟨_, congrArg Host.Outcome.next hrun, hjoin⟩
  · have hrun : receiveFrame .fabric f false s = raiseEdge (deviceLatch 1) s := by
      rw [hlocalF ((classify_report _ f hk hd).trans (if_pos hl)), joinLocal_full_report f s hk hfull]
    exact ⟨_, congrArg Host.Outcome.next hrun, raiseEdge_told _ s⟩
  · have hrun : receiveFrame .fabric f false s = joinToControl f (raiseEdge (deviceLatch 1) s) := by
      rw [hlocalF (classify_notice _ f hk hl), joinLocal_full_notice f s hk hfull]
    have hlive : s.lane.live = true := by simp [Lane.live, hr]
    obtain ⟨hraised, hedge, hframe⟩ := raiseEdge_told (deviceLatch 1) s
    have hjoin := joinToControl_after_event f hedge.told hw (hframe .resetLevel (by decide))
    rw [hlive] at hjoin
    exact ⟨_, _, congrArg Host.Outcome.next hrun, hraised, hedge, hframe, hjoin⟩

/-! ### ANSWER_PLACED -/

/-- Settles O34, by the two cases of placing an answer. -/
theorem waitingAnswerPlaced : Obligations.WaitingAnswerPlaced := by
  intro a s hphase
  have hrun : placeWaiting s = placeAnswer a s := by unfold placeWaiting; rw [hphase]
  refine ⟨fun hroom => ?_, fun hfull => ?_⟩
  · have hplaced := placeAnswer_cases a s
    rw [if_pos hroom] at hplaced
    exact ⟨_, congrArg Host.Outcome.next hrun, hplaced⟩
  · have hwait : placeAnswer a s = s := by
      unfold placeAnswer
      rw [offerControl_eq, if_neg (Nat.not_lt.2 hfull)]
      show s.setAgent { s.agent with phase := .answerWaiting a } = s
      rw [← hphase]
      rfl
    exact congrArg Host.Outcome.next (hrun.trans hwait)

end Sys2Proof.Machine
end

section
/-! PROOFS. What the local inbound queue brings: Received Grade Notices and Lock Reports (O17, O18, O28). -/

namespace Sys2Proof.Machine

-- One theorem after the other: the joined text would otherwise ask for a thread per waiting proof.
set_option Elab.async false

/-! ### The head of the local inbound queue -/

/-- The state with the head of the local inbound queue taken. -/
def State.withLocalIn (s : State) (rest : List Frame) : State := s.setLane { s.lane with localIn := rest }

theorem withLocalIn_sameBut (s : State) (rest : List Frame) : sameBut [.localIn] s (s.withLocalIn rest) := by
  intro p hp; cases p <;> simp_all [Part.same, State.withLocalIn]

theorem takeNotice_head (f : Frame) (rest : List Frame) (s : State) (hq : s.lane.localIn = f :: rest)
    (hk : frameKind f = 0x31) : takeNotice s = processNotice f (s.withLocalIn rest) := by
  unfold takeNotice
  rw [hq]
  exact if_pos hk

theorem takeLockReport_head (f : Frame) (rest : List Frame) (s : State) (hq : s.lane.localIn = f :: rest)
    (hk : frameKind f = 0x42) :
    takeLockReport s =
      if h : byteAt (frameBody f) 0 < 16 then takeReport ⟨byteAt (frameBody f) 0, h⟩ f (s.withLocalIn rest)
      else s.withLocalIn rest := by
  unfold takeLockReport
  rw [hq]
  exact if_pos hk

/-! ### Lock Reports -/

/-- A slice takes no report from another address than its module's, and none while PARKED (R115). -/
theorem takeReport_unaccepted (k : ShelfId) (f : Frame) (s : State)
    (h : frameSource f ≠ s.slices[k].cfg.module ∨ s.slices[k].timing = .parked) : takeReport k f s = s := by
  unfold takeReport
  refine if_neg ?_
  rw [Bool.and_eq_true_iff, decide_eq_true_eq, decide_eq_true_eq]
  rintro ⟨hsource, hparked⟩
  exact h.elim (fun h => h hsource) hparked

/-- Settles O28: in each of the three grounds only the head of the queue goes. -/
theorem unacceptedReportConsumed : Obligations.UnacceptedReportConsumed := by
  intro f rest s hq hk h
  have hrun : takeLockReport s = s.withLocalIn rest := by
    rw [takeLockReport_head f rest s hq hk]
    rcases h with h | ⟨k, hk, h⟩
    · exact dif_neg (by omega)
    · have hlt : byteAt (frameBody f) 0 < 16 := hk ▸ k.isLt
      have hshelf : (⟨byteAt (frameBody f) 0, hlt⟩ : ShelfId) = k := Fin.ext hk.symm
      rw [dif_pos hlt, hshelf]
      exact takeReport_unaccepted k f _ h
  exact ⟨_, congrArg Host.Outcome.next hrun, rfl, withLocalIn_sameBut s rest⟩

/-! ### The lookup of a notice (R56) -/

theorem lookupNotice_some (s : State) (f : Frame) (p : PortId) (h0 : byteAt (frameBody f) 0 < 16)
    (h1 : byteAt (frameBody f) 1 < 16) (h3 : byteAt (frameBody f) 3 < 16)
    (hp : p.val = byteAt (frameBody f) 0 * 16 + byteAt (frameBody f) 1) (hu : s.rxPorts[p].inUse = true) :
    lookupNotice s f = some p := by
  have hport : (⟨byteAt (frameBody f) 0 * 16 + byteAt (frameBody f) 1, by omega⟩ : PortId) = p := Fin.ext hp.symm
  unfold lookupNotice
  dsimp only
  rw [dif_pos ⟨h0, h1, h3⟩]
  exact (congrArg (fun q : PortId => if s.rxPorts[q].inUse then some q else none) hport).trans (if_pos hu)

theorem lookupNotice_none (s : State) (f : Frame)
    (h : 15 < byteAt (frameBody f) 0 ∨ 15 < byteAt (frameBody f) 1 ∨ 15 < byteAt (frameBody f) 3 ∨
      ∃ p : PortId, p.val = byteAt (frameBody f) 0 * 16 + byteAt (frameBody f) 1 ∧ s.rxPorts[p].inUse = false) :
    lookupNotice s f = none := by
  unfold lookupNotice
  dsimp only
  split
  · rename_i hlt
    obtain ⟨p, hp, hu⟩ : ∃ p : PortId, p.val = byteAt (frameBody f) 0 * 16 + byteAt (frameBody f) 1 ∧
        s.rxPorts[p].inUse = false := by
      rcases h with h | h | h | h
      · omega
      · omega
      · omega
      · exact h
    have hport : (⟨byteAt (frameBody f) 0 * 16 + byteAt (frameBody f) 1, by omega⟩ : PortId) = p := Fin.ext hp.symm
    exact (congrArg (fun q : PortId => if s.rxPorts[q].inUse then some q else none) hport).trans
      (if_neg (by rw [hu]; exact Bool.false_ne_true))
  · rfl

/-! ### Notices that change no grade state -/

theorem boundLine_none (s : State) (p : PortId) (h : ∀ n, s.rxPorts[p].bound = some n → s.cands[n].kind ≠ .line) :
    boundLine s p = none := by
  unfold boundLine
  split
  · exact if_neg (h _ (by assumption))
  · rfl

/-- A frame that goes to transit when the head of the local inbound queue was taken (R6, R9). -/
theorem joinToControl_taken (f : Frame) (rest : List Frame) (s : State) :
    (joinToControl f (s.withLocalIn rest)).lane.localIn = rest ∧
      if s.lane.control.transitQ.length < 64 then
        (joinToControl f (s.withLocalIn rest)).lane.control =
            OutPort.serve s.lane.live { s.lane.control with transitQ := s.lane.control.transitQ ++ [f] } ∧
          sameBut [.localIn, .control] s (joinToControl f (s.withLocalIn rest))
      else raisedBy (deviceLatch 0) s (joinToControl f (s.withLocalIn rest)) ∧
          edgeRaised (deviceLatch 0) { s with lane := { s.lane with localIn := rest } }
            (joinToControl f (s.withLocalIn rest)) ∧
          sameBut [.localIn, .latches, .noticeState, .control] s (joinToControl f (s.withLocalIn rest)) := by
  have htaken := withLocalIn_sameBut s rest
  have hjoin := joinToControl_cases f (s.withLocalIn rest)
  refine ⟨joinToControl_sameBut f _ .localIn (by decide), ?_⟩
  change if s.lane.control.transitQ.length < 64 then _ else _ at hjoin
  split at hjoin
  · rw [if_pos (by assumption)]
    exact ⟨hjoin.1, htaken.andThen hjoin.2⟩
  · rw [if_neg (by assumption)]
    exact ⟨hjoin.1, hjoin.2.1, htaken.andThen hjoin.2.2⟩

/-- Settles O18: with no LINE candidate, or after a failed lookup, the notice meets transit or nothing. -/
theorem noticeWithoutLineCandidate : Obligations.NoticeWithoutLineCandidate := by
  refine ⟨fun f rest p s hq hk hlook hline => ?_, fun f rest s hq hk hfail => ?_⟩
  · have hlook' : lookupNotice (s.withLocalIn rest) f = some p := hlook
    have hline' : boundLine (s.withLocalIn rest) p = none := boundLine_none _ p hline
    have hrun : takeNotice s =
        if s.rxPorts[p].absorb then s.withLocalIn rest else joinToControl f (s.withLocalIn rest) := by
      rw [takeNotice_head f rest s hq hk]
      unfold processNotice
      rw [hlook']
      dsimp only
      rw [hline']
      rfl
    cases ha : s.rxPorts[p].absorb with
    | true =>
      rw [ha, if_pos rfl] at hrun
      exact ⟨_, congrArg Host.Outcome.next hrun, rfl, fun _ => withLocalIn_sameBut s rest, nofun⟩
    | false =>
      rw [ha, if_neg Bool.false_ne_true] at hrun
      obtain ⟨hin, hjoin⟩ := joinToControl_taken f rest s
      exact ⟨_, congrArg Host.Outcome.next hrun, hin, nofun, fun _ => hjoin⟩
  · have hlook : lookupNotice (s.withLocalIn rest) f = none := lookupNotice_none _ f hfail
    have hrun : takeNotice s = joinToControl f (s.withLocalIn rest) := by
      rw [takeNotice_head f rest s hq hk]
      unfold processNotice
      rw [hlook]
    exact ⟨_, congrArg Host.Outcome.next hrun, joinToControl_taken f rest s⟩

/-! ### A notice for a LINE candidate (R58) -/

theorem noticePath_none (f : Frame) (h : frameBodyLen f ≠ 13) : noticePath f = none := if_neg h

theorem noticePath_some (f : Frame) (h : frameBodyLen f = 13) :
    ∃ q, noticePath f = some q ∧ q.origin.tag = BitVec.ofNat 48 (numAt (frameBody f) 5 6) ∧
      q.origin.isPartial = bitAt (frameBody f) 12 0 ∧ q.hop.val = min 31 (byteAt (frameBody f) 11) := by
  refine ⟨_, if_pos h, rfl, rfl, ?_⟩
  show min 31 (byteAt (frameBody f) 11) % 32 = min 31 (byteAt (frameBody f) 11)
  exact Nat.mod_eq_of_lt (by omega)

/-- The grade record after a notice of a LINE candidate: what follows the map, attached or detached (R58, R64). -/
theorem hear_mapped (now : Nat) (m : GradeMap) (c : Code) (path : Option PathBlock) (g : GradeSlot) :
    (m.attached = true → (g.hear now m c path).mapped = m.entries[c] ∧ (g.hear now m c path).held = false) ∧
      (m.attached = false → (g.hear now m c path).mapped = g.mapped ∧ (g.hear now m c path).held = g.held) := by
  refine ⟨fun h => ?_, fun h => ?_⟩ <;> simp [GradeSlot.hear, h]

/-- NOTICE_LOST goes absent when a candidate that had timed out hears a notice (R62). -/
theorem commitGrade_noticeLost (n : Slot) (g : GradeSlot) (s : State) (hg : g.noticeLost = false)
    (hs : s.grades[n].code = .timedOut) : (commitGrade n g s).events.copies[condNoticeLost n] = false := by
  have hlost : s.grades[n].noticeLost = true := decide_eq_true hs
  unfold commitGrade
  dsimp only
  rw [raiseCondition_copies, hlost, hg, if_neg Bool.noConfusion, getElem_set_fin, if_pos rfl]

/-- The latches of the candidates are not the latches of the device. -/
theorem deviceLatch_ne_candLatch (i : Fin 3) (k : Fin 4) (n : Slot) : candLatch k n ≠ deviceLatch i := by
  intro h
  have hval := congrArg Fin.val h
  simp only [candLatch, deviceLatch] at hval
  omega

/-- A frame that goes to transit afterwards tells nothing of the grade: it may raise TRANSIT_OVERFLOW only. -/
theorem gradeTold.joinToControl {n : Slot} {s u : State} (h : gradeTold n s u) (f : Frame) :
    gradeTold n s (joinToControl f u) := by
  have hframe := joinToControl_sameBut f u
  have hgrades : (Machine.joinToControl f u).grades = u.grades := hframe .grades (by decide)
  have hqueue : (Machine.joinToControl f u).engine.queue = u.engine.queue := hframe .queue (by decide)
  have hflight : (Machine.joinToControl f u).flight.grades = u.flight.grades := hframe .gradeHandovers (by decide)
  have hlatch : (Machine.joinToControl f u).events.latches[candLatch 1 n] = u.events.latches[candLatch 1 n] := by
    have hjoin := joinToControl_cases f u
    split at hjoin
    · rw [hjoin.2 .latches (by decide)]
    · rw [hjoin.1, if_neg fun hc => deviceLatch_ne_candLatch 0 1 n hc.1]
  unfold gradeTold queuedBy at *
  rw [hlatch, hqueue, hflight, hgrades]
  exact h

/-- All that a notice does to the LINE candidate n, before it is absorbed or forwarded (R58, R62, R64, R68 to R71). -/
theorem applyNotice_spec (n : Slot) (c : Code) (f : Frame) (s : State) (hc : byteAt (frameBody f) 3 = c.val) :
    ∃ g : GradeSlot, g = s.grades[n].hear s.osc s.rmaps[s.grades[n].rmap] c (noticePath f) ∧
      (∀ m : Slot, (applyNotice n f s).grades[m] =
        if n = m then { g with eff := effectiveGrade (applyNotice n f s) n } else s.grades[m]) ∧
      gradeTold n s (applyNotice n f s) ∧ eventTold s (applyNotice n f s) ∧
      (s.grades[n].code = .timedOut → (applyNotice n f s).events.copies[condNoticeLost n] = false) ∧
      sameBut [.grades, .latches, .conditions, .noticeState, .control, .queue, .gradeHandovers] s (applyNotice n f s) := by
  have hcode : Fin.ofNat 16 (byteAt (frameBody f) 3) = c := by
    ext; simp [hc]
  obtain ⟨g, hg⟩ : ∃ g, g = s.grades[n].hear s.osc s.rmaps[s.grades[n].rmap] c (noticePath f) := ⟨_, rfl⟩
  have hrun : applyNotice n f s = commitGrade n g s := by unfold applyNotice; dsimp only; rw [hcode, hg]
  have hlost : g.noticeLost = false := by rw [hg]; rfl
  have hframe := commitGrade_sameBut n g s
  obtain ⟨htold, hevent⟩ := commitGrade_told n g s
  rw [hrun]
  refine ⟨g, hg, fun m => ?_, htold, hevent hlost, commitGrade_noticeLost n g s hlost, hframe⟩
  have heff : effectiveGrade (commitGrade n g s) n = effectiveGrade (s.setGrade n g) n := by
    refine effectiveGrade_congr n (hframe .cands (by decide)) (hframe .triples (by decide)) ?_
    rw [commitGrade_at, if_pos rfl, State.setGrade_grades_at, if_pos rfl]
    exact ⟨rfl, rfl, rfl, rfl, rfl, rfl, rfl⟩
  rw [commitGrade_at, heff]

/-- A notice for a LINE candidate: applied, then absorbed or forwarded as the entry says (R58, R9). -/
theorem processNotice_line (f : Frame) (p : PortId) (n : Slot) (s : State) (hlook : lookupNotice s f = some p)
    (hbound : s.rxPorts[p].bound = some n) (hkind : s.cands[n].kind = .line) :
    processNotice f s = if s.rxPorts[p].absorb then applyNotice n f s else joinToControl f (applyNotice n f s) := by
  have hline : boundLine s p = some n := by
    unfold boundLine
    rw [hbound]
    exact if_pos hkind
  unfold processNotice
  rw [hlook]
  dsimp only
  rw [hline]

/-- Settles O17: u is what the notice leaves of the candidate; absorbing ends there, forwarding leaves the grades. -/
theorem noticeGradesLineCandidate : Obligations.NoticeGradesLineCandidate := by
  intro f rest p c n s hq hk h0 h1 hp h3 hu hbound hkind hw
  obtain ⟨g, hg, hgrades, htold, hevent, hlost, hframe⟩ := applyNotice_spec n c f (s.withLocalIn rest) h3
  have htaken := withLocalIn_sameBut s rest
  obtain ⟨u, hueq⟩ : ∃ u, u = applyNotice n f (s.withLocalIn rest) := ⟨_, rfl⟩
  rw [← hueq] at hgrades htold hevent hlost hframe
  have hrun : takeNotice s = if s.rxPorts[p].absorb then u else joinToControl f u := by
    rw [takeNotice_head f rest s hq hk, hueq]
    exact processNotice_line f p n _ (lookupNotice_some _ f p h0 h1 (h3 ▸ c.isLt) hp hu) hbound hkind
  have heventS : eventTold s u := hevent
  have hjoin := joinToControl_after_event f heventS hw (hframe .resetLevel (by decide))
  obtain ⟨t, hteq⟩ : ∃ t, t = if s.rxPorts[p].absorb then u else joinToControl f u := ⟨_, rfl⟩
  have hafter : sameBut [.latches, .noticeState, .control] u t ∧ gradeTold n (s.withLocalIn rest) t := by
    rw [hteq]
    split
    · exact ⟨sameBut.refl _ u, htold⟩
    · exact ⟨joinToControl_sameBut f u, htold.joinToControl f⟩
  obtain ⟨hut, htoldT⟩ := hafter
  have hgradesT : t.grades = u.grades := hut .grades (by decide)
  have hin : t.lane.localIn = rest := (hut .localIn (by decide)).trans (hframe .localIn (by decide))
  have hcopies : t.events.copies = u.events.copies := hut .conditions (by decide)
  have heff : effectiveGrade t n = effectiveGrade u n :=
    effectiveGrade_congr n (hut .cands (by decide)) (hut .triples (by decide))
      (by rw [hgradesT]; exact ⟨rfl, rfl, rfl, rfl, rfl, rfl, rfl⟩)
  have hn : t.grades[n] = { g with eff := effectiveGrade t n } := by rw [hgradesT, hgrades n, if_pos rfl, heff]
  obtain ⟨hattached, hdetached⟩ := hear_mapped s.osc s.rmaps[s.grades[n].rmap] c (noticePath f) s.grades[n]
  rw [hg] at hn
  refine ⟨u, t, congrArg Host.Outcome.next (hrun.trans hteq.symm), hin, ?_, ?_, ?_, ?_, ?_, ?_, ?_, ?_, htoldT, ?_,
    heventS, fun ha => ?_, fun ha => ?_, ?_⟩
  · rw [hn]; rfl
  · intro hlen; rw [hn]; exact noticePath_none f hlen
  · intro hlen; rw [hn]; exact noticePath_some f hlen
  · rw [hn]; exact startMs_s s.osc s.grades[n].timeoutS
  · intro ha; rw [hn]; exact hattached ha
  · intro ha; rw [hn]; exact hdetached ha
  · rw [hn]
  · intro m hm
    rw [hgradesT, hgrades m, if_neg (Ne.symm hm)]
    rfl
  · intro hcode; rw [hcopies]; exact hlost hcode
  · rw [hteq, if_pos ha]
  · rw [hteq, ha, if_neg Bool.false_ne_true]; exact hjoin
  · exact sameBut.trans (htaken.andThen hframe) hut.mono

end Sys2Proof.Machine
end

section
/-! PROOFS. The restart (O7). -/

namespace Sys2Proof.Machine

-- One theorem after the other: the joined text would otherwise ask for a thread per waiting proof.
set_option Elab.async false

/-! ### The HOLD Directives of the restart (R130) -/

/-- One unparked slice sends HOLD under a new sequence. -/
def sendHold (k : ShelfId) (t : State) : State :=
  if t.slices[k].timing = .parked then t else newDirective k .hold t

theorem sendHold_sameBut (k : ShelfId) (t : State) : sameBut [.slices, .fabric] t (sendHold k t) :=
  (sameBut.refl _ t).ite (newDirective_sameBut k .hold t)

theorem sendHold_slices_ne (i j : ShelfId) (t : State) (h : i ≠ j) : (sendHold i t).slices[j] = t.slices[j] := by
  unfold sendHold
  split
  · rfl
  · rw [newDirective_at, if_neg h]

/-- The Directives that the shelves before k offered leave a free place of an empty queue (R11). -/
theorem offered_before_room (live : Bool) (p : OutPort) (hp : p.localQ = []) (k : ShelfId)
    (g : ShelfId → List OutFrame) (hg : ∀ j, (g j).length ≤ 1) :
    ¬32 ≤ (offeredInOrder live (((List.finRange 16).filter fun j => decide (j < k)).flatMap g) p).localQ.length := by
  have hqueue := offeredInOrder_length live (((List.finRange 16).filter fun j => decide (j < k)).flatMap g) p
  have hframes : ∀ l : List ShelfId, (l.flatMap g).length ≤ l.length := fun l => by
    induction l with
    | nil => exact Nat.le_refl 0
    | cons j l ih =>
      rw [List.flatMap_cons, List.length_append, List.length_cons]
      have := hg j
      omega
  have hshelves := hframes ((List.finRange 16).filter fun j => decide (j < k))
  have hall : ((List.finRange 16).filter fun j => decide (j < k)).length ≤ 16 :=
    (List.length_filter_le _ _).trans_eq List.length_finRange
  rw [hp, List.length_nil] at hqueue
  omega

/-- All that the HOLD Directives do on an empty queue: each unparked slice sends one, in increasing shelf number. -/
theorem overShelves_sendHold (s : State) (hempty : s.lane.fabric.localQ = []) :
    (overShelves sendHold s).lane.fabric =
        offeredInOrder s.lane.live
          (((List.finRange 16).filter fun k => decide (s.slices[k].timing ≠ .parked)).map fun k =>
            directiveTo s k (s.slices[k].seq + 1) none)
          s.lane.fabric ∧
      ∀ k : ShelfId, (overShelves sendHold s).slices[k] =
        if s.slices[k].timing = .parked then s.slices[k]
        else { s.slices[k] with seq := s.slices[k].seq + 1, action := .hold, unsent := false } := by
  have hwalk := overShelves_offers s.lane.live sendHold
    (fun k => if decide (s.slices[k].timing ≠ .parked) then [directiveTo s k (s.slices[k].seq + 1) none] else [])
    (fun k t => t.slices[k] = s.slices[k] ∧ t.lane.strap = s.lane.strap ∧ t.lane.live = s.lane.live)
    (fun k t => t.slices[k] = if s.slices[k].timing = .parked then s.slices[k]
      else { s.slices[k] with seq := s.slices[k].seq + 1, action := .hold, unsent := false })
    s ?offers ?others ?self ?kept (fun _ => ⟨rfl, rfl, rfl⟩)
  case offers =>
    intro k t ⟨hslice, hstrap, hlive⟩
    unfold sendHold
    rw [hslice]
    by_cases hp : s.slices[k].timing = .parked
    · rw [if_pos hp, if_neg fun h => (of_decide_eq_true h : s.slices[k].timing ≠ .parked) hp]
      rfl
    · have hto : directiveTo t k (s.slices[k].seq + 1) none = directiveTo s k (s.slices[k].seq + 1) none := by
        unfold directiveTo; rw [hslice, hstrap]
      rw [if_neg hp, if_pos (decide_eq_true hp), newDirective_fabric k .hold none t rfl, hslice, hlive, hto]
  case others =>
    intro i j t hij _ ⟨hslice, hstrap, hlive⟩
    have hframe := sendHold_sameBut i t
    have hlevel : (sendHold i t).lane.resetAsserted = t.lane.resetAsserted := hframe .resetLevel (by decide)
    refine ⟨(sendHold_slices_ne i j t hij).trans hslice, (hframe .strap (by decide)).trans hstrap, ?_⟩
    rw [← hlive]; unfold Lane.live; rw [hlevel]
  case self =>
    intro k t ⟨hslice, hstrap, hlive⟩ hfabric
    unfold sendHold
    rw [hslice]
    split
    · exact hslice
    · have hroom := offered_before_room s.lane.live s.lane.fabric hempty k
        (fun k => if decide (s.slices[k].timing ≠ .parked) then [directiveTo s k (s.slices[k].seq + 1) none] else [])
        (fun j => by split <;> simp)
      rw [newDirective_at, if_pos rfl, hslice, hfabric, decide_eq_false hroom]
  case kept =>
    intro i j t hij hq
    exact (sendHold_slices_ne i j t hij).trans hq
  exact ⟨by rw [← flatMap_filter]; exact hwalk.1, hwalk.2⟩

/-! ### The blocks at their restart values -/

/-- Every block at its restart values, before the slices send their Directives. -/
def State.restarted (s : State) : State := restartEvents (regradeSilently (restartBlocks s))

theorem deviceRestart_eq (s : State) : deviceRestart s = overShelves sendHold s.restarted := rfl

theorem bindTimer_eq (now : Nat) (line bound : Bool) (g : GradeSlot) :
    bindTimer now line bound g =
      if line = true ∧ bound = true then some (now + g.timeoutS * 125000000) else none := by
  unfold bindTimer
  rw [startMs_s]
  simp only [Bool.and_eq_true]

theorem restarted_cands (s : State) (n : Slot) : s.restarted.cands[n] = s.cands[n].restart := Vector.getElem_map ..

theorem restarted_inputs (s : State) (n : Slot) : s.restarted.inputs[n] = s.inputs[n].enterMissing :=
  Vector.getElem_map ..

theorem regradeSilently_sameBut (s : State) : sameBut [.grades] s (regradeSilently s) := by
  intro p hp; cases p <;> simp_all [Part.same, regradeSilently]

theorem regradeSilently_grades (s : State) (n : Slot) :
    (regradeSilently s).grades[n] = { s.grades[n] with eff := effectiveGrade (regradeSilently s) n } := by
  have hgrade : (regradeSilently s).grades[n] = { s.grades[n] with eff := effectiveGrade s n } := Vector.getElem_ofFn ..
  have hframe := regradeSilently_sameBut s
  have heff : effectiveGrade (regradeSilently s) n = effectiveGrade s n :=
    effectiveGrade_congr n (hframe .cands (by decide)) (hframe .triples (by decide))
      (by rw [hgrade]; exact ⟨rfl, rfl, rfl, rfl, rfl, rfl, rfl⟩)
  rw [heff, hgrade]

/-- The Event Unit's restart leaves the other blocks alone. -/
theorem restartEvents_sameBut (s : State) : sameBut [.latches, .conditions, .noticeState] s (restartEvents s) := by
  intro p hp; cases p <;> simp_all [Part.same, restartEvents, EventUnit.restart]

/-- The effective grades are those of the restarted state itself (R76). -/
theorem restarted_grades (s : State) (n : Slot) :
    s.restarted.grades[n] =
      { s.grades[n].restart s.osc (decide (s.cands[n].kind = .line)) (portOf s.rxPorts n).isSome with
        eff := effectiveGrade s.restarted n } := by
  have hblocks : (restartBlocks s).grades[n] =
      s.grades[n].restart s.osc (decide (s.cands[n].kind = .line)) (portOf s.rxPorts n).isSome := Vector.getElem_ofFn ..
  have hevents := restartEvents_sameBut (regradeSilently (restartBlocks s))
  have hgrades : s.restarted.grades = (regradeSilently (restartBlocks s)).grades := hevents .grades (by decide)
  have heff : effectiveGrade s.restarted n = effectiveGrade (regradeSilently (restartBlocks s)) n :=
    effectiveGrade_congr n (hevents .cands (by decide)) (hevents .triples (by decide))
      (by rw [hgrades]; exact ⟨rfl, rfl, rfl, rfl, rfl, rfl, rfl⟩)
  rw [heff, hgrades, regradeSilently_grades, hblocks]

theorem restarted_shelves (s : State) (k : ShelfId) : s.restarted.shelves[k] = s.shelves[k].restart :=
  Vector.getElem_map ..

theorem restarted_slices (s : State) (k : ShelfId) :
    s.restarted.slices[k] = { s.slices[k].restart s.osc with triple := restartTriple s.baseTag k s.slices[k] } :=
  Vector.getElem_ofFn ..

theorem restarted_parked (s : State) (k : ShelfId) :
    s.restarted.slices[k].timing = .parked ↔ s.slices[k].timing = .parked := by
  rw [restarted_slices]
  show (if s.slices[k].timing = .parked then Timing.parked else .freerun) = .parked ↔ _
  split <;> simp_all

theorem restarted_triples (s : State) (k : ShelfId) : s.restarted.triples[k] = restartTriple s.baseTag k s.slices[k] :=
  Vector.getElem_ofFn ..

theorem restarted_copies (s : State) (k : ShelfId) :
    s.restarted.copies[k] =
      { triple := restartTriple s.baseTag k s.slices[k], target := none, timing := (s.slices[k].restart s.osc).timing } :=
  Vector.getElem_ofFn ..

theorem restarted_txPorts (s : State) (p : PortId) : s.restarted.txPorts[p] = s.txPorts[p].restart s.osc :=
  Vector.getElem_map ..

theorem restarted_rmaps (s : State) (m : MapId) : s.restarted.rmaps[m] = { s.rmaps[m] with attached := true } :=
  Vector.getElem_map ..

theorem restarted_tmaps (s : State) (m : MapId) : s.restarted.tmaps[m] = { s.tmaps[m] with attached := true } :=
  Vector.getElem_map ..

theorem restarted_latches (s : State) (l : LatchId) : s.restarted.events.latches[l] = .clear :=
  Vector.getElem_replicate ..

theorem restarted_conditions (s : State) (c : CondId) :
    s.restarted.events.copies[c] =
      if h : 64 ≤ c.val then groupPresent s.restarted ⟨c.val - 64, by omega⟩ else false := Vector.getElem_ofFn ..

theorem groupPresent_restarted {s t : State} (h : sameBut [.slices, .fabric] s.restarted t) (k : ShelfId) :
    t.events.copies[condGroup k] = groupPresent t k := by
  have hcopies : t.events.copies = s.restarted.events.copies := h .conditions (by decide)
  have hshelves : t.shelves = s.restarted.shelves := h .shelves (by decide)
  have hindex : (⟨(condGroup k).val - 64, by omega⟩ : ShelfId) = k := Fin.ext (Nat.add_sub_cancel_left 64 k.val)
  rw [hcopies, restarted_conditions, dif_pos (show 64 ≤ (condGroup k).val from Nat.le_add_right 64 k.val), hindex]
  exact (groupPresent_congr k (by rw [hshelves]) (h .cands (by decide))).symm

/-- A frame that names the FABRIC port alone of the lane leaves the rest of the lane. -/
theorem sameBut.lane_fabric {ps : List Part} {s t : State} (h : sameBut ps s t)
    (hd : ∀ p ∈ laneParts, p ≠ .fabric → p ∉ ps := by decide) : t.lane = { s.lane with fabric := t.lane.fabric } := by
  have hstrap : t.lane.strap = s.lane.strap := h .strap (hd _ (by decide) (by decide))
  have hlevel : t.lane.resetAsserted = s.lane.resetAsserted := h .resetLevel (hd _ (by decide) (by decide))
  have hcontrol : t.lane.control = s.lane.control := h .control (hd _ (by decide) (by decide))
  have hlocal : t.lane.localIn = s.lane.localIn := h .localIn (hd _ (by decide) (by decide))
  have hrequests : t.lane.requests = s.lane.requests := h .requests (hd _ (by decide) (by decide))
  cases ht : t.lane
  simp_all

/-- With the RESTART answer in transmission, its end is the restart under both names of the command (R17). -/
theorem exec_restart (s : State) (f : OutFrame) (hf : s.lane.control.sending = some f) (hr : f.isRestartAnswer = true) :
    endRestartAnswer s = deviceRestart s ∧ endTransmission .control s = deviceRestart s := by
  have hsending : sendingRestartAnswer s = true := by
    unfold sendingRestartAnswer
    rw [hf]
    exact hr
  unfold endRestartAnswer endTransmission
  exact ⟨if_pos hsending, if_pos hsending⟩

/-- The parts that the restart gives new values (R17). -/
def restartedParts : List Part :=
  [.fabric, .control, .localIn, .requests, .cands, .inputs, .grades, .rmaps, .triples, .shelves, .queue, .count, .slices,
    .txPorts, .tmaps, .copies, .windowStart, .latches, .conditions, .noticeState, .semaphores, .record, .phase,
    .healthReports, .removals, .tripleHandovers, .gradeHandovers, .noticeHandovers]

theorem restartBlocks_sameBut (s : State) : sameBut restartedParts s (restartBlocks s) := by
  intro p hp; cases p <;> simp_all [Part.same, restartedParts, restartBlocks, Lane.restart]

theorem restarted_sameBut (s : State) : sameBut restartedParts s s.restarted :=
  (restartBlocks_sameBut s).trans ((regradeSilently_sameBut _).andThen (restartEvents_sameBut _))

/-- What the HOLD Directives leave of a restarted slice (R130). -/
def Slice.restartedWith (now : Nat) (triple : Triple) (v : Slice) : Slice :=
  { v with
    timing := if v.timing = .parked then .parked else .freerun
    target := none
    seq := if v.timing = .parked then 0 else 1
    action := .hold
    unsent := false
    lastReport := none
    history := false
    unreachable := false
    lockTimer := none
    settleTimer := none
    reportTimer := if v.timing = .parked then none else some (now + v.cfg.reportS * 125000000)
    holdoverSince := none
    exhausted := false
    triple := triple }

/-- The FABRIC port and the slices after the restart (R17, R130). -/
theorem deviceRestart_sends (s t : State) (ht : t = deviceRestart s) :
    t.lane.fabric =
        offeredInOrder s.lane.live
          (((List.finRange 16).filter fun k => decide (s.slices[k].timing ≠ .parked)).map fun k => directiveTo s k 1 none)
          { transitQ := [], localQ := [], servedLast := .localQ, sending := s.lane.fabric.sending } ∧
      ∀ k : ShelfId, t.slices[k] = s.slices[k].restartedWith s.osc (restartTriple s.baseTag k s.slices[k]) := by
  obtain ⟨hfabric, hslices⟩ := overShelves_sendHold s.restarted rfl
  rw [← deviceRestart_eq, ← ht] at hfabric hslices
  have hseq : ∀ k : ShelfId, s.restarted.slices[k].seq + 1 = 1 := fun k => by rw [restarted_slices]; rfl
  have hto : ∀ k : ShelfId, directiveTo s.restarted k (s.restarted.slices[k].seq + 1) none = directiveTo s k 1 none :=
    fun k => by rw [hseq]; unfold directiveTo; rw [restarted_slices]; rfl
  refine ⟨?_, fun k => ?_⟩
  · rw [hfabric]
    simp only [restarted_parked, hto, ne_eq]
    rfl
  · rw [hslices k]
    simp only [restarted_slices, Slice.restart, Slice.restartedWith, startMs_s]
    split <;> rfl

/-- An evaluation queue and a cascade count of its own, and the cascade budget kept (R108). -/
theorem restart_engine {s : State} {q : List EvalEntry} (e : Engine) (hq : e.queue = q) (hc : e.count = 0)
    (hb : e.budget = s.engine.budget) : e = { s.engine with queue := q, count := 0 } := by
  cases e
  simp_all

theorem restart_flight (i : InFlight) (hh : i.health = []) (hr : i.removals = []) (ht : i.triples = [])
    (hg : i.grades = []) (hn : i.notices = []) : i = noFlight := by
  cases i
  simp_all [noFlight]

/-- Settles O7: every block at its restart value, then the Directives in increasing shelf number. -/
theorem restartKeepsTables : Obligations.RestartKeepsTables := by
  intro s f hf hr unparked triple timing
  obtain ⟨hname, hname'⟩ := exec_restart s f hf hr
  obtain ⟨t, ht⟩ : ∃ t, t = deviceRestart s := ⟨_, rfl⟩
  obtain ⟨hfabric, hslices⟩ := deviceRestart_sends s t ht
  have h : sameBut [.slices, .fabric] s.restarted t := ht ▸ deviceRestart_directs s
  have hlane : t.lane = { s.lane.restart with fabric := t.lane.fabric } := h.lane_fabric
  have hcands : t.cands = s.restarted.cands := h .cands (by decide)
  have hinputs : t.inputs = s.restarted.inputs := h .inputs (by decide)
  have hgrades : t.grades = s.restarted.grades := h .grades (by decide)
  have hshelves : t.shelves = s.restarted.shelves := h .shelves (by decide)
  have htriples : t.triples = s.restarted.triples := h .triples (by decide)
  have hcopies : t.copies = s.restarted.copies := h .copies (by decide)
  have hqueue : t.engine.queue = restartQueue s.slices := h .queue (by decide)
  have hcount : t.engine.count = 0 := h .count (by decide)
  have hbudget : t.engine.budget = s.engine.budget := h .budget (by decide)
  have hrmaps : t.rmaps = s.restarted.rmaps := h .rmaps (by decide)
  have htmaps : t.tmaps = s.restarted.tmaps := h .tmaps (by decide)
  have hports : t.txPorts = s.restarted.txPorts := h .txPorts (by decide)
  have hlatches : t.events.latches = s.restarted.events.latches := h .latches (by decide)
  have hconds : t.events.copies = s.restarted.events.copies := h .conditions (by decide)
  obtain ⟨hnews, hresume, hspacing, hsummary⟩ := h .noticeState (by decide)
  have hsems : t.agent.sems = Vector.replicate 5 none := h .semaphores (by decide)
  have hhealth : t.flight.health = [] := h .healthReports (by decide)
  have hremovals : t.flight.removals = [] := h .removals (by decide)
  have htripleH : t.flight.triples = [] := h .tripleHandovers (by decide)
  have hgradeH : t.flight.grades = [] := h .gradeHandovers (by decide)
  have hnoticeH : t.flight.notices = [] := h .noticeHandovers (by decide)
  refine ⟨t, congrArg Host.Outcome.next (hname.trans ht.symm), congrArg Host.Outcome.next (hname'.trans ht.symm), ?_,
    fun n => ⟨?_, ?_, ?_⟩, fun k => ⟨?_, ?_, ?_, ?_, groupPresent_restarted h k⟩, ?_, fun m => ⟨?_, ?_⟩, fun p => ?_,
    h .windowStart (by decide), fun l => ?_, fun c hc => ?_, hnews, hresume, hspacing, ?_, fun b => ?_,
    h .record (by decide), h .phase (by decide), ?_, ?_⟩
  · rw [hlane, hfabric]; rfl
  · rw [hcands, restarted_cands]; rfl
  · rw [hinputs, restarted_inputs]; rfl
  · have heff : effectiveGrade t n = effectiveGrade s.restarted n :=
      effectiveGrade_congr n hcands htriples (by rw [hgrades]; exact ⟨rfl, rfl, rfl, rfl, rfl, rfl, rfl⟩)
    rw [hgrades, restarted_grades, heff]
    simp only [GradeSlot.restart, GradeSlot.clear, bindTimer_eq, decide_eq_true_eq]
  · rw [hshelves, restarted_shelves]; rfl
  · exact hslices k
  · rw [htriples, restarted_triples]; rfl
  · rw [hcopies, restarted_copies]; rfl
  · rw [restart_engine t.engine hqueue hcount hbudget]; rfl
  · rw [hrmaps, restarted_rmaps]
  · rw [htmaps, restarted_tmaps]
  · rw [hports, restarted_txPorts, TxPort.restart, startMs_s]; rfl
  · rw [hlatches, restarted_latches]
  · rw [hconds, restarted_conditions, dif_neg (Nat.not_le.2 hc)]
  · rw [hsummary, ← startMs_s]; rfl
  · rw [hsems]; exact Vector.getElem_replicate ..
  · exact restart_flight t.flight hhealth hremovals htripleH hgradeH hnoticeH
  · exact (restarted_sameBut s).trans h.mono

end Sys2Proof.Machine
end

section
/-! PROOFS. The state that power-on leaves meets every invariant (O2). -/

namespace Sys2Proof.Machine

-- One theorem after the other: the joined text would otherwise ask for a thread per waiting proof.
set_option Elab.async false

/-! ### The tables at power-on (R34, R51, R53, R74, R107, R129, R150, R162) -/

theorem reset_cands (n : Slot) : State.reset.cands[n] = resetCand := Vector.getElem_replicate ..

theorem reset_inputs (n : Slot) : State.reset.inputs[n] = resetInput := Vector.getElem_replicate ..

theorem reset_grades (n : Slot) : State.reset.grades[n] = resetGrade := Vector.getElem_replicate ..

theorem reset_rxPorts (p : PortId) : State.reset.rxPorts[p] = resetRxPort := Vector.getElem_replicate ..

theorem reset_rmaps (m : MapId) : State.reset.rmaps[m] = identityMap := Vector.getElem_replicate ..

theorem reset_shelves (k : ShelfId) : State.reset.shelves[k] = resetShelf := Vector.getElem_replicate ..

theorem reset_slices (k : ShelfId) : State.reset.slices[k] = resetSlice 0 k := Vector.getElem_ofFn ..

theorem reset_txPorts (p : PortId) : State.reset.txPorts[p] = resetTxPort := Vector.getElem_replicate ..

theorem reset_latches (l : LatchId) : State.reset.events.latches[l] = .clear := Vector.getElem_replicate ..

theorem reset_conditions (c : CondId) : State.reset.events.copies[c] = false := Vector.getElem_replicate ..

theorem resetShelf_entries (e : EntryId) : resetShelf.entries[e] = resetEntry := Vector.getElem_replicate ..

theorem resetShelf_failed (n : Slot) : resetShelf.failed[n] = false := Vector.getElem_replicate ..

/-! ### The invariants at power-on -/

theorem reset_queuesBounded : QueuesBounded State.reset := by unfold QueuesBounded; decide

theorem reset_arbitersServe : ArbitersServe State.reset :=
  ⟨fun _ => ⟨rfl, rfl⟩, fun _ => ⟨rfl, rfl⟩⟩

theorem reset_engineQueueOk : EngineQueueOk State.reset := by unfold EngineQueueOk; decide

/-- Every entry is empty at power-on, so no list holds a slot. -/
theorem reset_listsHaveNoDuplicates : ListsHaveNoDuplicates State.reset := by
  intro k e f he
  rw [reset_shelves, resetShelf_entries] at he
  exact absurd rfl he

/-- No shelf has a target at power-on, so no walk leaves its start. -/
theorem reset_cascadeAcyclic : CascadeAcyclic State.reset := by
  intro k
  show walkReaches State.reset k (Config.walkSteps - 1 + 1) k = false
  unfold walkReaches
  rw [reset_shelves]
  rfl

theorem reset_targetSlot (k : ShelfId) : targetSlot State.reset k = none := by
  unfold targetSlot
  rw [reset_shelves]
  rfl

theorem reset_slicesFollowTargets : SlicesFollowTargets State.reset := by
  intro k
  rw [reset_targetSlot, reset_slices]
  exact ⟨rfl, rfl, fun _ => rfl⟩

theorem resetCand_ok : CandidateOk resetCand := ⟨by decide, rfl, nofun, nofun, nofun⟩

theorem reset_candidatesOk : CandidatesOk State.reset := fun n => by rw [reset_cands]; exact resetCand_ok

/-- Every candidate is of kind NONE at power-on, whose effective grade is fixed (R68, R69). -/
theorem reset_gradesCurrent : GradesCurrent State.reset := by
  intro n
  have hkind : State.reset.cands[n].kind = .none := by rw [reset_cands]; rfl
  unfold effectiveGrade baseRank effectiveHop effectiveOrigin
  rw [hkind, reset_grades]
  rfl

theorem reset_latchesOk : LatchesOk State.reset := by
  refine ⟨by decide, fun l => ⟨fun _ => reset_latches l, fun h => ?_⟩⟩
  rw [reset_latches] at h
  exact absurd h (by decide)

theorem reset_settingsInRange : SettingsInRange State.reset := by
  refine ⟨fun n => ?_, fun k => ?_, fun p => ?_, by decide, by decide, by decide,
    by decide, by decide, by decide, by decide⟩
  · rw [reset_cands, reset_grades]; decide
  · rw [reset_shelves, reset_slices]
    show resetShelf.sel.minRank ≤ 14 ∧ 1 ≤ resetShelf.sel.hopLimit ∧ 1 ≤ resetSliceSettings.lockS ∧
      resetSliceSettings.lockS ≤ 255 ∧ 1 ≤ resetSliceSettings.reportS ∧ resetSliceSettings.reportS ≤ 30 ∧
      resetSliceSettings.settleS ≤ 255 ∧ resetSliceSettings.holdoverRank ≤ resetSliceSettings.freerunRank ∧
      resetSliceSettings.budgetMin ≤ 1440
    decide
  · rw [reset_txPorts]; decide

/-- Every port is out of use at power-on, so none binds a slot. -/
theorem reset_bindingsUnique : BindingsUnique State.reset := by
  have hnone : boundSlots State.reset.rxPorts = [] := by
    refine List.filterMap_eq_nil_iff.2 fun p _ => ?_
    rw [reset_rxPorts]
    rfl
  exact ⟨hnone ▸ List.nodup_nil, fun p _ => by rw [reset_rxPorts]; rfl⟩

theorem reset_targetsListed : TargetsListed State.reset := by
  refine fun k => ⟨fun c hc => ?_, fun n hn => ?_⟩
  · rw [reset_targetSlot] at hc
    exact absurd hc nofun
  · rw [reset_shelves, resetShelf_failed] at hn
    exact absurd hn Bool.false_ne_true

theorem reset_sliceTimersOk : SliceTimersOk State.reset := by
  intro k
  rw [reset_slices]
  exact ⟨nofun, rfl, rfl, nofun, nofun, fun _ => rfl⟩

theorem resetInput_ok : InputOk resetInput :=
  ⟨by decide, by decide, by decide, by decide, nofun, fun _ => ⟨rfl, rfl, rfl, rfl, rfl⟩, nofun, by decide, nofun⟩

theorem reset_inputsOk : InputsOk State.reset := by
  intro n
  rw [reset_inputs, reset_cands]
  exact ⟨resetInput_ok, rfl⟩

theorem reset_heldWithMap : HeldWithMap State.reset := by
  intro n
  rw [reset_rmaps, reset_grades]
  exact ⟨rfl, fun _ => rfl⟩

/-- Every list is empty at power-on (R154). -/
theorem reset_groupPresent (k : ShelfId) : groupPresent State.reset k = false := by
  refine List.any_eq_false.2 fun e _ => ?_
  have hpriority : State.reset.shelves[k].entries[e].priority = 0 := by
    rw [reset_shelves, resetShelf_entries]
    rfl
  rw [hpriority]
  exact Bool.false_ne_true

theorem reset_conditionsCurrent : ConditionsCurrent State.reset := by
  intro c
  rw [reset_conditions]
  unfold conditionNow
  split
  · rw [reset_grades]; rfl
  · split
    · rw [reset_inputs]; rfl
    · split
      · rw [reset_slices]; rfl
      · exact (reset_groupPresent _).symm

/-! ### The settled statement -/

/-- Settles O2: power-on reads of the old state the oscillator count, the reset line and the queue only. -/
theorem resetIsPowerOnAndSafe : Obligations.ResetIsPowerOnAndSafe := by
  refine ⟨fun s hosc hlevel hpending => ?_, reset_queuesBounded, reset_arbitersServe, reset_engineQueueOk,
    reset_listsHaveNoDuplicates, reset_cascadeAcyclic, reset_slicesFollowTargets, reset_candidatesOk,
    reset_gradesCurrent, reset_latchesOk, trivial, powerOn_portsOk 0 0 false _ [], reset_settingsInRange,
    reset_bindingsUnique, reset_targetsListed, reset_sliceTimersOk, reset_inputsOk, reset_heldWithMap,
    reset_conditionsCurrent⟩
  have hrun : powerUp 0 s = State.reset := by
    unfold powerUp State.reset
    rw [hosc, hlevel, hpending]
  exact congrArg Host.Outcome.next hrun

end Sys2Proof.Machine
end

section
/-! PROOFS. The candidate state machine: health reports, the candidate timers and power-up (O4, O14, O16). -/

namespace Sys2Proof.Machine

-- One theorem after the other: the joined text would otherwise ask for a thread per waiting proof.
set_option Elab.async false

/-! ### Frames -/

/-- A part that reads the same can be left out of a frame. -/
theorem sameBut.drop {p : Part} {ps : List Part} {s t : State} (h : sameBut (p :: ps) s t) (hp : p.same s t) :
    sameBut ps s t := by
  intro q hq
  by_cases hqp : q = p
  · exact hqp ▸ hp
  · exact h q fun hm => (List.mem_cons.1 hm).elim hqp hq

/-! ### Power-up (R34) -/

/-- Out of power-on or of the reset line comes the power-on state, under some straps, level and record (R16). -/
theorem PoweredUp.eq_powerOn {s t : State} (h : PoweredUp s t) :
    ∃ straps level record, t = State.powerOn s.osc straps level record s.pending := by
  obtain ⟨straps, h | ⟨hlevel, h⟩⟩ := h
  · exact ⟨straps, _, _, (exec_eq_of_next (u := powerUp straps s) h rfl).trans rfl⟩
  · have hrun : releaseReset straps s = State.powerOn s.osc straps false { s.agent.record with resetLine := true }
        s.pending := if_pos hlevel
    exact ⟨straps, _, _, (exec_eq_of_next (u := releaseReset straps s) h rfl).trans hrun⟩

/-- Settles O4: each slot is that of the power-on state. -/
theorem powerUpCandidates : Obligations.PowerUpCandidates := by
  intro s t h
  obtain ⟨straps, level, record, rfl⟩ := h.eq_powerOn
  exact ⟨fun n => ⟨Vector.getElem_replicate .., Vector.getElem_replicate ..,
    congrArg TickInput.watched (Vector.getElem_replicate ..)⟩, rfl, rfl⟩

/-! ### A health report at a candidate (R19 to R23) -/

section
variable {c : Cand} {now : Nat}

theorem Cand.takeHealth_idle (h : Bool) (hst : c.state = .idle) : c.takeHealth now h = c := by
  simp only [Cand.takeHealth, hst]

/-- A health report that agrees with the state is only stored. -/
theorem Cand.takeHealth_stored (h : Bool)
    (hst : c.state = .down ∧ h = false ∨ c.state = .restoring ∧ h = true ∨ c.state = .available ∧ h = true ∨
      c.state = .suspect ∧ h = false) :
    c.takeHealth now h = { c with health := h } := by
  rcases hst with ⟨hst, rfl⟩ | ⟨hst, rfl⟩ | ⟨hst, rfl⟩ | ⟨hst, rfl⟩ <;> simp only [Cand.takeHealth, hst]

theorem Cand.takeHealth_down (hst : c.state = .down) :
    c.takeHealth now true = Cand.recover now { c with health := true } := by
  simp only [Cand.takeHealth, hst]

theorem Cand.takeHealth_restoring (hst : c.state = .restoring) :
    c.takeHealth now false = { c with health := false, state := .down, timer := .none } := by
  simp only [Cand.takeHealth, hst, Cand.enterDown]

theorem Cand.takeHealth_available (hst : c.state = .available) :
    c.takeHealth now false = Cand.fail now { c with health := false } := by
  simp only [Cand.takeHealth, hst]

theorem Cand.takeHealth_suspect (hst : c.state = .suspect) :
    c.takeHealth now true = { c with health := true, state := .available, fresh := false, timer := .none } := by
  simp only [Cand.takeHealth, hst, Cand.enterAvailable]

/-- A fresh candidate recovers at once (R21). -/
theorem Cand.recover_fresh (hf : c.fresh = true) :
    c.recover now = { c with state := .available, fresh := false, timer := .none } := by
  simp only [Cand.recover, hf, if_true, Cand.enterAvailable]

theorem Cand.recover_wtr (hf : c.fresh = false) (hw : 0 < c.wtrS) (hm : c.maintHold = false) :
    c.recover now = { c with state := .restoring, timer := .wtr (now + c.wtrS * 125000000) } := by
  simp [Cand.recover, hf, hw, Cand.startWtr, hm, Config.periodsPerS]

theorem Cand.recover_held (hf : c.fresh = false) (hm : c.maintHold = true) :
    c.recover now = { c with state := .restoring, timer := .wtrPaused (c.wtrS * 125000000) } := by
  simp [Cand.recover, hf, Cand.startWtr, hm, Config.periodsPerS]

theorem Cand.recover_noWtr (hf : c.fresh = false) (hw : c.wtrS = 0) (hm : c.maintHold = false) :
    c.recover now = { c with state := .available, fresh := false, timer := .none } := by
  simp [Cand.recover, hf, hw, hm, Cand.enterAvailable]

/-- An available candidate that fails is held off, when it has a hold-off (R23). -/
theorem Cand.fail_eq :
    c.fail now =
      if 0 < c.holdOffMs then { c with state := .suspect, timer := .holdOff (now + c.holdOffMs * 125000) }
      else { c with state := .down, timer := .none } := rfl

end

/-! ### What a change of state hands on (R30 to R32) -/

/-- A commit that rebinds nothing: it only stores the record, or tells the change of state, with the removal when the
candidate was AVAILABLE. -/
theorem commitCand_handsOn (n : Slot) (c : Cand) (s : State) :
    if c.state = s.cands[n].state then sameBut [.cands] s (commitCand n c false s)
    else
      candStateTold n s (commitCand n c false s) ∧
        (commitCand n c false s).flight.removals =
          (if s.cands[n].state = .available then s.flight.removals ++ [n] else s.flight.removals) := by
  split <;> rename_i hst
  · rw [commitCand_quiet n c s hst.symm]
    exact setCand_sameBut s n c
  · refine ⟨commitCand_told n c false s (.inl (Ne.symm hst)), ?_⟩
    simp only [commitCand_removals, ne_eq, Ne.symm hst, not_false_eq_true, true_or, true_and]

/-- HEALTH_REPORT takes the oldest report of the slot. -/
theorem takeHealthReport_oldest (n : Slot) (h : Bool) (before after : List (Slot × Bool)) (s : State)
    (hq : s.flight.health = before ++ (n, h) :: after) (hb : ∀ x ∈ before, x.1 ≠ n) :
    takeHealthReport n s =
      commitCand n (s.cands[n].takeHealth s.osc h) false (s.setFlight { s.flight with health := before ++ after }) := by
  unfold takeHealthReport
  rw [hq, takeFirst_append _ before after (n, h) (decide_eq_true rfl) fun x hx => decide_eq_false (hb x hx)]

theorem setFlight_health_sameBut (s : State) (l : List (Slot × Bool)) :
    sameBut [.healthReports] s (s.setFlight { s.flight with health := l }) := by
  intro p hp; cases p <;> simp_all [Part.same]

/-- Settles O14: the record is the one that `Cand.takeHealth` gives, and the commit hands its change of state on. -/
theorem healthReportMovesCandidate : Obligations.HealthReportMovesCandidate := by
  intro n h before after s hq hb
  obtain ⟨s1, hs1⟩ : ∃ s1, s1 = s.setFlight { s.flight with health := before ++ after } := ⟨_, rfl⟩
  obtain ⟨t, ht⟩ : ∃ t, t = commitCand n (s.cands[n].takeHealth s.osc h) false s1 := ⟨_, rfl⟩
  have hrun : takeHealthReport n s = t := by rw [takeHealthReport_oldest n h before after s hq hb, ht, hs1]
  have h01 : sameBut [.healthReports] s s1 := hs1 ▸ setFlight_health_sameBut s _
  have h1t := commitCand_sameBut n (s.cands[n].takeHealth s.osc h) false s1
  rw [← ht] at h1t
  have hcands : ∀ m : Slot, t.cands[m] = if n = m then s.cands[n].takeHealth s.osc h else s.cands[m] := fun m => by
    rw [ht, commitCand_at, hs1, State.setFlight_cands]
  have hn : t.cands[n] = s.cands[n].takeHealth s.osc h := by rw [hcands, if_pos rfl]
  have hhealth : t.flight.health = before ++ after := by
    rw [h1t .healthReports (by decide), hs1]; rfl
  refine ⟨t, congrArg Host.Outcome.next hrun, hhealth, fun hst => ?_, fun hst hh => ⟨fun hf => ?_, fun hf hw hm => ?_,
    fun hf hm => ?_, fun hf hw hm => ?_⟩, fun hst hh => ?_, fun hst hh => ?_, fun hst hh => ?_, fun hst => ?_,
    fun m hm => ?_, ?_⟩
  · rw [hn, Cand.takeHealth_idle h hst]
  · rw [hn, hh, Cand.takeHealth_down hst]; exact Cand.recover_fresh hf
  · rw [hn, hh, Cand.takeHealth_down hst]; exact Cand.recover_wtr hf hw hm
  · rw [hn, hh, Cand.takeHealth_down hst]; exact Cand.recover_held hf hm
  · rw [hn, hh, Cand.takeHealth_down hst]; exact Cand.recover_noWtr hf hw hm
  · rw [hn, hh, Cand.takeHealth_restoring hst]
  · rw [hn, hh, Cand.takeHealth_available hst, Cand.fail_eq]
  · rw [hn, hh, Cand.takeHealth_suspect hst]
  · rw [hn, Cand.takeHealth_stored h hst]
  · rw [hcands, if_neg (Ne.symm hm)]
  · have hhanded := commitCand_handsOn n (s.cands[n].takeHealth s.osc h) s1
    rw [← ht, ← hn] at hhanded
    subst hs1
    rw [State.setFlight_cands] at hhanded
    split <;> rename_i hst
    · rw [if_pos hst] at hhanded
      exact h01.andThen hhanded
    · rw [if_neg hst] at hhanded
      exact ⟨hhanded.1, hhanded.2, h01.andThen h1t⟩

/-! ### The candidate timers (R22, R23) -/

/-- The commit of an expiry moves a candidate that was not AVAILABLE, so no removal is handed over. -/
theorem commitCand_expired (n : Slot) (c : Cand) (due : Nat) (s t : State)
    (ht : t = commitCand n c false (s.advanceTo due)) (hst : s.cands[n].state ≠ c.state)
    (hav : s.cands[n].state ≠ .available) :
    t.osc = max s.osc due ∧ t.cands = s.cands.set n c ∧ candStateTold n s t ∧
      sameBut [.osc, .cands, .latches, .conditions, .noticeState, .control, .queue] s t := by
  have hframe := commitCand_sameBut n c false (s.advanceTo due)
  have hremovals : t.flight.removals = s.flight.removals := by
    rw [ht, commitCand_removals, if_neg fun h => hav h.2]
    rfl
  refine ⟨?_, ?_, ?_, sameBut.drop (p := .removals) ?_ hremovals⟩
  · rw [ht, hframe .osc (by decide)]; rfl
  · rw [ht, commitCand_cands]; rfl
  · rw [ht]; exact commitCand_told n c false (s.advanceTo due) (.inl hst)
  · rw [ht]; exact (advanceTo_sameBut s due).andThen hframe

/-- Settles O16, by what the commit of an expiry does. -/
theorem candidateTimersExpire : Obligations.CandidateTimersExpire := by
  refine fun n due s => ⟨fun hst htimer => ?_, fun hst htimer => ?_⟩
  · have hrun : expireHoldOff n s = commitCand n s.cands[n].enterDown false (s.advanceTo due) := by
      unfold expireHoldOff; rw [hst, htimer]
    exact ⟨_, congrArg Host.Outcome.next hrun,
      commitCand_expired n s.cands[n].enterDown due s _ rfl
        (by rw [hst]; exact (nofun : CandState.suspect ≠ CandState.down)) (by rw [hst]; decide)⟩
  · have hrun : expireWtr n s = commitCand n s.cands[n].enterAvailable false (s.advanceTo due) := by
      unfold expireWtr; rw [hst, htimer]
    exact ⟨_, congrArg Host.Outcome.next hrun,
      commitCand_expired n s.cands[n].enterAvailable due s _ rfl
        (by rw [hst]; exact (nofun : CandState.restoring ≠ CandState.available)) (by rw [hst]; decide)⟩

end Sys2Proof.Machine
end

section
/-! PROOFS. What every command keeps of the candidates and of the tick inputs (O58). -/

namespace Sys2Proof.Machine

-- One theorem after the other: the joined text would otherwise ask for a thread per waiting proof.
set_option Elab.async false

/-! ### A legal candidate (R19 to R25) -/

/-- The binding fields of a candidate, as a write of them carries them (R18). -/
def Cand.binding (c : Cand) : BindingWrite :=
  { kind := c.kind, source := c.source, holdOffMs := c.holdOffMs, wtrS := c.wtrS, maintHold := c.maintHold }

section
variable {c : Cand}

/-- A candidate without health is legal in DOWN with no timer. -/
theorem candidateOk_down (hk : c.kind ≠ .none) (hst : c.state = .down) (hh : c.health = false)
    (ht : c.timer = .none) : CandidateOk c := by
  unfold CandidateOk
  rw [hst, hh, ht]
  exact ⟨iff_of_false nofun hk, rfl, nofun, nofun, nofun⟩

/-- A healthy candidate that is not fresh is legal in AVAILABLE with no timer. -/
theorem candidateOk_available (hk : c.kind ≠ .none) (hst : c.state = .available) (hh : c.health = true)
    (hf : c.fresh = false) (ht : c.timer = .none) : CandidateOk c := by
  unfold CandidateOk
  rw [hst, hh, ht]
  exact ⟨iff_of_false nofun hk, rfl, fun _ => hf, nofun, nofun⟩

/-- A healthy candidate is legal in RESTORING with a WTR timer, paused exactly under the maintenance hold. -/
theorem candidateOk_restoring (hk : c.kind ≠ .none) (hst : c.state = .restoring) (hh : c.health = true)
    (ht : c.maintHold = false ∧ (∃ due, c.timer = .wtr due) ∨ c.maintHold = true ∧ ∃ left, c.timer = .wtrPaused left) :
    CandidateOk c := by
  unfold CandidateOk
  rw [hst, hh]
  refine ⟨iff_of_false nofun hk, rfl, nofun, ?_⟩
  rcases ht with ⟨hm, due, ht⟩ | ⟨hm, left, ht⟩ <;> rw [ht] <;> exact ⟨rfl, hm⟩

/-- A candidate without health is legal in SUSPECT with a hold-off timer. -/
theorem candidateOk_suspect (hk : c.kind ≠ .none) (hst : c.state = .suspect) (hh : c.health = false)
    (ht : ∃ due, c.timer = .holdOff due) : CandidateOk c := by
  obtain ⟨due, ht⟩ := ht
  unfold CandidateOk
  rw [hst, hh, ht]
  exact ⟨iff_of_false nofun hk, rfl, nofun, rfl⟩

/-- An unbound candidate is legal in IDLE with no timer. -/
theorem candidateOk_idle (hk : c.kind = .none) (hst : c.state = .idle) (hh : c.health = false)
    (ht : c.timer = .none) : CandidateOk c := by
  unfold CandidateOk
  rw [hst, hh, ht]
  exact ⟨iff_of_true rfl hk, rfl, nofun, nofun, nofun⟩

theorem CandidateOk.kind_ne (h : CandidateOk c) (hst : c.state ≠ .idle) : c.kind ≠ .none := fun hk => hst (h.1.2 hk)

theorem CandidateOk.health_eq (h : CandidateOk c) :
    c.health = (decide (c.state = .restoring) || decide (c.state = .available)) := h.2.1

/-- A RESTORING candidate has a WTR timer, paused exactly under the maintenance hold. -/
theorem CandidateOk.timer_restoring (h : CandidateOk c) (hst : c.state = .restoring) :
    c.maintHold = false ∧ (∃ due, c.timer = .wtr due) ∨ c.maintHold = true ∧ ∃ left, c.timer = .wtrPaused left := by
  obtain ⟨-, -, -, htimer⟩ := h
  cases ht : c.timer with
  | none => rw [ht] at htimer; exact absurd hst htimer.1
  | holdOff due => rw [ht] at htimer; exact absurd (hst.symm.trans htimer) nofun
  | wtr due => rw [ht] at htimer; exact .inl ⟨htimer.2, due, rfl⟩
  | wtrPaused left => rw [ht] at htimer; exact .inr ⟨htimer.2, left, rfl⟩

/-- Legality does not read the source, the hold-off and the WTR; nor the maintenance hold, where no WTR timer is. -/
theorem CandidateOk.congr {d : Cand} (h : CandidateOk c) (hk : d.kind = .none ↔ c.kind = .none)
    (hst : d.state = c.state) (hf : d.fresh = c.fresh) (hh : d.health = c.health) (ht : d.timer = c.timer)
    (hm : c.state = .restoring → d.maintHold = c.maintHold) : CandidateOk d := by
  obtain ⟨hidle, hhealth, hfresh, htimer⟩ := h
  refine ⟨?_, ?_, ?_, ?_⟩
  · rw [hst, hk]; exact hidle
  · rw [hh, hst]; exact hhealth
  · rw [hst, hf]; exact hfresh
  · rw [ht]
    cases hc : c.timer with
    | none => rw [hc] at htimer; rw [hst]; exact htimer
    | holdOff due => rw [hc] at htimer; rw [hst]; exact htimer
    | wtr due => rw [hc] at htimer; rw [hst, hm htimer.1]; exact htimer
    | wtrPaused left => rw [hc] at htimer; rw [hst, hm htimer.1]; exact htimer

/-- A healthy candidate that recovers is AVAILABLE, or RESTORING with its WTR timer (R21). -/
theorem Cand.recover_ok (now : Nat) (hk : c.kind ≠ .none) (hh : c.health = true) : CandidateOk (c.recover now) := by
  have havailable : CandidateOk c.enterAvailable := candidateOk_available hk rfl hh rfl rfl
  unfold Cand.recover
  split
  · exact havailable
  · split
    · refine candidateOk_restoring hk rfl hh ?_
      dsimp only [Cand.startWtr]
      split <;> rename_i hm
      · exact .inr ⟨hm, _, rfl⟩
      · exact .inl ⟨Bool.eq_false_iff.2 hm, _, rfl⟩
    · exact havailable

/-- An available candidate that fails is SUSPECT with its hold-off timer, or DOWN (R23). -/
theorem Cand.fail_ok (now : Nat) (hk : c.kind ≠ .none) (hh : c.health = false) : CandidateOk (c.fail now) := by
  rw [Cand.fail_eq]
  split
  · exact candidateOk_suspect hk rfl hh ⟨_, rfl⟩
  · exact candidateOk_down hk rfl hh rfl

theorem Cand.takeHealth_ok (now : Nat) (h : Bool) (hc : CandidateOk c) : CandidateOk (c.takeHealth now h) := by
  have hstored : c.health = h → CandidateOk { c with health := h } := by rintro rfl; exact hc
  have hhealth := hc.health_eq
  cases hst : c.state with
  | idle => rw [Cand.takeHealth_idle h hst]; exact hc
  | down =>
    rw [hst] at hhealth
    cases h with
    | true => rw [Cand.takeHealth_down hst]; exact Cand.recover_ok now (hc.kind_ne (by rw [hst]; nofun)) rfl
    | false => rw [Cand.takeHealth_stored _ (.inl ⟨hst, rfl⟩)]; exact hstored hhealth
  | restoring =>
    rw [hst] at hhealth
    cases h with
    | true => rw [Cand.takeHealth_stored _ (.inr (.inl ⟨hst, rfl⟩))]; exact hstored hhealth
    | false =>
      rw [Cand.takeHealth_restoring hst]
      exact candidateOk_down (c := { c with health := false, state := .down, timer := .none })
        (hc.kind_ne (by rw [hst]; nofun)) rfl rfl rfl
  | available =>
    rw [hst] at hhealth
    cases h with
    | true => rw [Cand.takeHealth_stored _ (.inr (.inr (.inl ⟨hst, rfl⟩)))]; exact hstored hhealth
    | false => rw [Cand.takeHealth_available hst]; exact Cand.fail_ok now (hc.kind_ne (by rw [hst]; nofun)) rfl
  | suspect =>
    rw [hst] at hhealth
    cases h with
    | true =>
      rw [Cand.takeHealth_suspect hst]
      exact candidateOk_available (c := { c with health := true, state := .available, fresh := false, timer := .none })
        (hc.kind_ne (by rw [hst]; nofun)) rfl rfl rfl rfl
    | false => rw [Cand.takeHealth_stored _ (.inr (.inr (.inr ⟨hst, rfl⟩)))]; exact hstored hhealth

theorem Cand.expireHoldOff_ok (hc : CandidateOk c) (hst : c.state = .suspect) : CandidateOk c.enterDown := by
  have hhealth := hc.health_eq
  rw [hst] at hhealth
  exact candidateOk_down (hc.kind_ne (by rw [hst]; nofun)) rfl hhealth rfl

theorem Cand.expireWtr_ok (hc : CandidateOk c) (hst : c.state = .restoring) : CandidateOk c.enterAvailable := by
  have hhealth := hc.health_eq
  rw [hst] at hhealth
  exact candidateOk_available (hc.kind_ne (by rw [hst]; nofun)) rfl hhealth rfl rfl

theorem Cand.restart_ok (c : Cand) : CandidateOk c.restart := by
  unfold Cand.restart
  by_cases hk : c.kind = .none
  · rw [if_pos hk]
    exact candidateOk_idle hk rfl rfl rfl
  · rw [if_neg hk]
    exact candidateOk_down hk rfl rfl rfl

/-- The maintenance hold set or cleared by a write pauses or resumes the WTR timer (R25): `d` is the record before the
timer follows, `was` the hold before the write. -/
theorem Cand.applyHold_ok {d : Cand} (now : Nat) (hc : CandidateOk c) (hk : d.kind = .none ↔ c.kind = .none)
    (hst : d.state = c.state) (hf : d.fresh = c.fresh) (hh : d.health = c.health) (ht : d.timer = c.timer) :
    CandidateOk (d.applyHold now c.maintHold) := by
  have hhealth := hc.health_eq
  have hkind : d.state = .restoring → d.kind ≠ .none := fun h hkd =>
    hc.kind_ne (by rw [← hst, h]; nofun) (hk.1 hkd)
  have hhealthy : d.state = .restoring → d.health = true := fun h => by rw [hh, hhealth, ← hst, h]; rfl
  unfold Cand.applyHold
  split
  · rename_i due hr _ hm _
    exact candidateOk_restoring (hkind hr) hr (hhealthy hr) (.inr ⟨hm, _, rfl⟩)
  · rename_i left hr _ hm _
    split
    · exact candidateOk_available (hkind hr) rfl (hhealthy hr) rfl rfl
    · exact candidateOk_restoring (hkind hr) hr (hhealthy hr) (.inl ⟨hm, _, rfl⟩)
  · rename_i hpause hresume
    refine hc.congr hk hst hf hh ht fun hr => ?_
    rw [← hst] at hr
    rcases hc.timer_restoring (hst ▸ hr) with ⟨hm, due, hd⟩ | ⟨hm, left, hd⟩ <;> rw [← ht] at hd <;>
      cases hdm : d.maintHold
    · exact hm.symm
    · exact (hpause due hr hm hdm hd).elim
    · exact (hresume left hr hm hdm hd).elim
    · exact hm.symm

theorem Cand.write_ok (now : Nat) (w : BindingWrite) (hc : CandidateOk c) : CandidateOk (c.write now w) := by
  unfold Cand.write
  by_cases hk : c.kind = .none
  · have hst : c.state = .idle := hc.1.2 hk
    rw [if_pos hk]
    split <;> rename_i hw
    · exact hc.congr (iff_of_true hw hk) rfl rfl rfl rfl (by rw [hst]; nofun)
    · exact candidateOk_down hw rfl rfl rfl
  · rw [if_neg hk]
    split <;> rename_i hw
    · exact candidateOk_idle hw rfl rfl rfl
    · split
      · dsimp only
        split <;> rename_i hh
        · exact Cand.recover_ok now hw hh
        · exact candidateOk_down hw rfl (Bool.eq_false_iff.2 hh) rfl
      · exact Cand.applyHold_ok now hc (iff_of_false hw hk) rfl rfl rfl rfl

/-! ### The binding fields move by writes only (R18) -/

theorem Cand.recover_binding (now : Nat) (c : Cand) : (c.recover now).binding = c.binding := by
  unfold Cand.recover
  split
  · rfl
  · split <;> rfl

theorem Cand.takeHealth_binding (now : Nat) (h : Bool) (c : Cand) : (c.takeHealth now h).binding = c.binding := by
  unfold Cand.takeHealth
  split
  case h_2 => exact Cand.recover_binding now _
  case h_7 => rw [Cand.fail_eq]; split <;> rfl
  all_goals rfl

end

/-! ### Commands that start the part over, and the service of requests -/

/-- The commands that end in the power-on state or in the restart, if they do more than end a transmission (R14, R16,
R17). -/
def Instr.startsOver : Instr → Bool
  | .powerOn _ | .resetLineReleased _ | .transmissionEnd _ | .deviceRestart => true
  | _ => false

/-- What holds at power-on, and what the restart and a change of the output ports keep, these commands keep. -/
theorem exec_startsOver_keeps (I : State → Prop)
    (hpower : ∀ now strap level record pending, I (State.powerOn now strap level record pending))
    (hrestart : ∀ s, I s → I (deviceRestart s)) (hlane : ∀ s l, I s → I (s.setLane l)) {c : Instr}
    (hc : Instr.startsOver c = true) {s t : State} (h : exec c s = .next t) (hs : I s) : I t := by
  have hends : ∀ u, (u = deviceRestart s ∨ ∃ l, l.requests = s.lane.requests ∧ u = s.setLane l) → I u := by
    rintro u (hu | ⟨l, -, hu⟩) <;> rw [hu]
    · exact hrestart s hs
    · exact hlane s l hs
  cases c with
  | powerOn a =>
    rw [exec_eq_of_next (u := powerUp a s) h rfl]
    exact hpower _ _ _ _ _
  | resetLineReleased a =>
    rw [exec_eq_of_next (u := releaseReset a s) h rfl]
    unfold releaseReset
    split
    · exact hpower _ _ _ _ _
    · exact hs
  | transmissionEnd port =>
    rw [exec_eq_of_next (u := endTransmission port s) h rfl]
    exact hends _ (endTransmission_cases port s)
  | deviceRestart =>
    rw [exec_eq_of_next (u := endRestartAnswer s) h rfl]
    exact hends _ (endRestartAnswer_cases s)
  | _ => cases hc

/-- What an answer does not touch, and the service of every request keeps, a row of the agent keeps. -/
theorem serveAgent_keeps (I : State → Prop) (hanswer : ∀ s t, sameBut answerParts s t → I s → I t) {row : Instr}
    {check : Request → State → Option RefusalAnswer} {run : Request → State → Served}
    (hrun : ∀ r s, I s → I (run r s).state) (s : State) (hs : I s) : I (serveAgent row check run s) := by
  unfold serveAgent
  split
  · split
    · split
      · exact hs
      · split
        · exact hanswer _ _ (answer_sameBut _ _) hs
        · exact hanswer _ _ (answer_sameBut _ _) (hrun _ s hs)
    · exact hs
  · exact hs

/-- A command that is a row of the agent keeps what the service of its requests keeps. -/
theorem exec_agent_keeps (I : State → Prop) (hanswer : ∀ s t, sameBut answerParts s t → I s → I t) {c row : Instr}
    {check : Request → State → Option RefusalAnswer} {run : Request → State → Served} {s t : State}
    (h : exec c s = .next t) (hc : exec c s = .next (serveAgent row check run s))
    (hrun : ∀ r s, I s → I (run r s).state) (hs : I s) : I t :=
  exec_eq_of_next h hc ▸ serveAgent_keeps I hanswer hrun s hs

/-! ### Every candidate (R19 to R25) -/

theorem CandidatesOk.congr {s t : State} (hs : CandidatesOk s) (h : t.cands = s.cands) : CandidatesOk t := by
  unfold CandidatesOk at *
  rw [h]
  exact hs

/-- One legal record stored. -/
theorem CandidatesOk.set {s t : State} (hs : CandidatesOk s) (n : Slot) (c : Cand) (ht : t.cands = s.cands.set n c)
    (hc : CandidateOk c) : CandidatesOk t := by
  intro m
  rw [ht, getElem_set_fin]
  split
  · exact hc
  · exact hs m

theorem commitCand_candidatesOk (n : Slot) (c : Cand) (b : Bool) (s : State) (hs : CandidatesOk s)
    (hc : CandidateOk c) : CandidatesOk (commitCand n c b s) := hs.set n c (commitCand_cands n c b s) hc

theorem takeHealthReport_candidatesOk (n : Slot) (s : State) (hs : CandidatesOk s) :
    CandidatesOk (takeHealthReport n s) := by
  unfold takeHealthReport
  split
  · exact hs
  · exact commitCand_candidatesOk n _ _ _ (hs.congr rfl) (Cand.takeHealth_ok _ _ (hs n))

theorem expireHoldOff_candidatesOk (n : Slot) (s : State) (hs : CandidatesOk s) : CandidatesOk (expireHoldOff n s) := by
  unfold expireHoldOff
  split
  · rename_i hst _
    exact commitCand_candidatesOk n _ _ _ (hs.congr rfl) (Cand.expireHoldOff_ok (hs n) hst)
  · exact hs

theorem expireWtr_candidatesOk (n : Slot) (s : State) (hs : CandidatesOk s) : CandidatesOk (expireWtr n s) := by
  unfold expireWtr
  split
  · rename_i hst _
    exact commitCand_candidatesOk n _ _ _ (hs.congr rfl) (Cand.expireWtr_ok (hs n) hst)
  · exact hs

theorem writeCandidate_candidatesOk (n : Slot) (bw : BindingWrite) (gw : GradeWrite) (fw : FrequencyWrite) (s : State)
    (hs : CandidatesOk s) : CandidatesOk (writeCandidate n bw gw fw s) :=
  hs.set n _ (writeCandidate_spec n bw gw fw s _ rfl).1 (Cand.write_ok _ bw (hs n))

/-- The candidates after the restart (R35). -/
theorem deviceRestart_cands (s : State) (n : Slot) : (deviceRestart s).cands[n] = s.cands[n].restart := by
  have hcands : (deviceRestart s).cands = s.restarted.cands := deviceRestart_directs s .cands (by decide)
  rw [hcands, restarted_cands]

theorem deviceRestart_inputs (s : State) (n : Slot) : (deviceRestart s).inputs[n] = s.inputs[n].enterMissing := by
  have hinputs : (deviceRestart s).inputs = s.restarted.inputs := deviceRestart_directs s .inputs (by decide)
  rw [hinputs, restarted_inputs]

theorem powerOn_cands (now : Nat) (strap : Address) (level : Bool) (record : RestartRecord) (pending : List Instr)
    (n : Slot) : (State.powerOn now strap level record pending).cands[n] = resetCand := Vector.getElem_replicate ..

theorem powerOn_inputs (now : Nat) (strap : Address) (level : Bool) (record : RestartRecord) (pending : List Instr)
    (n : Slot) : (State.powerOn now strap level record pending).inputs[n] = resetInput := Vector.getElem_replicate ..

theorem CandidatesOk.of_next {c : Instr} {s t u : State} (hu : CandidatesOk u) (h : exec c s = .next t)
    (he : exec c s = .next u) : CandidatesOk t := exec_eq_of_next h he ▸ hu

/-- A command whose frame does not name the candidates keeps them. -/
theorem CandidatesOk.of_frame {c : Instr} {s t : State} (hs : CandidatesOk s) (h : exec c s = .next t)
    (hd : decide (Part.cands ∉ commandParts c) = true := by rfl) : CandidatesOk t :=
  hs.congr (exec_sameBut c s t h .cands (of_decide_eq_true hd))

theorem exec_keeps_candidates (c : Instr) (s t : State) (h : exec c s = .next t) (hs : CandidatesOk s) :
    CandidatesOk t := by
  cases c with
  | powerOn | resetLineReleased | transmissionEnd | deviceRestart =>
    exact exec_startsOver_keeps CandidatesOk (fun _ _ _ _ _ n => by rw [powerOn_cands]; exact resetCand_ok)
      (fun s _ n => by rw [deviceRestart_cands]; exact Cand.restart_ok _) (fun _ _ hs => hs.congr rfl) rfl h hs
  | healthReport n => exact (takeHealthReport_candidatesOk n s hs).of_next h rfl
  | holdOffExpiry n => exact (expireHoldOff_candidatesOk n s hs).of_next h rfl
  | wtrExpiry n => exact (expireWtr_candidatesOk n s hs).of_next h rfl
  | writeCandidate =>
    exact exec_agent_keeps CandidatesOk (fun _ _ hframe hs => hs.congr (hframe .cands (by decide))) h rfl
      (fun _ s => writeCandidate_candidatesOk _ _ _ _ s) hs
  | _ => exact hs.of_frame h

/-! ### A well-formed tick input (R36 to R48) -/

section
variable {i : TickInput}

/-- A MISSING input that holds nothing is well formed with its settings in range. -/
theorem inputOk_missing (hw : 1 ≤ i.windowLen ∧ i.windowLen ≤ 16) (hl : i.acceptPpb ≤ i.rejectPpb ∧ i.rejectPpb ≤ 20000)
    (ha : i.active = false) (hg : i.gate = none) (hwin : i.window = []) (ho : i.offset = none)
    (hq : i.qualified = false) (hb : i.beyond = false) : InputOk i := by
  unfold InputOk
  rw [ha, hg, hwin, ho]
  exact ⟨hw.1, hw.2, hl.1, hl.2, nofun, fun _ => ⟨rfl, rfl, rfl, hq, hb⟩, nofun, Nat.zero_le _, nofun⟩

theorem InputOk.enterMissing (h : InputOk i) : InputOk i.enterMissing := by
  obtain ⟨hlow, hhigh, hle, hmax, -⟩ := h
  exact inputOk_missing ⟨hlow, hhigh⟩ ⟨hle, hmax⟩ rfl rfl rfl rfl rfl rfl

theorem InputOk.watch (watched : Bool) (h : InputOk i) : InputOk (i.watch watched) := by
  obtain ⟨hlow, hhigh, hle, hmax, -⟩ := h
  exact inputOk_missing ⟨hlow, hhigh⟩ ⟨hle, hmax⟩ rfl rfl rfl rfl rfl rfl

/-- The window never holds more than W counts (R40). -/
theorem joinWindow_length (w : Nat) (counts : List Nat) (count : Nat) : (joinWindow w counts count).length ≤ w := by
  unfold joinWindow
  rw [List.length_drop, List.length_append, List.length_singleton]
  omega

/-- An offset lies within 50,000 ppb (R42, R43). -/
theorem windowOffset_range (k : Int) (w : Nat) (counts : List Nat) :
    -50000 ≤ (windowOffset k w counts).1 ∧ (windowOffset k w counts).1 ≤ 50000 := by
  unfold windowOffset
  split
  · dsimp only [clampOffset, Config.offsetMax]
    omega
  · dsimp only [Config.offsetMax]
    split <;> omega

/-- A completed gate leaves settings, watching and activity, a window of at most W counts and an offset in range. -/
theorem TickInput.completeGate_spec (k : Int) (count : Nat) (i : TickInput) :
    (i.completeGate k count).windowLen = i.windowLen ∧ (i.completeGate k count).acceptPpb = i.acceptPpb ∧
      (i.completeGate k count).rejectPpb = i.rejectPpb ∧ (i.completeGate k count).watched = i.watched ∧
      (i.completeGate k count).active = i.active ∧ (i.completeGate k count).window.length ≤ i.windowLen ∧
      ∀ o, (i.completeGate k count).offset = some o → i.offset = some o ∨ -50000 ≤ o ∧ o ≤ 50000 := by
  have hlength := joinWindow_length i.windowLen i.window count
  unfold TickInput.completeGate
  dsimp only
  split
  · refine ⟨rfl, rfl, rfl, rfl, rfl, hlength, fun o ho => .inr ?_⟩
    obtain rfl := Option.some.inj ho
    exact windowOffset_range _ _ _
  · exact ⟨rfl, rfl, rfl, rfl, rfl, hlength, fun _ => .inl⟩

theorem TickInput.takeTick_watched (now : Nat) (k : Int) (i : TickInput) : (i.takeTick now k).watched = i.watched := by
  unfold TickInput.takeTick TickInput.countTick
  split
  · split
    · rfl
    · split
      · rfl
      · exact (TickInput.completeGate_spec _ _ i).2.2.2.1
  · rfl

/-- A tick on an ACTIVE input opens a gate, is counted, or closes the gate and opens the next (R39). -/
theorem InputOk.countTick (now : Nat) (k : Int) (ha : i.active = true) (h : InputOk i) :
    InputOk (i.countTick now k) := by
  obtain ⟨hlow, hhigh, hle, hmax, hwatched, -, hgate, hwindow, hoffset⟩ := h
  have hmissing : i.active = false → False := fun hf => Bool.noConfusion (ha.symm.trans hf)
  unfold TickInput.countTick
  split
  · exact ⟨hlow, hhigh, hle, hmax, hwatched, fun hf => (hmissing hf).elim,
      fun g hg => by cases hg; exact (by decide : (0 : ℕ) < 8000), hwindow, hoffset⟩
  · split <;> rename_i hticks
    · exact ⟨hlow, hhigh, hle, hmax, hwatched, fun hf => (hmissing hf).elim,
        fun g hg => by cases hg; exact hticks, hwindow, hoffset⟩
    · obtain ⟨hw, hacc, hrej, hwd, hact, hwin, hoff⟩ := TickInput.completeGate_spec k (now - _) i
      refine ⟨hw ▸ hlow, hw ▸ hhigh, ?_, hrej ▸ hmax, fun _ => hwd ▸ hwatched ha,
        fun hf => (hmissing (hact ▸ hf)).elim, fun g hg => by cases hg; exact (by decide : (0 : ℕ) < 8000), hw ▸ hwin,
        fun o ho => (hoff o ho).elim (hoffset o) id⟩
      rw [hacc, hrej]
      exact hle

theorem InputOk.takeTick (now : Nat) (k : Int) (hw : i.watched = true) (h : InputOk i) :
    InputOk (i.takeTick now k) := by
  unfold TickInput.takeTick
  split
  · exact h.countTick now k (by assumption)
  · obtain ⟨hlow, hhigh, hle, hmax, -, -, hgate, hwindow, hoffset⟩ := h
    exact ⟨hlow, hhigh, hle, hmax, fun _ => hw, nofun, hgate, hwindow, hoffset⟩

/-- The frequency settings in their ranges (R47, R48). -/
def FrequencyWrite.InRange (w : FrequencyWrite) : Prop :=
  1 ≤ w.windowLen ∧ w.windowLen ≤ 16 ∧ w.acceptPpb ≤ w.rejectPpb ∧ w.rejectPpb ≤ 20000

theorem frequencyOf_inRange (b : List Byte) : (frequencyOf b).InRange := by
  unfold FrequencyWrite.InRange frequencyOf storedWindow storedLimit
  dsimp only
  omega

theorem InputOk.write (w : FrequencyWrite) (hw : w.InRange) (h : InputOk i) : InputOk (i.write w) := by
  obtain ⟨hlow, hhigh, hle, hmax⟩ := hw
  obtain ⟨-, -, -, -, hwatched, hmissing, hgate, hwindow, hoffset⟩ := h
  refine ⟨hlow, hhigh, hle, hmax, hwatched, fun ha => ?_, hgate, ?_, hoffset⟩
  · obtain ⟨hg, hwin, ho, hq, hb⟩ := hmissing ha
    refine ⟨hg, ?_, ho, hq, hb⟩
    show (if w.windowLen = i.windowLen then i.window else []) = []
    rw [hwin, ite_self]
  · show (if w.windowLen = i.windowLen then i.window else []).length ≤ w.windowLen
    split <;> rename_i hsame
    · exact hsame ▸ hwindow
    · exact Nat.zero_le _

end

/-! ### Every tick input, watched exactly when its slot is bound (R36) -/

/-- Inputs as they were, at slots whose kinds are as they were. -/
theorem InputsOk.congr {s t : State} (hs : InputsOk s) (hi : t.inputs = s.inputs)
    (hk : ∀ n : Slot, t.cands[n].kind = s.cands[n].kind) : InputsOk t := by
  intro n
  rw [hi, hk]
  exact hs n

/-- One well-formed input stored, watched as before. -/
theorem InputsOk.set {s t : State} (hs : InputsOk s) (n : Slot) (i : TickInput) (hi : t.inputs = s.inputs.set n i)
    (hc : t.cands = s.cands) (hok : InputOk i) (hw : i.watched = s.inputs[n].watched) : InputsOk t := by
  intro m
  rw [hi, hc, getElem_set_fin]
  split <;> rename_i hm
  · exact ⟨hok, hm ▸ hw.trans (hs n).2⟩
  · exact hs m

theorem commitInput_inputsOk (n : Slot) (i : TickInput) (s : State) (hs : InputsOk s) (hok : InputOk i)
    (hw : i.watched = s.inputs[n].watched) : InputsOk (commitInput n i s) :=
  hs.set n i (commitInput_inputs n i s) (commitInput_sameBut n i s .cands (by decide)) hok hw

/-- A commit of a candidate that keeps its kind keeps the inputs. -/
theorem commitCand_inputsOk (n : Slot) (c : Cand) (b : Bool) (s : State) (hs : InputsOk s)
    (hk : c.kind = s.cands[n].kind) : InputsOk (commitCand n c b s) := by
  refine hs.congr (commitCand_sameBut n c b s .inputs (by decide)) fun m => ?_
  rw [commitCand_at]
  split <;> rename_i hm
  · exact hm ▸ hk
  · rfl

theorem loseTicks_inputsOk (n : Slot) (s : State) (hs : InputsOk s) : InputsOk (loseTicks n s) := by
  unfold loseTicks
  split
  · exact commitInput_inputsOk n _ _ (hs.congr rfl fun _ => rfl) (hs n).1.enterMissing rfl
  · exact hs

/-- A tick loss leaves the watching of its input as it was. -/
theorem loseTicks_watched (n : Slot) (s : State) : (loseTicks n s).inputs[n].watched = s.inputs[n].watched := by
  unfold loseTicks
  split
  · simp only [commitInput_inputs, getElem_set_fin, if_true]; rfl
  · rfl

theorem takeTick_inputsOk (n : Slot) (d : Nat) (s : State) (hs : InputsOk s) : InputsOk (takeTick n d s) := by
  have h1 : InputsOk (s.advanceTo (s.osc + d)) := hs.congr rfl fun _ => rfl
  generalize hs1 : s.advanceTo (s.osc + d) = s1 at h1
  have hlost : ∀ b : Bool, InputsOk (if b then loseTicks n s1 else s1) ∧
      (if b then loseTicks n s1 else s1).inputs[n].watched = s1.inputs[n].watched := by
    intro b
    cases b
    · exact ⟨h1, rfl⟩
    · exact ⟨loseTicks_inputsOk n s1 h1, loseTicks_watched n s1⟩
  unfold takeTick
  rw [hs1]
  dsimp only
  split <;> rename_i hw
  · obtain ⟨hok, hwatched⟩ := hlost (s1.inputs[n].active && decide (s1.inputs[n].lastTick + Config.lossSpan < s1.osc))
    exact commitInput_inputsOk n _ _ hok ((hok n).1.takeTick _ _ (hwatched.trans hw)) (TickInput.takeTick_watched _ _ _)
  · exact h1

theorem takeHealthReport_inputsOk (n : Slot) (s : State) (hs : InputsOk s) : InputsOk (takeHealthReport n s) := by
  unfold takeHealthReport
  split
  · exact hs
  · exact commitCand_inputsOk n _ _ _ (hs.congr rfl fun _ => rfl)
      (congrArg BindingWrite.kind (Cand.takeHealth_binding _ _ _))

theorem expireHoldOff_inputsOk (n : Slot) (s : State) (hs : InputsOk s) : InputsOk (expireHoldOff n s) := by
  unfold expireHoldOff
  split
  · exact commitCand_inputsOk n _ _ _ (hs.congr rfl fun _ => rfl) rfl
  · exact hs

theorem expireWtr_inputsOk (n : Slot) (s : State) (hs : InputsOk s) : InputsOk (expireWtr n s) := by
  unfold expireWtr
  split
  · exact commitCand_inputsOk n _ _ _ (hs.congr rfl fun _ => rfl) rfl
  · exact hs

/-- A write starts and stops the watching with the binding (R36). -/
theorem writeCandidate_inputsOk (n : Slot) (bw : BindingWrite) (gw : GradeWrite) (fw : FrequencyWrite) (s : State)
    (hfw : fw.InRange) (hs : InputsOk s) : InputsOk (writeCandidate n bw gw fw s) := by
  obtain ⟨hcands, hinputs, -⟩ := writeCandidate_spec n bw gw fw s _ rfl
  obtain ⟨hok, hwatched⟩ := hs n
  intro m
  rw [hcands, hinputs, getElem_set_fin, getElem_set_fin]
  split
  · rw [(Cand.write_fields s.osc bw s.cands[n] _ rfl).1]
    split <;> rename_i hbound
    · exact ⟨hok.write fw hfw, hwatched.trans hbound⟩
    · exact ⟨(hok.watch _).write fw hfw, rfl⟩
  · exact hs m

theorem deviceRestart_inputsOk (s : State) (hs : InputsOk s) : InputsOk (deviceRestart s) := by
  intro n
  rw [deviceRestart_inputs, deviceRestart_cands]
  exact ⟨(hs n).1.enterMissing, (hs n).2⟩

/-- An answer leaves candidates and inputs as they are. -/
theorem InputsOk.answered (s t : State) (h : sameBut answerParts s t) (hs : InputsOk s) : InputsOk t := by
  have hcands : t.cands = s.cands := h .cands (by decide)
  exact hs.congr (h .inputs (by decide)) fun n => by rw [hcands]

theorem InputsOk.of_next {c : Instr} {s t u : State} (hu : InputsOk u) (h : exec c s = .next t)
    (he : exec c s = .next u) : InputsOk t := exec_eq_of_next h he ▸ hu

/-- A command whose frame names neither the candidates nor the inputs keeps the inputs. -/
theorem InputsOk.of_frame {c : Instr} {s t : State} (hs : InputsOk s) (h : exec c s = .next t)
    (hd : decide (Part.inputs ∉ commandParts c ∧ Part.cands ∉ commandParts c) = true := by rfl) : InputsOk t := by
  have hparts := of_decide_eq_true hd
  have hframe := exec_sameBut c s t h
  have hcands : t.cands = s.cands := hframe .cands hparts.2
  exact hs.congr (hframe .inputs hparts.1) fun n => by rw [hcands]

theorem exec_keeps_inputs (c : Instr) (s t : State) (h : exec c s = .next t) (hs : InputsOk s) : InputsOk t := by
  cases c with
  | powerOn | resetLineReleased | transmissionEnd | deviceRestart =>
    exact exec_startsOver_keeps InputsOk
      (fun _ _ _ _ _ n => by rw [powerOn_cands, powerOn_inputs]; exact ⟨resetInput_ok, rfl⟩) deviceRestart_inputsOk
      (fun _ _ hs => hs.congr rfl fun _ => rfl) rfl h hs
  | tick n d => exact (takeTick_inputsOk n d s hs).of_next h rfl
  | tickLoss n => exact (loseTicks_inputsOk n s hs).of_next h rfl
  | healthReport n => exact (takeHealthReport_inputsOk n s hs).of_next h rfl
  | holdOffExpiry n => exact (expireHoldOff_inputsOk n s hs).of_next h rfl
  | wtrExpiry n => exact (expireWtr_inputsOk n s hs).of_next h rfl
  | writeCandidate =>
    exact exec_agent_keeps InputsOk InputsOk.answered h rfl
      (fun r s => writeCandidate_inputsOk _ _ _ _ s (frequencyOf_inRange r.body)) hs
  | _ => exact hs.of_frame h

/-! ### The settled statement -/

/-- Settles O58, by the commands that change a candidate or a tick input. -/
theorem stepKeepsCandidatesLegal : Obligations.StepKeepsCandidatesLegal :=
  ⟨step_keeps CandidatesOk exec_keeps_candidates fun _ _ h => h, step_keeps InputsOk exec_keeps_inputs fun _ _ h => h⟩

end Sys2Proof.Machine
end

section
/-! PROOFS. What the blocks do to the evaluation queue and to the settings: outside the table writes no event stores a
setting, and the queue gains entries by evaluation requests only. -/

namespace Sys2Proof.Machine

-- One theorem after the other: the joined text would otherwise ask for a thread per waiting proof.
set_option Elab.async false

/-! ### Events that store no setting -/

/-- From s to t every setting is kept (R18, R49, R67, R79, R109, R133, R135, R138, R160). -/
structure SettingsKept (s t : State) : Prop where
  binding : ∀ n : Slot, t.cands[n].binding = s.cands[n].binding
  timeout : ∀ n : Slot, t.grades[n].timeoutS = s.grades[n].timeoutS
  selection : ∀ k : ShelfId, t.shelves[k].sel = s.shelves[k].sel
  timing : ∀ k : ShelfId, t.slices[k].cfg = s.slices[k].cfg
  interval : ∀ p : PortId, t.txPorts[p].intervalS = s.txPorts[p].intervalS
  correction : t.correction = s.correction
  baseTag : t.baseTag = s.baseTag
  spacing : t.events.spacingMs = s.events.spacingMs
  summary : t.events.summaryS = s.events.summaryS

theorem SettingsKept.refl (s : State) : SettingsKept s s :=
  ⟨fun _ => rfl, fun _ => rfl, fun _ => rfl, fun _ => rfl, fun _ => rfl, rfl, rfl, rfl, rfl⟩

theorem SettingsKept.trans {s t u : State} (h : SettingsKept s t) (g : SettingsKept t u) : SettingsKept s u :=
  ⟨fun n => (g.binding n).trans (h.binding n), fun n => (g.timeout n).trans (h.timeout n),
    fun k => (g.selection k).trans (h.selection k), fun k => (g.timing k).trans (h.timing k),
    fun p => (g.interval p).trans (h.interval p), g.correction.trans h.correction, g.baseTag.trans h.baseTag,
    g.spacing.trans h.spacing, g.summary.trans h.summary⟩

/-- What the commands other than the table writes do from s to t: every setting is kept, and the evaluation queue, the
budget count and the budget stay as they should be (R81, R83, R84). -/
structure LeavesSettings (s t : State) : Prop extends SettingsKept s t where
  engine : EngineQueueOk s → EngineQueueOk t

/-- The parts in which neither a setting nor the evaluation queue stands. -/
def settingFreeParts : List Part :=
  [.osc, .strap, .resetLevel, .fabric, .control, .localIn, .requests, .inputs, .rxPorts, .rmaps, .triples, .tmaps,
    .copies, .windowStart, .latches, .conditions, .noticeState, .semaphores, .record, .phase, .healthReports, .removals,
    .tripleHandovers, .gradeHandovers, .noticeHandovers, .pending]

namespace LeavesSettings

theorem refl (s : State) : LeavesSettings s s := ⟨.refl s, id⟩

theorem trans {s t u : State} (h : LeavesSettings s t) (g : LeavesSettings t u) : LeavesSettings s u :=
  ⟨h.toSettingsKept.trans g.toSettingsKept, g.engine ∘ h.engine⟩

theorem ite {c : Prop} [Decidable c] {s t u : State} (h : LeavesSettings s t) (g : LeavesSettings s u) :
    LeavesSettings s (if c then t else u) := by split <;> assumption

theorem foldl {α : Type} (f : α → State → State) (h : ∀ a t, LeavesSettings t (f a t)) (l : List α) (s : State) :
    LeavesSettings s (l.foldl (fun t a => f a t) s) :=
  foldl_keeps f (LeavesSettings s) (fun a t ht => ht.trans (h a t)) l s (refl s)

theorem overSlots (f : Slot → State → State) (h : ∀ n t, LeavesSettings t (f n t)) (s : State) :
    LeavesSettings s (overSlots f s) := foldl f h _ s

theorem overShelves (f : ShelfId → State → State) (h : ∀ k t, LeavesSettings t (f k t)) (s : State) :
    LeavesSettings s (overShelves f s) := foldl f h _ s

theorem overPorts (f : PortId → State → State) (h : ∀ p t, LeavesSettings t (f p t)) (s : State) :
    LeavesSettings s (overPorts f s) := foldl f h _ s

theorem overMask (m : BitVec 16) (f : ShelfId → State → State) (h : ∀ k t, LeavesSettings t (f k t)) (s : State) :
    LeavesSettings s (overMask m f s) := overShelves _ (fun k t => (h k t).ite (refl t)) s

/-- A frame that names parts without settings only. -/
theorem of_sameBut {ps : List Part} {s t : State} (h : sameBut ps s t)
    (hd : ∀ p ∈ ps, p ∈ settingFreeParts := by decide) : LeavesSettings s t := by
  have hout : ∀ p, p ∉ settingFreeParts → p.same s t := fun p hp => h p fun hm => hp (hd p hm)
  have hqueue : t.engine.queue = s.engine.queue := hout .queue (by decide)
  have hcount : t.engine.count = s.engine.count := hout .count (by decide)
  have hbudget : t.engine.budget = s.engine.budget := hout .budget (by decide)
  have hcands : t.cands = s.cands := hout .cands (by decide)
  have hgrades : t.grades = s.grades := hout .grades (by decide)
  have hshelves : t.shelves = s.shelves := hout .shelves (by decide)
  have hslices : t.slices = s.slices := hout .slices (by decide)
  have hports : t.txPorts = s.txPorts := hout .txPorts (by decide)
  obtain ⟨-, -, -, hspacing, hsummary⟩ := hout .eventSettings (by decide)
  refine ⟨⟨fun n => by rw [hcands], fun n => by rw [hgrades], fun k => by rw [hshelves], fun k => by rw [hslices],
    fun p => by rw [hports], hout .correction (by decide), hout .baseTag (by decide), hspacing, hsummary⟩, fun h => ?_⟩
  unfold EngineQueueOk at *
  rw [hqueue, hcount, hbudget]
  exact h

/-! #### One record stored -/

theorem setCand (n : Slot) (c : Cand) (s : State) (h : c.binding = s.cands[n].binding) :
    LeavesSettings s (s.setCand n c) := by
  refine { refl s with binding := fun m => ?_ }
  rw [State.setCand_cands_at]
  split <;> rename_i hm
  · exact hm ▸ h
  · rfl

theorem setGrade (n : Slot) (g : GradeSlot) (s : State) (h : g.timeoutS = s.grades[n].timeoutS) :
    LeavesSettings s (s.setGrade n g) := by
  refine { refl s with timeout := fun m => ?_ }
  rw [State.setGrade_grades_at]
  split <;> rename_i hm
  · exact hm ▸ h
  · rfl

theorem setShelf (k : ShelfId) (x : Shelf) (s : State) (h : x.sel = s.shelves[k].sel) :
    LeavesSettings s (s.setShelf k x) := by
  refine { refl s with selection := fun j => ?_ }
  rw [State.setShelf_shelves_at]
  split <;> rename_i hj
  · exact hj ▸ h
  · rfl

theorem setSlice (k : ShelfId) (v : Slice) (s : State) (h : v.cfg = s.slices[k].cfg) :
    LeavesSettings s (s.setSlice k v) := by
  refine { refl s with timing := fun j => ?_ }
  rw [State.setSlice_slices_at]
  split <;> rename_i hj
  · exact hj ▸ h
  · rfl

theorem setTx (p : PortId) (x : TxPort) (s : State) (h : x.intervalS = s.txPorts[p].intervalS) :
    LeavesSettings s (s.setTx p x) := by
  refine { refl s with interval := fun q => ?_ }
  rw [State.setTx_txPorts_at]
  split <;> rename_i hq
  · exact hq ▸ h
  · rfl

/-! #### Evaluation requests (R81) -/

theorem requestEvaluation (k : ShelfId) (m : Option Slot) (s : State) : LeavesSettings s (requestEvaluation k m s) :=
  { refl s with engine := fun ⟨hqueue, hrange⟩ => ⟨joinQueue_nodup k m _ hqueue, hrange⟩ }

theorem requestWhere (p : ShelfId → Bool) (s : State) : LeavesSettings s (requestWhere p s) :=
  overShelves _ (fun k t => (requestEvaluation k none t).ite (refl t)) s

theorem requestCascade (k : ShelfId) (s : State) : LeavesSettings s (requestCascade k s) := requestWhere _ s

/-! #### Candidates and grades (R30 to R32, R71) -/

/-- A commit does no more than hand on, once the record is stored. -/
theorem commitCand_after (n : Slot) (c : Cand) (b : Bool) (s : State) :
    LeavesSettings (s.setCand n c) (commitCand n c b s) := by
  have htold : LeavesSettings (s.setCand n c) (requestListing n (raiseCandState n (s.setCand n c))) :=
    (of_sameBut (raiseCandState_sameBut n _)).trans (requestWhere _ _)
  have hremoval : ∀ (t : State) (l : List Slot),
      LeavesSettings t (t.setFlight { t.flight with removals := l }) := fun t l => { refl t with }
  exact ((htold.trans (hremoval _ _)).ite htold).ite (refl _)

theorem commitCand (n : Slot) (c : Cand) (b : Bool) (s : State) (h : c.binding = s.cands[n].binding) :
    LeavesSettings s (commitCand n c b s) := (setCand n c s h).trans (commitCand_after n c b s)

theorem regrade (n : Slot) (s : State) : LeavesSettings s (regrade n s) := by
  have hset : LeavesSettings s (s.setGrade n { s.grades[n] with eff := effectiveGrade s n }) := setGrade n _ s rfl
  have hrank := hset.ite (hset.trans (of_sameBut (raiseEdge_sameBut (candLatch 1 n) _)))
    (c := (effectiveGrade s n).rank = s.grades[n].eff.rank)
  exact (refl s).ite ((hrank.trans (requestWhere _ _)).trans (of_sameBut (handGrade_sameBut n _)))

/-- A commit does no more than regrade and hand on, once the record is stored. -/
theorem commitGrade_after (n : Slot) (g : GradeSlot) (s : State) :
    LeavesSettings (s.setGrade n { g with eff := s.grades[n].eff }) (commitGrade n g s) :=
  (regrade n _).trans (of_sameBut (raiseCondition_sameBut _ _ _ _))

theorem commitGrade (n : Slot) (g : GradeSlot) (s : State) (h : g.timeoutS = s.grades[n].timeoutS) :
    LeavesSettings s (commitGrade n g s) :=
  (setGrade n { g with eff := s.grades[n].eff } s h).trans (commitGrade_after n g s)

/-! #### Slices and target changes (R92, R110 to R113, R136) -/

theorem sendDirective (k : ShelfId) (s : State) : LeavesSettings s (sendDirective k s) := by
  have hoffer := offerFabric_sameBut (directiveFrame s k) s
  have hslices : (offerFabric (directiveFrame s k) s).1.slices = s.slices := hoffer .slices (by decide)
  exact (of_sameBut hoffer).trans (setSlice k _ _ (by rw [hslices]))

theorem newDirective (k : ShelfId) (a : Action) (s : State) : LeavesSettings s (newDirective k a s) :=
  (setSlice k { s.slices[k] with seq := s.slices[k].seq + 1, action := a } s rfl).trans (sendDirective k _)

theorem retriple (k : ShelfId) (tell : Bool) (s : State) : LeavesSettings s (retriple k tell s) := by
  refine (setSlice k { s.slices[k] with triple := sliceTriple s k } s rfl).trans
    (of_sameBut (ps := [.tripleHandovers, .noticeHandovers]) ?_)
  intro p hp; cases p <;> simp_all [Part.same, Machine.retriple]

theorem closeSlice (k : ShelfId) (old : Slice) (s : State) : LeavesSettings s (closeSlice k old s) := by
  have htold : LeavesSettings s (if s.slices[k].timing = old.timing then s else raiseEdge (shelfLatch 1 k) s) :=
    (refl s).ite (of_sameBut (raiseEdge_sameBut _ s))
  have hsilent := htold.trans
    (of_sameBut (raiseCondition_sameBut (condModuleSilent k) old.unreachable s.slices[k].unreachable _))
  exact (hsilent.trans (retriple k _ _)).ite hsilent

/-- The closing of an event at a slice whose record was just stored. -/
theorem setSlice_closeSlice (k : ShelfId) (old v : Slice) (s : State) (h : v.cfg = s.slices[k].cfg) :
    LeavesSettings s (Machine.closeSlice k old (s.setSlice k v)) := (setSlice k v s h).trans (closeSlice k old _)

/-- A Directive made for a slice whose record was just stored. -/
theorem setSlice_newDirective (k : ShelfId) (a : Action) (v : Slice) (s : State) (h : v.cfg = s.slices[k].cfg) :
    LeavesSettings s (Machine.newDirective k a (s.setSlice k v)) := (setSlice k v s h).trans (newDirective k a _)

theorem takeTarget (k : ShelfId) (t : Option Slot) (s : State) : LeavesSettings s (takeTarget k t s) := by
  cases t with
  | none =>
    refine (refl s).ite ((setSlice_newDirective k .hold _ s ?_).trans (setSlice_closeSlice k _ _ _ ?_))
    · rfl
    · split <;> rfl
  | some c =>
    refine (refl s).ite ((setSlice_newDirective k (.track c) _ s ?_).trans (setSlice_closeSlice k _ _ _ ?_)) <;> rfl

theorem changeTarget (k : ShelfId) (t : Option Target) (s : State) : LeavesSettings s (changeTarget k t s) := by
  have hset : LeavesSettings s (s.setShelf k { s.shelves[k] with target := t }) := setShelf k _ s rfl
  have htaken := hset.trans (takeTarget k (t.map Target.slot) _)
  exact (htaken.trans (of_sameBut (raiseEdge_sameBut (shelfLatch 0 k) _))).trans (requestCascade k _)

/-! #### The Notice Unit (R139 to R145) -/

theorem offerNotice (p : PortId) (ty : NoticeType) (c : Content) (s : State) :
    LeavesSettings s (offerNotice p ty c s) := by
  have hoffer := offerFabric_sameBut (transmitFrame s p ty c) s
  unfold Machine.offerNotice
  dsimp only
  generalize offerFabric (transmitFrame s p ty c) s = r at hoffer ⊢
  have hports : r.1.txPorts = s.txPorts := hoffer .txPorts (by decide)
  have hinterval : (s.txPorts[p].afterOffer ty c r.2).intervalS = r.1.txPorts[p].intervalS := by
    rw [hports]
    unfold TxPort.afterOffer
    split <;> rfl
  exact (of_sameBut hoffer).trans (setTx p _ r.1 hinterval)

theorem recomputePort (p : PortId) (s : State) : LeavesSettings s (recomputePort p s) := by
  have hset : ∀ x : TxPort, x.intervalS = s.txPorts[p].intervalS → LeavesSettings s (s.setTx p x) :=
    fun x => setTx p x s
  have hheld := hset { s.txPorts[p] with heldCode := portHeld s p } rfl
  exact (hset { s.txPorts[p] with heldCode := portHeld s p, changePending := false } rfl).ite
    ((hheld.trans (offerNotice p _ _ _)).ite
      (hset { s.txPorts[p] with heldCode := portHeld s p, changePending := true } rfl))

theorem startWindow (p : PortId) (s : State) : LeavesSettings s (startWindow p s) := by
  have hset : LeavesSettings s (s.setTx p { s.txPorts[p] with count := 0 }) := setTx p _ s rfl
  exact (hset.trans (recomputePort p _)).ite hset

/-! #### The Selection Engine (R78 to R105) -/

theorem applyMark (k : ShelfId) (m : Option Slot) (s : State) : LeavesSettings s (applyMark k m s) := by
  cases m with
  | none => exact refl s
  | some c =>
    have hset : LeavesSettings s (s.setShelf k { s.shelves[k] with failed := s.shelves[k].failed.set c true }) :=
      setShelf k _ s rfl
    exact hset.ite (refl s)

theorem dropManual (k : ShelfId) (s : State) : LeavesSettings s (dropManual k s) :=
  (setShelf k { s.shelves[k] with command := .none } s rfl).trans (of_sameBut (raiseEdge_sameBut _ _))

theorem applyTarget (k : ShelfId) (t : Option Slot) (s : State) : LeavesSettings s (applyTarget k t s) := by
  have hset : ∀ new, LeavesSettings s (s.setShelf k { s.shelves[k] with target := new }) :=
    fun new => setShelf k _ s rfl
  exact (refl s).ite (((hset _).trans (requestCascade k _)).ite (changeTarget k _ s))

theorem evaluate (k : ShelfId) (m : Option Slot) (s : State) : LeavesSettings s (evaluate k m s) :=
  (refl s).ite (((applyMark k m s).trans ((dropManual k _).ite (refl _))).trans (applyTarget k _ _))

theorem withdrawTarget (k : ShelfId) (s : State) : LeavesSettings s (withdrawTarget k s) := by
  unfold Machine.withdrawTarget
  split
  · exact refl s
  · exact ((setShelf k { s.shelves[k] with target := none } s rfl).trans
      (of_sameBut (raiseEdge_sameBut (shelfLatch 0 k) _))).trans (requestCascade k _)

/-- A shelf that takes a new record with its settings kept, and is queued. -/
theorem setShelf_requested (k : ShelfId) (x : Shelf) (s : State) (h : x.sel = s.shelves[k].sel) :
    LeavesSettings s (Machine.requestEvaluation k none (s.setShelf k x)) :=
  (setShelf k x s h).trans (requestEvaluation k none _)

/-- A shelf whose changed list is handed over, and which is queued. -/
theorem listChange (k : ShelfId) (x : Shelf) (s : State) (h : x.sel = s.shelves[k].sel) :
    LeavesSettings s (Machine.requestEvaluation k none (raiseListChange k (s.setShelf k x))) :=
  ((setShelf k x s h).trans (of_sameBut (raiseListChange_sameBut k _))).trans (requestEvaluation k none _)

theorem writeEntry (k : ShelfId) (e : EntryId) (w : Entry) (s : State) : LeavesSettings s (writeEntry k e w s) := by
  have hset : LeavesSettings s (s.setShelf k { s.shelves[k] with entries := s.shelves[k].entries.set e w }) :=
    setShelf k _ s rfl
  refine (refl s).ite ((((hset.trans (changeTarget k none _)).ite hset)).trans (listChange k _ _ ?_))
  rfl

theorem setCommand (k : ShelfId) (c : Command) (s : State) : LeavesSettings s (setCommand k c s) :=
  (refl s).ite (setShelf_requested k _ s rfl)

theorem setLockout (k : ShelfId) (e : EntryId) (on : Bool) (s : State) : LeavesSettings s (setLockout k e on s) :=
  (refl s).ite (listChange k _ s rfl)

theorem clearMarks (k : ShelfId) (s : State) : LeavesSettings s (clearMarks k s) :=
  (setShelf_requested k { s.shelves[k] with failed := Vector.replicate 24 false } s rfl).ite (refl s)

/-- A write of the selection settings does no more than queue the shelf, once they are stored (R79). -/
theorem writeSelection_after (k : ShelfId) (w : Selection) (s : State) :
    LeavesSettings (s.setShelf k { s.shelves[k] with sel := w }) (writeSelection k w s) := by
  unfold writeSelection
  split <;> rename_i h
  · refine { refl s with selection := fun j => ?_ }
    rw [State.setShelf_shelves_at]
    split <;> rename_i hj
    · exact hj ▸ h.symm
    · rfl
  · exact requestEvaluation k none _

/-- A write of the slice settings does no more than resend the record and recompute the triple, once they are stored
(R124, R133). -/
theorem writeSlice_after (k : ShelfId) (w : SliceSettings) (s : State) :
    LeavesSettings (s.setSlice k (s.slices[k].writeSettings s.osc w)) (writeSlice k w s) := by
  have hsent := (sendDirective k (s.setSlice k (s.slices[k].writeSettings s.osc w))).ite (refl _)
    (c := (decide (w.module ≠ s.slices[k].cfg.module) && decide (s.slices[k].timing ≠ .parked)) = true)
  exact (hsent.trans (retriple k false _)).ite hsent

/-- A new base tag queues the shelves and recomputes the triples, once it is stored (R105, R135). -/
theorem writeBaseTag_after (tag : OriginTag) (s : State) :
    LeavesSettings { s with baseTag := tag } (writeBaseTag tag s) := by
  unfold writeBaseTag
  split <;> rename_i h
  · exact { refl s with baseTag := h.symm }
  · exact (overShelves _ (fun k t => requestEvaluation k none t) _).trans
      (overShelves _ (fun k t => retriple k false t) _)

theorem parkBoth (k : ShelfId) (s : State) : LeavesSettings s (parkBoth k s) := by
  have hengine : LeavesSettings s (parkEngine k s) := (refl s).ite (withdrawTarget k s)
  exact hengine.trans ((refl _).ite (setSlice_closeSlice k _ _ _ rfl))

/-- A slice that takes a new record, makes a Directive, and is queued. -/
theorem directedSlice (k : ShelfId) (old v : Slice) (s : State) (h : v.cfg = s.slices[k].cfg) :
    LeavesSettings s
      (Machine.requestEvaluation k none (Machine.closeSlice k old (Machine.newDirective k .hold (s.setSlice k v)))) :=
  ((setSlice_newDirective k .hold v s h).trans (closeSlice k old _)).trans (requestEvaluation k none _)

theorem unparkSlice (k : ShelfId) (s : State) : LeavesSettings s (unparkSlice k s) := by
  unfold Machine.unparkSlice
  dsimp only
  split
  · apply directedSlice; rfl
  · exact refl s

theorem resetBoth (k : ShelfId) (s : State) : LeavesSettings s (resetBoth k s) := by
  have hengine : LeavesSettings s (resetEngineHalf k s) := (withdrawTarget k s).trans (setShelf k _ _ rfl)
  refine hengine.trans ?_
  unfold Machine.resetBoth
  generalize Machine.resetEngineHalf k s = t
  unfold Machine.resetSliceHalf
  dsimp only
  split
  · refine (setSlice_closeSlice k _ _ _ ?_).trans (requestEvaluation k none _)
    rfl
  · apply directedSlice; rfl

/-! #### Received frames, hand-overs and expiries -/

theorem processNotice (f : Frame) (s : State) : LeavesSettings s (processNotice f s) := by
  have happly : ∀ p, LeavesSettings s
      (match boundLine s p with
        | some c => applyNotice c f s
        | none => s) := by
    intro p; split
    · exact commitGrade _ _ s rfl
    · exact refl s
  unfold Machine.processNotice
  split
  · exact of_sameBut (joinToControl_sameBut f s)
  · exact (happly _).ite ((happly _).trans (of_sameBut (joinToControl_sameBut f _)))

theorem takeNotice (s : State) : LeavesSettings s (takeNotice s) := by
  unfold Machine.takeNotice
  split
  · rename_i f rest _
    exact ((of_sameBut (withLocalIn_sameBut s rest)).trans (processNotice f _)).ite (refl s)
  · exact refl s

theorem currentReport_cfg (now : Nat) (r : Report) (v : Slice) : (v.currentReport now r).cfg = v.cfg := by
  unfold Slice.currentReport Slice.trackReport Slice.holdReport
  split <;> split <;> rfl

theorem takeReport (k : ShelfId) (f : Frame) (s : State) : LeavesSettings s (takeReport k f s) := by
  have hheard : LeavesSettings s (s.setSlice k (s.slices[k].hearReport s.osc (reportOf f))) := setSlice k _ s rfl
  unfold Machine.takeReport
  dsimp only
  split
  · split
    · exact (hheard.trans (sendDirective k _)).trans (closeSlice k _ _)
    · exact setSlice_closeSlice k _ _ s
        (currentReport_cfg s.osc (reportOf f) (s.slices[k].hearReport s.osc (reportOf f)))
  · exact refl s

theorem takeLockReport (s : State) : LeavesSettings s (takeLockReport s) := by
  unfold Machine.takeLockReport
  split
  · rename_i f rest _
    have htaken : LeavesSettings s (s.withLocalIn rest) := of_sameBut (withLocalIn_sameBut s rest)
    refine LeavesSettings.ite ?_ (refl s)
    dsimp only
    split
    · exact htaken.trans (takeReport _ f (s.withLocalIn rest))
    · exact htaken
  · exact refl s

theorem takeHealthReport (n : Slot) (s : State) : LeavesSettings s (takeHealthReport n s) := by
  unfold Machine.takeHealthReport
  split
  · exact refl s
  · exact (of_sameBut (setFlight_health_sameBut s _)).trans (commitCand n _ false _ (Cand.takeHealth_binding _ _ _))

theorem takeRemoval (n : Slot) (s : State) : LeavesSettings s (takeRemoval n s) := by
  unfold Machine.takeRemoval
  split
  · exact refl s
  · rename_i rest _
    have htaken : LeavesSettings s (s.setFlight { s.flight with removals := rest }) := { refl s with }
    exact htaken.trans (overShelves _
      (fun k t => setShelf k { t.shelves[k] with failed := t.shelves[k].failed.set n false } t rfl) _)

theorem expireHoldOff (n : Slot) (s : State) : LeavesSettings s (expireHoldOff n s) := by
  unfold Machine.expireHoldOff
  split
  · exact (of_sameBut (advanceTo_sameBut s _)).trans (commitCand n _ false _ rfl)
  · exact refl s

theorem expireWtr (n : Slot) (s : State) : LeavesSettings s (expireWtr n s) := by
  unfold Machine.expireWtr
  split
  · exact (of_sameBut (advanceTo_sameBut s _)).trans (commitCand n _ false _ rfl)
  · exact refl s

theorem expireNotice (n : Slot) (s : State) : LeavesSettings s (expireNotice n s) := by
  unfold Machine.expireNotice
  split
  · exact (of_sameBut (advanceTo_sameBut s _)).trans (commitGrade n _ _ rfl)
  · exact refl s

theorem takeTriple (k : ShelfId) (s : State) : LeavesSettings s (takeTriple k s) := by
  unfold Machine.takeTriple
  split
  · exact refl s
  · rename_i r rest _
    have htaken : LeavesSettings s
        { s with triples := s.triples.set k r.2, flight := { s.flight with triples := rest } } := { refl s with }
    exact htaken.trans (overSlots _ (fun n t => (regrade n t).ite (refl t)) _)

theorem takeTargetGrade (k : ShelfId) (s : State) : LeavesSettings s (takeTargetGrade k s) := by
  unfold Machine.takeTargetGrade
  split
  · exact refl s
  · rename_i rest _
    have htaken : LeavesSettings s (s.setFlight { s.flight with grades := rest }) := { refl s with }
    exact (htaken.trans (retriple k false _)).ite htaken

theorem takeNoticeCopy (k : ShelfId) (s : State) : LeavesSettings s (takeNoticeCopy k s) := by
  unfold Machine.takeNoticeCopy
  split
  · exact refl s
  · rename_i r rest _
    have htaken : LeavesSettings s
        { s with copies := s.copies.set k r.2, flight := { s.flight with notices := rest } } := { refl s with }
    exact htaken.trans (overPorts _ (fun p t => (recomputePort p t).ite (refl t)) _)

theorem expirePeriodic (p : PortId) (s : State) : LeavesSettings s (expirePeriodic p s) := by
  unfold Machine.expirePeriodic
  split
  · exact refl s
  · rename_i due _
    have hset := setTx p
      { s.txPorts[p] with
        heldCode := portHeld s p
        periodic := startMs (s.advanceTo due).osc (s.txPorts[p].intervalS * 1000) } (s.advanceTo due) rfl
    exact ((of_sameBut (advanceTo_sameBut s due)).trans hset).trans (offerNotice p .periodic _ _)

theorem startBudgetWindow (s : State) : LeavesSettings s (startBudgetWindow s) := by
  have hstart : ∀ t, LeavesSettings s { s.advanceTo t with windowStart := (s.advanceTo t).osc } := fun _ =>
    { refl s with }
  exact (hstart _).trans (overPorts _ (fun p t => (startWindow p t).ite (refl t)) _)

/-- The engine takes the head of its queue, and the count rises by one, stopping at 8 (R83). -/
theorem serveEvaluation (s : State) : LeavesSettings s (serveEvaluation s) := by
  unfold Machine.serveEvaluation
  split
  · exact refl s
  · rename_i e rest hq
    have htaken : LeavesSettings s
        (s.setEngine { s.engine with queue := rest, count := min Config.countStop (s.engine.count + 1) }) := by
      refine { refl s with engine := fun ⟨hqueue, _, hbudget⟩ => ⟨?_, Nat.min_le_left _ _, hbudget⟩ }
      rw [hq] at hqueue
      exact (List.nodup_cons.1 hqueue).2
    exact (refl s).ite (htaken.trans (evaluate e.shelf e.mark _))

theorem expireLock (k : ShelfId) (s : State) : LeavesSettings s (expireLock k s) := by
  unfold Machine.expireLock
  dsimp only
  split
  · rename_i due _ _
    have hset := (of_sameBut (advanceTo_sameBut s due)).trans (setSlice k { s.slices[k] with lockTimer := none } _ rfl)
    exact (hset.trans (requestEvaluation k _ _)).trans (of_sameBut (raiseEdge_sameBut _ _))
  · exact refl s

theorem expireSettle (k : ShelfId) (s : State) : LeavesSettings s (expireSettle k s) := by
  unfold Machine.expireSettle
  dsimp only
  split
  · exact (of_sameBut (advanceTo_sameBut s _)).trans (setSlice_closeSlice k _ _ _ rfl)
  · exact refl s

theorem expireReport (k : ShelfId) (s : State) : LeavesSettings s (expireReport k s) := by
  unfold Machine.expireReport
  dsimp only
  split
  · exact (of_sameBut (advanceTo_sameBut s _)).trans (setSlice_closeSlice k _ _ _ rfl)
  · exact refl s

theorem exhaustBudget (k : ShelfId) (s : State) : LeavesSettings s (exhaustBudget k s) := by
  unfold Machine.exhaustBudget
  split
  · exact ((of_sameBut (advanceTo_sameBut s _)).trans
      (setSlice k { s.slices[k] with exhausted := true } _ rfl)).trans (retriple k false _)
  · exact refl s

/-! #### Maps (R64, R65, R147) -/

theorem remap_timeoutS (line : Bool) (m : GradeMap) (g : GradeSlot) : (g.remap line m).timeoutS = g.timeoutS := by
  unfold GradeSlot.remap
  split <;> rfl

theorem detachReceive (m : MapId) (s : State) : LeavesSettings s (detachReceive m s) := by
  have hmap : LeavesSettings s { s with rmaps := s.rmaps.set m { s.rmaps[m] with attached := false } } :=
    { refl s with }
  exact (hmap.trans (overSlots _ (fun n t => (setGrade n { t.grades[n] with held := true } t rfl).ite (refl t)) _)).ite
    (refl s)

theorem attachReceive (m : MapId) (s : State) : LeavesSettings s (attachReceive m s) := by
  have hmap : LeavesSettings s { s with rmaps := s.rmaps.set m { s.rmaps[m] with attached := true } } := { refl s with }
  have hremap := overSlots
    (fun n t =>
      if t.grades[n].rmap = m then
        t.setGrade n (t.grades[n].remap (decide (s.cands[n].kind = .line)) { s.rmaps[m] with attached := true })
      else t)
    (fun n t => (setGrade n _ t (remap_timeoutS _ _ _)).ite (refl t))
    { s with rmaps := s.rmaps.set m { s.rmaps[m] with attached := true } }
  exact (refl s).ite ((hmap.trans hremap).trans (overSlots _ (fun n t => (regrade n t).ite (refl t)) _))

theorem attachTransmit (m : MapId) (s : State) : LeavesSettings s (attachTransmit m s) := by
  have hmap : LeavesSettings s { s with tmaps := s.tmaps.set m { s.tmaps[m] with attached := true } } := { refl s with }
  exact (refl s).ite (hmap.trans (overPorts _ (fun p t => (recomputePort p t).ite (refl t)) _))

/-- The receive halves of a WRITE_PORTS regrade the slots whose bindings changed (R55). -/
theorem writeReceiveHalves (ports : Vector RxPort 256) (s : State) : LeavesSettings s (writeReceiveHalves ports s) := by
  have hports : LeavesSettings s { s with rxPorts := ports } := { refl s with }
  have hrebind : ∀ (n : Slot) (x y : Option PortId) (t : State), LeavesSettings t (rebindPort n x y t) := by
    intro n x y t
    unfold rebindPort
    dsimp only
    split
    · exact refl t
    · split
      · exact commitGrade n _ t rfl
      · exact refl t
  exact hports.trans (overSlots _ (fun n t => hrebind n _ _ t) _)

/-! #### The service of requests -/

theorem answer (r : Request) (o : Served) : LeavesSettings o.state (answer r o) := of_sameBut (answer_sameBut r o)

theorem serveAgent {row : Instr} {check : Request → State → Option RefusalAnswer} {run : Request → State → Served}
    (hrun : ∀ r t, LeavesSettings t (run r t).state) (s : State) : LeavesSettings s (serveAgent row check run s) := by
  unfold Machine.serveAgent
  split
  · refine LeavesSettings.ite ?_ (refl s)
    split
    · exact refl s
    · split
      · exact answer _ ⟨s, _, _⟩
      · exact (hrun _ s).trans (answer _ _)
  · exact refl s

theorem runOperation {run : Request → State → Served} (r : Request) (hrun : ∀ t, LeavesSettings t (run r t).state)
    (s : State) : LeavesSettings s (runOperation run r s) := by
  have hcount : LeavesSettings s (s.setEngine { s.engine with count := 0 }) :=
    { refl s with engine := fun ⟨hqueue, _, hbudget⟩ => ⟨hqueue, Nat.zero_le 8, hbudget⟩ }
  exact (hcount.trans (hrun _)).trans (answer _ _)

theorem serveEngine {row : Instr} {check : Request → State → Option RefusalAnswer} {run : Request → State → Served}
    (hrun : ∀ r t, LeavesSettings t (run r t).state) (s : State) : LeavesSettings s (serveEngine row check run s) := by
  have hwaits : LeavesSettings s (s.setAgent { s.agent with phase := .engineOp }) := { refl s with }
  unfold Machine.serveEngine
  split
  · exact refl s
  · refine LeavesSettings.ite ?_ (refl s)
    split
    · split
      · exact answer _ ⟨s, _, _⟩
      · exact (runOperation _ (hrun _) s).ite hwaits
    · exact (runOperation _ (hrun _) s).ite (refl s)
    · exact refl s

theorem runUnranked {act : Request → State → State} (h : ∀ r t, LeavesSettings t (act r t)) (r : Request) (s : State) :
    LeavesSettings s (runUnranked act r s).state := by
  unfold Machine.runUnranked
  split
  · exact refl s
  · exact h r s

theorem runCommand (c : Request → Command) (r : Request) (s : State) : LeavesSettings s (runCommand c r s).state := by
  unfold Machine.runCommand
  split
  · exact refl s
  · exact setCommand _ _ s

theorem runMasked {act : ShelfId → State → State} (h : ∀ k t, LeavesSettings t (act k t)) (r : Request) (s : State) :
    LeavesSettings s (runMasked act r s).state := overMask _ act h s

theorem runWriteListEntry (r : Request) (s : State) : LeavesSettings s (runWriteListEntry r s).state :=
  overMask _ _ (fun k t => writeEntry k _ _ t) s

/-- A command whose frame names parts without settings only. -/
theorem of_frame {c : Instr} {s t : State} (h : exec c s = .next t)
    (hd : decide (∀ p ∈ commandParts c, p ∈ settingFreeParts) = true := by rfl) : LeavesSettings s t :=
  of_sameBut (exec_sameBut c s t h) (of_decide_eq_true hd)

theorem of_next {c : Instr} {s t u : State} (hu : LeavesSettings s u) (h : exec c s = .next t)
    (he : exec c s = .next u) : LeavesSettings s t := exec_eq_of_next h he ▸ hu

end LeavesSettings

/-! ### Every command -/

/-- The writes that store settings (R164). -/
def Instr.storesSettings : Instr → Bool
  | .writeCandidate | .writeShelf | .writePorts | .writeNode => true
  | _ => false

/-- A command that neither starts the part over nor stores settings leaves the settings. -/
theorem exec_leavesSettings (c : Instr) (s t : State) (hstart : Instr.startsOver c = false)
    (hstore : Instr.storesSettings c = false) (h : exec c s = .next t) : LeavesSettings s t := by
  cases c with
  | powerOn | resetLineReleased | transmissionEnd | deviceRestart => cases hstart
  | writeCandidate | writeShelf | writePorts | writeNode => cases hstore
  | receivedGradeNotice => exact (LeavesSettings.takeNotice s).of_next h rfl
  | lockReport => exact (LeavesSettings.takeLockReport s).of_next h rfl
  | healthReport n => exact (LeavesSettings.takeHealthReport n s).of_next h rfl
  | lockFailedRemoval n => exact (LeavesSettings.takeRemoval n s).of_next h rfl
  | holdOffExpiry n => exact (LeavesSettings.expireHoldOff n s).of_next h rfl
  | wtrExpiry n => exact (LeavesSettings.expireWtr n s).of_next h rfl
  | noticeTimerExpiry n => exact (LeavesSettings.expireNotice n s).of_next h rfl
  | tripleHandover k => exact (LeavesSettings.takeTriple k s).of_next h rfl
  | targetGradeHandover k => exact (LeavesSettings.takeTargetGrade k s).of_next h rfl
  | noticeUnitHandover k => exact (LeavesSettings.takeNoticeCopy k s).of_next h rfl
  | periodicTimerExpiry p => exact (LeavesSettings.expirePeriodic p s).of_next h rfl
  | budgetWindowStart => exact (LeavesSettings.startBudgetWindow s).of_next h rfl
  | evaluation => exact (LeavesSettings.serveEvaluation s).of_next h rfl
  | lockTimerExpiry k => exact (LeavesSettings.expireLock k s).of_next h rfl
  | settleTimerExpiry k => exact (LeavesSettings.expireSettle k s).of_next h rfl
  | reportTimerExpiry k => exact (LeavesSettings.expireReport k s).of_next h rfl
  | holdoverBudgetExhausted k => exact (LeavesSettings.exhaustBudget k s).of_next h rfl
  | detachReceiveMap => exact (LeavesSettings.serveAgent (fun _ t => .detachReceive _ t) s).of_next h rfl
  | attachReceiveMap => exact (LeavesSettings.serveAgent (fun _ t => .attachReceive _ t) s).of_next h rfl
  | attachTransmitMap => exact (LeavesSettings.serveAgent (fun _ t => .attachTransmit _ t) s).of_next h rfl
  | writeListEntry => exact (LeavesSettings.serveEngine LeavesSettings.runWriteListEntry s).of_next h rfl
  | commandHold => exact (LeavesSettings.serveEngine (LeavesSettings.runCommand _) s).of_next h rfl
  | commandForce => exact (LeavesSettings.serveEngine (LeavesSettings.runCommand _) s).of_next h rfl
  | commandManual => exact (LeavesSettings.serveEngine (LeavesSettings.runCommand _) s).of_next h rfl
  | commandClear =>
    exact (LeavesSettings.serveEngine (LeavesSettings.runUnranked fun _ t => .setCommand _ _ t) s).of_next h rfl
  | commandLockout =>
    exact (LeavesSettings.serveEngine (LeavesSettings.runUnranked fun _ t => .setLockout _ _ _ t) s).of_next h rfl
  | park => exact (LeavesSettings.serveEngine (LeavesSettings.runMasked .parkBoth) s).of_next h rfl
  | unpark => exact (LeavesSettings.serveEngine (LeavesSettings.runMasked .unparkSlice) s).of_next h rfl
  | sliceReset => exact (LeavesSettings.serveEngine (LeavesSettings.runMasked .resetBoth) s).of_next h rfl
  | clearMarks => exact (LeavesSettings.serveEngine (LeavesSettings.runMasked .clearMarks) s).of_next h rfl
  | _ => exact LeavesSettings.of_frame h

end Sys2Proof.Machine
end

section
/-! PROOFS. The evaluation queue holds each shelf at most once, and every setting stays in its range: the four table
writes store clamped or checked values, and the rest stores none. -/

namespace Sys2Proof.Machine

-- One theorem after the other: the joined text would otherwise ask for a thread per waiting proof.
set_option Elab.async false

/-! ### The writes that store settings, each as a store followed by what leaves the settings -/

namespace LeavesSettings

/-- A write of the binding fields does no more than hand on and watch, once the record is stored (R18). -/
theorem writeBinding_after (n : Slot) (w : BindingWrite) (s : State) :
    LeavesSettings (s.setCand n (s.cands[n].write s.osc w)) (writeBinding n w s) :=
  (commitCand_after n _ (s.cands[n].rebinds w) s).trans (of_sameBut (watchInput_sameBut n _ _ _))

theorem setTx_same (p : PortId) (x y : TxPort) (s : State) (h : y.intervalS = x.intervalS) :
    LeavesSettings (s.setTx p x) (s.setTx p y) := by
  refine { refl (s.setTx p x) with interval := fun q => ?_ }
  rw [State.setTx_txPorts_at, State.setTx_txPorts_at]
  split
  · exact h
  · rfl

/-- A write of a transmit half does no more than clear or recompute the port, once it is stored (R148). -/
theorem writeTransmitHalf_after (p : PortId) (w : TxWrite) (s : State) :
    LeavesSettings (s.setTx p (s.txPorts[p].store w s.rxPorts[p])) (writeTransmitHalf p w s) := by
  have hcleared : ∀ due, LeavesSettings (s.setTx p (s.txPorts[p].store w s.rxPorts[p]))
      (s.setTx p ((s.txPorts[p].store w s.rxPorts[p]).clear due)) := fun due => setTx_same p _ _ s rfl
  unfold writeTransmitHalf
  dsimp only
  split
  · exact (hcleared _).trans (recomputePort p _)
  · exact hcleared none
  · exact recomputePort p _
  · exact refl _

end LeavesSettings

/-! ### The service of an engine request -/

/-- What neither an answer nor the count's return to zero touches, and the service of a checked request keeps, a row of
the engine keeps. A request that waits at the engine has been checked as it was taken. -/
theorem serveEngine_keeps (I : State → Prop) (hanswer : ∀ s t, sameBut answerParts s t → I s → I t)
    (hcount : ∀ s, I s → I (s.setEngine { s.engine with count := 0 })) {row : Instr} (Checked : Request → Prop)
    {check : Request → State → Option RefusalAnswer} {run : Request → State → Served}
    (hcheck : ∀ r t, check r t = none → Checked r) (hrun : ∀ r t, Checked r → I t → I (run r t).state) (s : State)
    (hwaits : ∀ f rest r, s.agent.phase = .engineOp → s.lane.requests = f :: rest → requestRow f = row →
      requestOf f = some r → Checked r) (hs : I s) : I (serveEngine row check run s) := by
  have hruns : ∀ r, Checked r → I (runOperation run r s) := fun r hr =>
    hanswer _ _ (answer_sameBut r _) (hrun r _ hr (hcount s hs))
  unfold serveEngine
  split
  · exact hs
  · rename_i f rest hq
    split
    · rename_i hrow
      split
      · rename_i r _ _
        split
        · exact hanswer _ _ (answer_sameBut r _) hs
        · rename_i hc
          split
          · exact hruns r (hcheck r s hc)
          · exact hanswer _ _ (fun p hp => by cases p <;> simp_all [Part.same, answerParts]) hs
      · rename_i r hreq hphase
        split
        · exact hruns r (hwaits f rest r hphase hq hrow hreq)
        · exact hs
      · exact hs
    · exact hs

/-- A WRITE_SHELF that waits at the engine has passed its checks (R164, R166). -/
theorem HeadRequestKept.writeShelf_checked {s : State} (hs : HeadRequestKept s) (f : Frame)
    (rest : List Frame) (r : Request) (hphase : s.agent.phase = .engineOp) (hq : s.lane.requests = f :: rest) (hrow : requestRow f = .writeShelf)
    (hreq : requestOf f = some r) : checkWriteShelf r = none := by
  unfold HeadRequestKept at hs
  rw [hphase] at hs
  obtain ⟨g, rest', r', hq', hreq', hshelf, -⟩ := hs
  obtain ⟨rfl, -⟩ := List.cons.inj (hq.symm.trans hq')
  obtain rfl := Option.some.inj (hreq.symm.trans hreq')
  exact hshelf hrow

/-- WRITE_PORTS applies the block or nothing (R148). -/
theorem runWritePorts_keeps (I : State → Prop) (happly : ∀ b s, I s → I (applyPorts b s)) (r : Request) (s : State)
    (hs : I s) : I (runWritePorts r s).state := by
  unfold runWritePorts
  split
  · dsimp only
    exact happly r.body s hs
  · exact hs

/-! ### The evaluation queue (R81, R83, R84) -/

/-- At the restart each unparked shelf is queued once (R107). -/
theorem restartQueue_nodup (v : Vector Slice 16) : ((restartQueue v).map EvalEntry.shelf).Nodup := by
  unfold restartQueue
  rw [List.map_map]
  have hid : (EvalEntry.shelf ∘ fun k : ShelfId => { shelf := k, mark := none }) = id := rfl
  rw [hid, List.map_id]
  exact (List.nodup_finRange 16).filter _

theorem deviceRestart_engineQueue (s : State) (hs : EngineQueueOk s) : EngineQueueOk (deviceRestart s) := by
  obtain ⟨-, -, hbudget⟩ := hs
  have hframe := deviceRestart_directs s
  have hqueue : (deviceRestart s).engine.queue = restartQueue s.slices := hframe .queue (by decide)
  have hcount : (deviceRestart s).engine.count = 0 := hframe .count (by decide)
  have hkept : (deviceRestart s).engine.budget = s.engine.budget := hframe .budget (by decide)
  unfold EngineQueueOk
  rw [hqueue, hcount, hkept]
  exact ⟨restartQueue_nodup _, Nat.zero_le 8, hbudget⟩

theorem EngineQueueOk.answered (s t : State) (h : sameBut answerParts s t) (hs : EngineQueueOk s) : EngineQueueOk t :=
  (LeavesSettings.of_sameBut h).engine hs

theorem writeCandidate_engineQueue (n : Slot) (bw : BindingWrite) (gw : GradeWrite) (fw : FrequencyWrite) (s : State)
    (hs : EngineQueueOk s) : EngineQueueOk (writeCandidate n bw gw fw s) :=
  (LeavesSettings.commitGrade_after n _ (writeBinding n bw s)).engine
    ((LeavesSettings.writeBinding_after n bw s).engine hs)

theorem runWriteShelf_engineQueue (r : Request) (s : State) (hs : EngineQueueOk s) :
    EngineQueueOk (runWriteShelf r s).state := by
  refine foldl_keeps _ EngineQueueOk (fun k t ht => ?_) _ s hs
  split
  · exact (LeavesSettings.writeSlice_after k _ _).engine ((LeavesSettings.writeSelection_after k _ t).engine ht)
  · exact ht

theorem applyPorts_engineQueue (b : List Byte) (s : State) (hs : EngineQueueOk s) : EngineQueueOk (applyPorts b s) := by
  refine foldl_keeps _ EngineQueueOk (fun p t ht => ?_) _ _ ((LeavesSettings.writeReceiveHalves _ s).engine hs)
  split
  · exact (LeavesSettings.writeTransmitHalf_after p _ t).engine ht
  · exact ht

theorem storedBudget_range (n : Nat) : 1 ≤ storedBudget n ∧ storedBudget n ≤ 8 := by
  unfold storedBudget
  omega

theorem writeNode_engineQueue (w : NodeWrite) (s : State) (hw : 1 ≤ w.budget ∧ w.budget ≤ 8) (hs : EngineQueueOk s) :
    EngineQueueOk (writeNode w s) := by
  obtain ⟨hqueue, hcount, -⟩ := hs
  have hstored : EngineQueueOk
      { s with correction := w.correction, engine := { s.engine with budget := w.budget }, baseTag := w.baseTag } :=
    ⟨hqueue, hcount, hw⟩
  have htag := (LeavesSettings.writeBaseTag_after w.baseTag
    { s with correction := w.correction, engine := { s.engine with budget := w.budget } }).engine hstored
  exact (LeavesSettings.of_sameBut (sendDecision_sameBut _)).engine htag

theorem exec_keeps_engineQueue (c : Instr) (s t : State) (h : exec c s = .next t) (hs : EngineQueueOk s) :
    EngineQueueOk t := by
  cases c with
  | powerOn | resetLineReleased | transmissionEnd | deviceRestart =>
    exact exec_startsOver_keeps EngineQueueOk (fun _ _ _ _ _ => reset_engineQueueOk) deviceRestart_engineQueue
      (fun _ _ hs => hs) rfl h hs
  | writeCandidate =>
    exact exec_agent_keeps EngineQueueOk EngineQueueOk.answered h rfl
      (fun r s => writeCandidate_engineQueue _ _ _ _ s) hs
  | writeShelf =>
    rw [exec_eq_of_next h rfl]
    exact serveEngine_keeps EngineQueueOk EngineQueueOk.answered
      (fun _ ⟨hqueue, _, hbudget⟩ => ⟨hqueue, Nat.zero_le 8, hbudget⟩) (fun _ => True) (fun _ _ _ => trivial)
      (fun r s _ => runWriteShelf_engineQueue r s) s (fun _ _ _ _ _ _ _ => trivial) hs
  | writePorts =>
    exact exec_agent_keeps EngineQueueOk EngineQueueOk.answered h rfl
      (runWritePorts_keeps EngineQueueOk applyPorts_engineQueue) hs
  | writeNode =>
    exact exec_agent_keeps EngineQueueOk EngineQueueOk.answered h rfl
      (fun r s => writeNode_engineQueue _ s (storedBudget_range _)) hs
  | _ => exact (exec_leavesSettings _ s t rfl rfl h).engine hs

/-! ### The settings (R18, R49, R67, R79, R109, R133, R135, R138, R160) -/

/-- The hold-off, the WTR and the source of a candidate (R18). -/
def BindingWrite.InRange (w : BindingWrite) : Prop :=
  w.holdOffMs ≤ 2550 ∧ w.holdOffMs % 10 = 0 ∧ w.wtrS ≤ 1200 ∧ (w.kind ≠ .shelf → w.source = 0)

/-- The selection settings of a shelf (R79). -/
def Selection.InRange (w : Selection) : Prop := w.minRank ≤ 14 ∧ 1 ≤ w.hopLimit

/-- The settings of a slice (R109, R133). -/
def SliceSettings.InRange (w : SliceSettings) : Prop :=
  1 ≤ w.lockS ∧ w.lockS ≤ 255 ∧ 1 ≤ w.reportS ∧ w.reportS ≤ 30 ∧ w.settleS ≤ 255 ∧ w.holdoverRank ≤ w.freerunRank ∧
    w.budgetMin ≤ 1440

/-- The node's correction, its base tag, and the notices' spacing and summary interval (R49, R135, R160). -/
def NodeInRange (correction : Int) (tag : OriginTag) (spacingMs summaryS : Nat) : Prop :=
  -10000 ≤ correction ∧ correction ≤ 10000 ∧ tag &&& 0xF = 0 ∧ 100 ≤ spacingMs ∧ spacingMs ≤ 10000 ∧
    spacingMs % 10 = 0 ∧ summaryS ≤ 60

/-- Every setting in its range, block by block. -/
structure BlocksInRange (s : State) : Prop where
  binding : ∀ n : Slot, s.cands[n].binding.InRange
  timeout : ∀ n : Slot, 2 ≤ s.grades[n].timeoutS ∧ s.grades[n].timeoutS ≤ 30
  selection : ∀ k : ShelfId, s.shelves[k].sel.InRange
  timing : ∀ k : ShelfId, s.slices[k].cfg.InRange
  interval : ∀ p : PortId, 1 ≤ s.txPorts[p].intervalS ∧ s.txPorts[p].intervalS ≤ 10
  node : NodeInRange s.correction s.baseTag s.events.spacingMs s.events.summaryS

theorem settingsInRange_iff (s : State) : SettingsInRange s ↔ BlocksInRange s := by
  constructor
  · rintro ⟨hslots, hshelves, hports, hnode⟩
    refine ⟨fun n => ?_, fun n => ?_, fun k => ?_, fun k => ?_, hports, hnode⟩
    · obtain ⟨hholdOff, hstep, hwtr, hsource, -⟩ := hslots n
      exact ⟨hholdOff, hstep, hwtr, hsource⟩
    · obtain ⟨-, -, -, -, htimeout⟩ := hslots n
      exact htimeout
    · obtain ⟨hrank, hhop, -⟩ := hshelves k
      exact ⟨hrank, hhop⟩
    · obtain ⟨-, -, hcfg⟩ := hshelves k
      exact hcfg
  · rintro ⟨hbinding, htimeout, hselection, htiming, hports, hnode⟩
    refine ⟨fun n => ?_, fun k => ?_, hports, hnode⟩
    · obtain ⟨hholdOff, hstep, hwtr, hsource⟩ := hbinding n
      exact ⟨hholdOff, hstep, hwtr, hsource, htimeout n⟩
    · obtain ⟨hrank, hhop⟩ := hselection k
      exact ⟨hrank, hhop, htiming k⟩

namespace BlocksInRange

variable {s t : State}

theorem of_kept (hs : BlocksInRange s) (h : SettingsKept s t) : BlocksInRange t :=
  ⟨fun n => h.binding n ▸ hs.binding n, fun n => h.timeout n ▸ hs.timeout n, fun k => h.selection k ▸ hs.selection k,
    fun k => h.timing k ▸ hs.timing k, fun p => h.interval p ▸ hs.interval p, by
      rw [h.correction, h.baseTag, h.spacing, h.summary]; exact hs.node⟩

theorem after (hs : BlocksInRange s) (h : LeavesSettings s t) : BlocksInRange t := hs.of_kept h.toSettingsKept

theorem answered (s t : State) (h : sameBut answerParts s t) (hs : BlocksInRange s) : BlocksInRange t :=
  hs.after (.of_sameBut h)

/-! #### One record stored -/

theorem setCand (hs : BlocksInRange s) (n : Slot) (c : Cand) (hc : c.binding.InRange) :
    BlocksInRange (s.setCand n c) := by
  refine { hs with binding := fun m => ?_ }
  rw [State.setCand_cands_at]
  split
  · exact hc
  · exact hs.binding m

theorem setGrade (hs : BlocksInRange s) (n : Slot) (g : GradeSlot) (hg : 2 ≤ g.timeoutS ∧ g.timeoutS ≤ 30) :
    BlocksInRange (s.setGrade n g) := by
  refine { hs with timeout := fun m => ?_ }
  rw [State.setGrade_grades_at]
  split
  · exact hg
  · exact hs.timeout m

theorem setShelf (hs : BlocksInRange s) (k : ShelfId) (x : Shelf) (hx : x.sel.InRange) :
    BlocksInRange (s.setShelf k x) := by
  refine { hs with selection := fun j => ?_ }
  rw [State.setShelf_shelves_at]
  split
  · exact hx
  · exact hs.selection j

theorem setSlice (hs : BlocksInRange s) (k : ShelfId) (v : Slice) (hv : v.cfg.InRange) :
    BlocksInRange (s.setSlice k v) := by
  refine { hs with timing := fun j => ?_ }
  rw [State.setSlice_slices_at]
  split
  · exact hv
  · exact hs.timing j

theorem commitGrade (hs : BlocksInRange s) (n : Slot) (g : GradeSlot) (hg : 2 ≤ g.timeoutS ∧ g.timeoutS ≤ 30) :
    BlocksInRange (commitGrade n g s) :=
  (hs.setGrade n { g with eff := s.grades[n].eff } hg).after (.commitGrade_after n g s)

theorem setTx (hs : BlocksInRange s) (p : PortId) (x : TxPort) (hx : 1 ≤ x.intervalS ∧ x.intervalS ≤ 10) :
    BlocksInRange (s.setTx p x) := by
  refine { hs with interval := fun q => ?_ }
  rw [State.setTx_txPorts_at]
  split
  · exact hx
  · exact hs.interval q

end BlocksInRange

/-! #### What a request stores (R166) -/

theorem write_binding_inRange (now : Nat) (b : List Byte) (c : Cand) : (c.write now (bindingOf b)).binding.InRange := by
  obtain ⟨hkind, hsource, hholdOff, hwtr, -⟩ := Cand.write_fields now (bindingOf b) c _ rfl
  have hclamp : storedHoldOff (numAt b 3 2) ≤ 2550 ∧ storedHoldOff (numAt b 3 2) % 10 = 0 := by
    unfold storedHoldOff
    omega
  refine ⟨hholdOff.trans_le hclamp.1, (congrArg (· % 10) hholdOff).trans hclamp.2,
    hwtr.trans_le (Nat.min_le_right _ 1200), fun hne => ?_⟩
  exact hsource.trans (if_neg (hkind ▸ hne))

theorem storedTimeout_range (n : Nat) : 2 ≤ storedTimeout n ∧ storedTimeout n ≤ 30 := by
  unfold storedTimeout
  omega

theorem storedInterval_range (n : Nat) : 1 ≤ storedInterval n ∧ storedInterval n ≤ 10 := by
  unfold storedInterval
  omega

theorem selectionOf_inRange (b : List Byte) : (selectionOf b).InRange := by
  refine ⟨?_, ?_⟩
  · show Fin.ofNat 16 (min (byteAt b 4) 14) ≤ 14
    rw [Fin.le_def, Fin.val_ofNat]
    show min (byteAt b 4) 14 % 16 ≤ 14
    omega
  · show 1 ≤ Fin.ofNat 32 (max 1 (min (byteAt b 5) 31))
    rw [Fin.le_def, Fin.val_ofNat]
    show 1 ≤ max 1 (min (byteAt b 5) 31) % 32
    omega

theorem byteAt_lt (b : List Byte) (i : Nat) : byteAt b i < 256 := by
  unfold byteAt
  exact BitVec.isLt _

/-- The checks of WRITE_SHELF bound the ranks and the budget, which no clamp does (R166). -/
theorem sliceSettingsOf_inRange (r : Request) (h : checkWriteShelf r = none) : (sliceSettingsOf r.body).InRange := by
  obtain ⟨-, -, hvalues⟩ := checkBody_none h
  simp only [Bool.and_eq_true, decide_eq_true_eq] at hvalues
  obtain ⟨⟨⟨-, hholdover⟩, hfreerun⟩, hbudget⟩ := hvalues
  have hlock := byteAt_lt r.body 8
  have hsettle := byteAt_lt r.body 10
  refine ⟨Nat.le_max_left 1 _, ?_, Nat.le_max_left 1 _, ?_, ?_, ?_, hbudget⟩
  · show max 1 (byteAt r.body 8) ≤ 255
    omega
  · show max 1 (min (byteAt r.body 9) 30) ≤ 30
    omega
  · show byteAt r.body 10 ≤ 255
    omega
  · show Fin.ofNat 16 (byteAt r.body 11) ≤ Fin.ofNat 16 (max (byteAt r.body 11) (byteAt r.body 12))
    rw [Fin.le_def, Fin.val_ofNat, Fin.val_ofNat]
    omega

theorem nodeOf_inRange (b : List Byte) :
    NodeInRange (nodeOf b).correction (nodeOf b).baseTag (nodeOf b).spacingMs (nodeOf b).summaryS := by
  have hcorrection : -10000 ≤ storedCorrection (signedAt b 6) ∧ storedCorrection (signedAt b 6) ≤ 10000 := by
    unfold storedCorrection
    omega
  have hspacing : 100 ≤ storedSpacing (numAt b 15 2) ∧ storedSpacing (numAt b 15 2) ≤ 10000 ∧
      storedSpacing (numAt b 15 2) % 10 = 0 := by
    unfold storedSpacing
    omega
  obtain ⟨hleast, hmost, hstep⟩ := hspacing
  refine ⟨hcorrection.1, hcorrection.2, ?_, hleast, hmost, hstep, Nat.min_le_right _ 60⟩
  show BitVec.ofNat 48 (numAt b 0 6) &&& 0xFFFFFFFFFFF0#48 &&& 0xF = 0
  rw [BitVec.and_assoc]
  exact BitVec.and_zero

/-! #### The table writes -/

theorem writeCandidate_inRange (n : Slot) (b : List Byte) (fw : FrequencyWrite) (s : State) (hs : BlocksInRange s) :
    BlocksInRange (writeCandidate n (bindingOf b) (gradeOf b) fw s) := by
  have hbound := (hs.setCand n _ (write_binding_inRange s.osc b s.cands[n])).after
    (LeavesSettings.writeBinding_after n (bindingOf b) s)
  refine (hbound.commitGrade n _ ?_).after (.of_sameBut (setInput_sameBut _ n _))
  obtain ⟨-, -, -, -, -, htimeout, -⟩ := GradeSlot.write_fields _ _ _ _ _ (gradeOf b) _ _ rfl
  rw [htimeout]
  exact storedTimeout_range _

theorem runWriteShelf_inRange (r : Request) (s : State) (h : checkWriteShelf r = none) (hs : BlocksInRange s) :
    BlocksInRange (runWriteShelf r s).state := by
  refine foldl_keeps _ BlocksInRange (fun k t ht => ?_) _ s hs
  split
  · have hselected := (ht.setShelf k { t.shelves[k] with sel := selectionOf r.body } (selectionOf_inRange r.body)).after
      (LeavesSettings.writeSelection_after k _ t)
    refine (hselected.setSlice k _ ?_).after (LeavesSettings.writeSlice_after k (sliceSettingsOf r.body) _)
    unfold Slice.writeSettings
    dsimp only
    split <;> exact sliceSettingsOf_inRange r h
  · exact ht

theorem applyPorts_inRange (b : List Byte) (s : State) (hs : BlocksInRange s) : BlocksInRange (applyPorts b s) := by
  refine foldl_keeps _ BlocksInRange (fun p t ht => ?_) _ _ (hs.after (LeavesSettings.writeReceiveHalves _ s))
  split
  · exact (ht.setTx p _ (storedInterval_range _)).after
      (LeavesSettings.writeTransmitHalf_after p (txOf (entryFor b p)) t)
  · exact ht

theorem writeNode_inRange (w : NodeWrite) (s : State) (hw : NodeInRange w.correction w.baseTag w.spacingMs w.summaryS)
    (hs : BlocksInRange s) : BlocksInRange (writeNode w s) := by
  obtain ⟨hleast, hmost, htag, hspacing⟩ := hw
  obtain ⟨-, -, -, hevents⟩ := hs.node
  have hstored : BlocksInRange
      { s with correction := w.correction, engine := { s.engine with budget := w.budget }, baseTag := w.baseTag } :=
    { hs with node := ⟨hleast, hmost, htag, hevents⟩ }
  have htagged := hstored.after (LeavesSettings.writeBaseTag_after w.baseTag
    { s with correction := w.correction, engine := { s.engine with budget := w.budget } })
  have hevent : ∀ u, BlocksInRange u → BlocksInRange { u with events := u.events.write u.osc w } := by
    intro u hu
    obtain ⟨hleast, hmost, htag, -⟩ := hu.node
    obtain ⟨-, -, -, hspacingMs, hsummaryS, -⟩ := EventUnit.write_fields u.osc w u.events
    refine { hu with node := ⟨hleast, hmost, htag, ?_⟩ }
    rw [hspacingMs, hsummaryS]
    exact hspacing
  exact (hevent _ htagged).after (.of_sameBut (sendDecision_sameBut _))

/-! #### Every command -/

/-- The settings at power-on, which the reset state shares. -/
theorem powerOn_inRange (now : Nat) (strap : Address) (level : Bool) (record : RestartRecord) (pending : List Instr) :
    BlocksInRange (State.powerOn now strap level record pending) := by
  have hcand : resetCand.binding.InRange := by unfold BindingWrite.InRange; decide
  have hshelf : resetShelf.sel.InRange := by unfold Selection.InRange; decide
  have hnode : NodeInRange 0 0 (resetEvents now).spacingMs (resetEvents now).summaryS := by
    show NodeInRange 0 0 (resetEvents 0).spacingMs (resetEvents 0).summaryS
    unfold NodeInRange; decide
  have hslice : resetSliceSettings.InRange := by unfold SliceSettings.InRange; decide
  refine ⟨fun n => ?_, fun n => ?_, fun k => ?_, fun k => ?_, fun p => ?_, hnode⟩
  · rw [powerOn_cands]; exact hcand
  · simp only [State.powerOn, Fin.getElem_fin, Vector.getElem_replicate]; decide
  · simp only [State.powerOn, Fin.getElem_fin, Vector.getElem_replicate]; exact hshelf
  · simp only [State.powerOn, Fin.getElem_fin, Vector.getElem_ofFn]; exact hslice
  · simp only [State.powerOn, Fin.getElem_fin, Vector.getElem_replicate]; decide

/-- The restart keeps the settings of every block (R17). -/
theorem deviceRestart_settings (s : State) : SettingsKept s (deviceRestart s) := by
  have hframe := (restarted_sameBut s).trans ((deviceRestart_directs s).mono (qs := restartedParts))
  have hdirects : sameBut [.slices, .fabric] s.restarted (deviceRestart s) := deviceRestart_directs s
  have hgrades : (deviceRestart s).grades = s.restarted.grades := hdirects .grades (by decide)
  have hshelves : (deviceRestart s).shelves = s.restarted.shelves := hdirects .shelves (by decide)
  obtain ⟨-, hports⟩ := deviceRestart_ports s
  obtain ⟨-, hslices⟩ := deviceRestart_sends s _ rfl
  obtain ⟨-, -, -, hspacing, hsummary⟩ := hframe .eventSettings (by decide)
  refine ⟨fun n => ?_, fun n => ?_, fun k => ?_, fun k => ?_, fun p => ?_, hframe .correction (by decide),
    hframe .baseTag (by decide), hspacing, hsummary⟩
  · rw [deviceRestart_cands]; rfl
  · rw [hgrades, restarted_grades]; rfl
  · rw [hshelves, restarted_shelves]; rfl
  · rw [hslices]; rfl
  · rw [hports, Fin.getElem_fin, Vector.getElem_map]; rfl

theorem exec_keeps_settings (c : Instr) (s t : State) (h : exec c s = .next t) (hhead : HeadRequestKept s)
    (hs : BlocksInRange s) : BlocksInRange t := by
  cases c with
  | powerOn | resetLineReleased | transmissionEnd | deviceRestart =>
    exact exec_startsOver_keeps BlocksInRange powerOn_inRange (fun s hs => hs.of_kept (deviceRestart_settings s))
      (fun _ _ hs => { hs with }) rfl h hs
  | writeCandidate =>
    exact exec_agent_keeps BlocksInRange BlocksInRange.answered h rfl
      (fun r s => writeCandidate_inRange _ r.body _ s) hs
  | writeShelf =>
    rw [exec_eq_of_next h rfl]
    exact serveEngine_keeps BlocksInRange BlocksInRange.answered (fun _ hs => { hs with })
      (fun r => checkWriteShelf r = none) (fun _ _ => guarded_none) runWriteShelf_inRange s hhead.writeShelf_checked hs
  | writePorts =>
    exact exec_agent_keeps BlocksInRange BlocksInRange.answered h rfl
      (runWritePorts_keeps BlocksInRange applyPorts_inRange) hs
  | writeNode =>
    exact exec_agent_keeps BlocksInRange BlocksInRange.answered h rfl
      (fun r s => writeNode_inRange _ s (nodeOf_inRange r.body)) hs
  | _ => exact hs.after (exec_leavesSettings _ s t rfl rfl h)

/-! ### The settled statement -/

theorem step_keeps_settings (s t : State) (hs : SettingsInRange s) (hhead : HeadRequestKept s) (h : step s = .next t) :
    SettingsInRange t := by
  rw [settingsInRange_iff] at hs ⊢
  unfold step at h
  split at h
  · exact exec_keeps_settings _ _ t h hhead { hs with }
  · exact Host.Outcome.next.inj h ▸ hs

/-- Settles O54, by the commands that store a setting or queue a shelf. -/
theorem stepKeepsEngineQueue : Obligations.StepKeepsEngineQueue :=
  ⟨step_keeps EngineQueueOk exec_keeps_engineQueue fun _ _ h => h, step_keeps_settings⟩

end Sys2Proof.Machine
end

section
/-! PROOFS. WRITE_CANDIDATE (R173): what the write stores, and how a change of the binding moves the candidate, its grade
and its tick input. -/

namespace Sys2Proof.Machine

-- One theorem after the other: the joined text would otherwise ask for a thread per waiting proof.
set_option Elab.async false

/-- The write binds the slot, unbinds it, or binds it to another source (R20, R26 to R28). -/
abbrev Cand.BindingChanges (w : BindingWrite) (c : Cand) : Prop :=
  c.kind ≠ w.kind ∨ c.kind = .shelf ∧ c.source ≠ w.source

/-- The two tests by which the write tells a change of the binding. -/
theorem Cand.bindingChanges_iff (w : BindingWrite) (c : Cand) :
    (decide (c.kind ≠ w.kind) || c.rebinds w) = true ↔ c.BindingChanges w := by
  unfold Cand.rebinds Cand.BindingChanges
  simp only [Bool.or_eq_true, Bool.and_eq_true, decide_eq_true_eq]
  by_cases hk : c.kind = w.kind
  · constructor
    · rintro (hne | ⟨-, hne | ⟨hsh, hsource⟩⟩)
      · exact .inl hne
      · exact absurd hk.symm hne
      · exact .inr ⟨hk.trans hsh, hsource.symm⟩
    · rintro (hne | ⟨hsh, hsource⟩)
      · exact .inl hne
      · have hw := hk.symm.trans hsh
        exact .inr ⟨⟨hsh ▸ nofun, hw ▸ nofun⟩, .inr ⟨hw, hsource.symm⟩⟩
  · exact ⟨fun _ => .inl hk, fun _ => .inl hk⟩

theorem Cand.not_bindingChanges {w : BindingWrite} {c : Cand} (h : ¬ c.BindingChanges w) :
    c.kind = w.kind ∧ (c.kind = .shelf → c.source = w.source) := by
  unfold Cand.BindingChanges at h
  push Not at h
  exact h

/-- The code of kind LINE. -/
theorem kindOfCode_line (n : Nat) (h : n < 4) : kindOfCode n = .line ↔ n = 1 := by
  interval_cases n <;> simp [kindOfCode]

section Write

variable {n : Slot} {bw : BindingWrite} {gw : GradeWrite} {fw : FrequencyWrite} {s u : State}

/-! ### The three records of the slot -/

theorem writeCandidate_cand (hu : u = writeCandidate n bw gw fw s) : u.cands[n] = s.cands[n].write s.osc bw := by
  obtain ⟨hcands, -⟩ := writeCandidate_spec n bw gw fw s u hu
  rw [hcands, getElem_set_fin, if_pos rfl]

/-- The input starts over when watching starts or ends. -/
theorem writeCandidate_input (hu : u = writeCandidate n bw gw fw s) :
    u.inputs[n] = TickInput.write fw (if s.cands[n].kind ≠ .none ↔ bw.kind ≠ .none then s.inputs[n]
      else s.inputs[n].watch (decide (bw.kind ≠ .none))) := by
  obtain ⟨-, hinputs, -⟩ := writeCandidate_spec n bw gw fw s u hu
  rw [hinputs, getElem_set_fin, if_pos rfl]
  exact congrArg _ (if_congr decide_eq_decide rfl rfl)

theorem writeCandidate_kind (hu : u = writeCandidate n bw gw fw s) : u.cands[n].kind = bw.kind := by
  obtain ⟨hkind, -⟩ := Cand.write_fields s.osc bw s.cands[n] _ (writeCandidate_cand hu)
  exact hkind

/-- The grade record stored, but for its effective grade, which is the one of the state after. -/
theorem writeCandidate_grade (hu : u = writeCandidate n bw gw fw s) :
    ∃ x, s.grades[n].write s.osc s.rmaps[gw.rmap] (decide (bw.kind = .line)) (portOf s.rxPorts n).isSome
        (decide (s.cands[n].kind ≠ bw.kind) || s.cands[n].rebinds bw) gw = x ∧
      u.grades[n] = { x with eff := effectiveGrade u n } := by
  obtain ⟨-, -, hgrades, -⟩ := writeCandidate_spec n bw gw fw s u hu
  rw [writeCandidate_kind hu] at hgrades
  exact ⟨_, rfl, by rw [hgrades, getElem_set_fin, if_pos rfl]⟩

theorem writeCandidate_others (hu : u = writeCandidate n bw gw fw s) (m : Slot) (hm : m ≠ n) :
    u.cands[m] = s.cands[m] ∧ u.grades[m] = s.grades[m] ∧ u.inputs[m] = s.inputs[m] := by
  obtain ⟨hcands, hinputs, hgrades, -⟩ := writeCandidate_spec n bw gw fw s u hu
  rw [hcands, hinputs, hgrades]
  simp only [getElem_set_fin, if_neg hm.symm, and_self]

/-! ### The settings (R18, R47, R48, R67) -/

theorem writeCandidate_gradeSettings (hu : u = writeCandidate n bw gw fw s) :
    u.grades[n].rmap = gw.rmap ∧ u.grades[n].floor = gw.floor ∧ u.grades[n].setRank = gw.setRank ∧
      u.grades[n].setRankOn = gw.setRankOn ∧ u.grades[n].assumedHops = gw.assumedHops ∧
      u.grades[n].timeoutS = gw.timeoutS ∧ u.grades[n].eff = effectiveGrade u n := by
  obtain ⟨x, hx, hgrade⟩ := writeCandidate_grade hu
  obtain ⟨hrmap, hfloor, hrank, hrankOn, hhops, htimeout, -⟩ := GradeSlot.write_fields _ _ _ _ _ gw _ x hx.symm
  rw [hgrade]
  exact ⟨hrmap, hfloor, hrank, hrankOn, hhops, htimeout, rfl⟩

/-! ### A change of the binding (R20, R26 to R28, R66) -/

/-- The grade state starts over, held when the map is detached, and the notice timer runs at a bound LINE slot (R66,
R72). -/
theorem writeCandidate_clearsGrade (hu : u = writeCandidate n bw gw fw s) (h : s.cands[n].BindingChanges bw) :
    (u.grades[n].code = .pending ∧ u.grades[n].path = none ∧ u.grades[n].mapped = 15) ∧
      u.grades[n].held = !s.rmaps[u.grades[n].rmap].attached ∧
      u.grades[n].timer = (if bw.kind = .line ∧ (portOf s.rxPorts n).isSome = true then
        some (s.osc + u.grades[n].timeoutS * 125000000) else none) := by
  obtain ⟨x, hx, hgrade⟩ := writeCandidate_grade hu
  obtain ⟨hrmap, -⟩ := GradeSlot.write_fields _ _ _ _ _ gw _ x hx.symm
  obtain ⟨hcleared, -⟩ := GradeSlot.write_moves _ _ _ _ _ gw _ x hx
  obtain ⟨hcode, hpath, hmapped, hheld, htimer⟩ := hcleared ((Cand.bindingChanges_iff bw _).2 h)
  simp only [hgrade, hrmap]
  refine ⟨⟨hcode, hpath, hmapped⟩, hheld, htimer.trans ?_⟩
  simp only [bindTimer_eq, decide_eq_true_eq]

theorem writeCandidate_binds (hu : u = writeCandidate n bw gw fw s) (hk : s.cands[n].kind = .none)
    (hw : bw.kind ≠ .none) :
    u.cands[n].state = .down ∧ u.cands[n].fresh = true ∧ u.cands[n].health = false ∧ u.cands[n].timer = .none ∧
      (s.cands[n].state = .idle → candStateTold n s u) ∧ u.inputs[n].watched = true ∧ u.inputs[n].active = false ∧
      u.grades[n].code = .pending ∧ u.grades[n].path = none ∧ u.grades[n].mapped = 15 := by
  obtain ⟨hbound, -⟩ := Cand.write_moves s.osc bw s.cands[n] _ (writeCandidate_cand hu)
  obtain ⟨hstate, hfresh, hhealth, htimer⟩ := hbound hk hw
  obtain ⟨htold, -⟩ := writeCandidate_told n bw gw fw s u hu
  obtain ⟨hgrade, -⟩ := writeCandidate_clearsGrade hu (.inl fun h => hw (h ▸ hk))
  have hinput : u.inputs[n] = TickInput.write fw (s.inputs[n].watch true) := by
    rw [writeCandidate_input hu, if_neg fun h => h.2 hw hk, decide_eq_true hw]
  refine ⟨hstate, hfresh, hhealth, htimer, fun hidle => htold (.inl ?_), ?_, ?_, hgrade⟩
  · rw [← writeCandidate_cand hu, hstate, hidle]
    exact nofun
  · rw [hinput]; rfl
  · rw [hinput]; rfl

theorem writeCandidate_unbinds (hu : u = writeCandidate n bw gw fw s) (hk : s.cands[n].kind ≠ .none)
    (hw : bw.kind = .none) :
    u.cands[n].state = .idle ∧ u.cands[n].health = false ∧ u.cands[n].timer = .none ∧
      u.cands[n].fresh = s.cands[n].fresh ∧ (s.cands[n].state ≠ .idle → candStateTold n s u) ∧
      u.flight.health = s.flight.health.filter (fun x => decide (x.1 ≠ n)) ∧
      u.inputs[n].watched = false ∧ u.inputs[n].active = false ∧
      u.events.copies[condFreqFail n] = (if s.inputs[n].freqFail then false else s.events.copies[condFreqFail n]) ∧
      u.grades[n].code = .pending ∧ u.grades[n].path = none ∧ u.grades[n].mapped = 15 := by
  obtain ⟨-, hunbound, -⟩ := Cand.write_moves s.osc bw s.cands[n] _ (writeCandidate_cand hu)
  obtain ⟨hstate, hhealth, htimer, hfresh⟩ := hunbound hk hw
  obtain ⟨htold, -, hreports, hfreqFail⟩ := writeCandidate_told n bw gw fw s u hu
  obtain ⟨hgrade, -⟩ := writeCandidate_clearsGrade hu (.inl fun h => hk (h.trans hw))
  have hinput : u.inputs[n] = TickInput.write fw (s.inputs[n].watch false) := by
    rw [writeCandidate_input hu, if_neg fun h => h.1 hk hw, decide_eq_false (not_not_intro hw)]
  rw [if_pos ⟨hk, hw⟩] at hreports
  have hwatching : ¬ decide (s.cands[n].kind ≠ .none) = decide (bw.kind ≠ .none) := fun h =>
    (decide_eq_decide.1 h).1 hk hw
  rw [if_neg hwatching] at hfreqFail
  refine ⟨hstate, hhealth, htimer, hfresh, fun hidle => htold (.inl ?_), hreports, ?_, ?_, hfreqFail, hgrade⟩
  · rw [← writeCandidate_cand hu, hstate]
    exact hidle
  · rw [hinput]; rfl
  · rw [hinput]; rfl

theorem writeCandidate_rebinds (hu : u = writeCandidate n bw gw fw s) (hk : s.cands[n].kind ≠ .none)
    (hw : bw.kind ≠ .none) (h : s.cands[n].BindingChanges bw) :
    u.cands[n].fresh = false ∧ u.cands[n].health = s.cands[n].health ∧ candStateTold n s u ∧
      (s.cands[n].health = false → u.cands[n].state = .down ∧ u.cands[n].timer = .none) ∧
      (s.cands[n].health = true →
        if u.cands[n].maintHold then
          u.cands[n].state = .restoring ∧ u.cands[n].timer = .wtrPaused (u.cands[n].wtrS * 125000000)
        else if 0 < u.cands[n].wtrS then
          u.cands[n].state = .restoring ∧ u.cands[n].timer = .wtr (s.osc + u.cands[n].wtrS * 125000000)
        else u.cands[n].state = .available ∧ u.cands[n].timer = .none) ∧
      u.grades[n].code = .pending ∧ u.grades[n].path = none ∧ u.grades[n].mapped = 15 := by
  obtain ⟨-, -, hrebound, -⟩ := Cand.write_moves s.osc bw s.cands[n] _ (writeCandidate_cand hu)
  obtain ⟨hrebinds, hdown, hfresh, hhealth, hup⟩ := hrebound hk hw h
  obtain ⟨htold, -⟩ := writeCandidate_told n bw gw fw s u hu
  obtain ⟨hgrade, -⟩ := writeCandidate_clearsGrade hu h
  exact ⟨hfresh, hhealth, htold (.inr hrebinds), hdown, hup, hgrade⟩

/-! ### The binding kept (R25, R72) -/

theorem writeCandidate_holds (hu : u = writeCandidate n bw gw fw s) (hk : s.cands[n].kind = bw.kind)
    (hsource : s.cands[n].kind = .shelf → s.cands[n].source = bw.source) :
    u.cands[n].health = s.cands[n].health ∧
      (∀ due, s.cands[n].kind ≠ .none → s.cands[n].state = .restoring → s.cands[n].timer = .wtr due →
        s.cands[n].maintHold = false → bw.maintHold = true →
        u.cands[n].state = .restoring ∧ u.cands[n].timer = .wtrPaused (due - s.osc)) ∧
      (∀ left, s.cands[n].kind ≠ .none → s.cands[n].state = .restoring → s.cands[n].timer = .wtrPaused left →
        s.cands[n].maintHold = true → bw.maintHold = false →
        if left = 0 then
          u.cands[n].state = .available ∧ u.cands[n].fresh = false ∧ u.cands[n].timer = .none ∧ candStateTold n s u
        else u.cands[n].state = .restoring ∧ u.cands[n].timer = .wtr (s.osc + left)) ∧
      (s.cands[n].maintHold = bw.maintHold ∨ s.cands[n].state ≠ .restoring →
        u.cands[n].state = s.cands[n].state ∧ u.cands[n].timer = s.cands[n].timer) := by
  obtain ⟨-, -, -, hkept⟩ := Cand.write_moves s.osc bw s.cands[n] _ (writeCandidate_cand hu)
  obtain ⟨-, hhealth, hpauses, hresumes, hsame⟩ := hkept hk hsource
  obtain ⟨htold, -⟩ := writeCandidate_told n bw gw fw s u hu
  refine ⟨hhealth, hpauses, fun left hbound hrestoring htimer hheld hreleased => ?_, hsame⟩
  have hresumed := hresumes left hbound hrestoring htimer hheld hreleased
  split at hresumed <;> rename_i hleft
  · obtain ⟨hstate, hfresh, hstopped⟩ := hresumed
    rw [if_pos hleft]
    refine ⟨hstate, hfresh, hstopped, htold (.inl ?_)⟩
    rw [← writeCandidate_cand hu, hstate, hrestoring]
    exact nofun
  · rw [if_neg hleft]
    exact hresumed

/-- The grade state goes on: the code is mapped anew when the slot takes another, attached map (R72). -/
theorem writeCandidate_remaps (hu : u = writeCandidate n bw gw fw s) (h : ¬ s.cands[n].BindingChanges bw) :
    u.grades[n].code = s.grades[n].code ∧ u.grades[n].path = s.grades[n].path ∧
      u.grades[n].timer = s.grades[n].timer ∧
      (u.grades[n].rmap = s.grades[n].rmap →
        u.grades[n].mapped = s.grades[n].mapped ∧ u.grades[n].held = s.grades[n].held) ∧
      (u.grades[n].rmap ≠ s.grades[n].rmap → s.rmaps[u.grades[n].rmap].attached = false →
        u.grades[n].mapped = s.grades[n].mapped ∧ u.grades[n].held = true) ∧
      (u.grades[n].rmap ≠ s.grades[n].rmap → s.rmaps[u.grades[n].rmap].attached = true →
        u.grades[n].held = false ∧
          u.grades[n].mapped =
            match s.cands[n].kind, s.grades[n].code with
            | .line, .received c => s.rmaps[u.grades[n].rmap].entries[c]
            | _, _ => s.grades[n].mapped) := by
  obtain ⟨x, hx, hgrade⟩ := writeCandidate_grade hu
  obtain ⟨hrmap, -⟩ := GradeSlot.write_fields _ _ _ _ _ gw _ x hx.symm
  obtain ⟨-, hkept⟩ := GradeSlot.write_moves _ _ _ _ _ gw _ x hx
  obtain ⟨hcode, hpath, htimer, hsame, hdetached, hattached⟩ :=
    hkept (Bool.eq_false_iff.2 fun hb => h ((Cand.bindingChanges_iff bw _).1 hb))
  obtain ⟨hk, -⟩ := Cand.not_bindingChanges h
  simp only [hgrade, hrmap]
  refine ⟨hcode, hpath, htimer, hsame, hdetached, fun hne hon => ?_⟩
  obtain ⟨hheld, hmapped⟩ := hattached hne hon
  refine ⟨hheld, hmapped.trans ?_⟩
  rw [hk]
  cases bw.kind <;> cases s.grades[n].code <;> rfl

/-! ### Reports, ticks and removals (R31, R32, R36) -/

theorem writeCandidate_keepsWatching (hu : u = writeCandidate n bw gw fw s)
    (h : s.cands[n].kind = .none ↔ bw.kind = .none) :
    u.flight.health = s.flight.health ∧ u.inputs[n] = s.inputs[n].write fw := by
  obtain ⟨-, -, hreports, -⟩ := writeCandidate_told n bw gw fw s u hu
  refine ⟨hreports.trans (if_neg fun hand => hand.1 (h.2 hand.2)), ?_⟩
  rw [writeCandidate_input hu, if_pos (not_congr h)]

/-- A slot leaves the lock-failed sets when it was available and its binding changes: no other write takes a legal
candidate out of AVAILABLE. -/
theorem writeCandidate_removals (hu : u = writeCandidate n bw gw fw s) (hok : CandidateOk s.cands[n]) :
    u.flight.removals = if s.cands[n].state = .available ∧ s.cands[n].BindingChanges bw then s.flight.removals ++ [n]
      else s.flight.removals := by
  obtain ⟨-, hremovals, -⟩ := writeCandidate_told n bw gw fw s u hu
  obtain ⟨-, hunbound, hrebound, hkept⟩ := Cand.write_moves s.osc bw s.cands[n] _ rfl
  rw [hremovals]
  refine if_congr ⟨fun ⟨hmoved, hav⟩ => ⟨hav, ?_⟩, fun ⟨hav, hch⟩ => ⟨?_, hav⟩⟩ rfl rfl
  · by_contra hno
    obtain ⟨hk, hsource⟩ := Cand.not_bindingChanges hno
    obtain ⟨hsame, -, -, -, hstays⟩ := hkept hk hsource
    have hstate := (hstays (.inr (hav ▸ nofun))).1
    rcases hmoved with hmoved | hmoved
    · exact hmoved hstate.symm
    · exact Bool.false_ne_true (hsame.symm.trans hmoved)
  · have hk : s.cands[n].kind ≠ .none := CandidateOk.kind_ne hok (hav ▸ nofun)
    by_cases hw : bw.kind = .none
    · have hidle := (hunbound hk hw).1
      exact .inl (by rw [hav, hidle]; exact nofun)
    · exact .inr (hrebound hk hw hch).1

end Write

/-! ### The request's fields (Table 10-10) -/

/-- The codes of a WRITE_CANDIDATE that passes its checks, read as what they write. -/
theorem bindingOf_codes (r : Request) (h : checkWriteCandidate r = none) :
    ((bindingOf r.body).kind = .none ↔ byteAt r.body 1 = 0) ∧ ((bindingOf r.body).kind = .line ↔ byteAt r.body 1 = 1) ∧
      ((bindingOf r.body).kind = .shelf ↔ byteAt r.body 1 = 3) ∧ (bindingOf r.body).source.val = byteAt r.body 2 := by
  obtain ⟨-, hindex, hvalues⟩ := checkBody_none h
  simp only [Bool.and_eq_true, decide_eq_true_eq] at hindex hvalues
  obtain ⟨⟨-, hsource⟩, -⟩ := hindex
  obtain ⟨⟨hkind, -⟩, -⟩ := hvalues
  exact ⟨kindOfCode_none _ hkind, kindOfCode_line _ hkind, kindOfCode_shelf _ hkind, Nat.mod_eq_of_lt hsource⟩

theorem gradeOf_codes (r : Request) (h : checkWriteCandidate r = none) :
    (gradeOf r.body).rmap.val = byteAt r.body 8 ∧ (gradeOf r.body).floor.val = byteAt r.body 9 ∧
      (gradeOf r.body).setRank.val = byteAt r.body 10 ∧
      (gradeOf r.body).assumedHops.val = min (byteAt r.body 11) 31 := by
  obtain ⟨-, hindex, hvalues⟩ := checkBody_none h
  simp only [Bool.and_eq_true, decide_eq_true_eq] at hindex hvalues
  obtain ⟨-, hmap⟩ := hindex
  obtain ⟨⟨-, hfloor⟩, hrank⟩ := hvalues
  exact ⟨Nat.mod_eq_of_lt hmap, Nat.mod_eq_of_lt hfloor, Nat.mod_eq_of_lt hrank,
    Nat.mod_eq_of_lt (Nat.lt_succ_of_le (Nat.min_le_right _ 31))⟩

/-- A change of the binding, told by the source byte. -/
theorem bindingChanges_iff_source (w : BindingWrite) (c : Cand) (source : Nat) (h : w.source.val = source) :
    c.BindingChanges w ↔ c.kind ≠ w.kind ∨ c.kind = .shelf ∧ c.source.val ≠ source := by
  unfold Cand.BindingChanges
  rw [← h, ne_eq, ne_eq, Fin.ext_iff]

/-! ### The settled statement -/

/-- Settles O39, by the slot's three records after the write and what the write hands on. -/
theorem candidateWriteStores : Obligations.CandidateWriteStores := by
  intro r n s htaken hcheck hunheld hn
  obtain ⟨hnone, hline, hshelf, hsource⟩ := bindingOf_codes r hcheck
  obtain ⟨hrmapCode, hfloorCode, hrankCode, hhopsCode⟩ := gradeOf_codes r hcheck
  have hchange := bindingChanges_iff_source (bindingOf r.body) s.cands[n] (byteAt r.body 2) hsource
  have hslot : Fin.ofNat 24 (byteAt r.body 0) = n := by
    refine Fin.ext ?_
    rw [hn]
    exact Nat.mod_eq_of_lt n.isLt
  generalize hu : writeCandidate n (bindingOf r.body) (gradeOf r.body) (frequencyOf r.body) s = u
  have hexec : exec .writeCandidate s =
      .next (answer r ⟨u, doneStatus (candidateClamped r.body), [byteOf n.val]⟩) := by
    have hguard : guarded bankCandidates (checkWriteCandidate r) r s = none := by
      rw [hcheck]
      exact guarded_unheld hunheld
    refine congrArg Host.Outcome.next ((serveAgent_runs
      (fun r t => guarded bankCandidates (checkWriteCandidate r) r t) _ htaken hguard).trans ?_)
    rw [hslot, hu, hn]
  have hu := hu.symm
  obtain ⟨hkind, hsourceIs, hholdOff, hwtr, hmaint, -⟩ := Cand.write_fields _ _ _ _ (writeCandidate_cand hu)
  obtain ⟨hrmap, hfloor, hrank, hrankOn, hhops, htimeout, heff⟩ := writeCandidate_gradeSettings hu
  have hinput := writeCandidate_input hu
  obtain ⟨-, -, -, hframe⟩ := writeCandidate_spec n _ _ _ s u hu
  refine ⟨u, _, hexec, answer_answered r ⟨u, _, _⟩, hkind, ?_, hholdOff, hwtr, hmaint, ?_, ?_, ?_, hrankOn, ?_,
    htimeout, heff, ?_, ?_, ?_, fun hk hb => writeCandidate_binds hu hk (hnone.not.2 hb),
    fun hk hb => writeCandidate_unbinds hu hk (hnone.2 hb),
    fun hk hb hch => writeCandidate_rebinds hu hk (hnone.not.2 hb) (hchange.2 hch), fun hch => ?_, fun hk hsh => ?_,
    fun hb => ?_, fun hok => ?_, writeCandidate_others hu, hframe⟩
  · rw [hsourceIs, ← hsource]
    by_cases hsh : (bindingOf r.body).kind = .shelf
    · rw [if_pos hsh, if_pos (hshelf.1 hsh)]
    · rw [if_neg hsh, if_neg (hshelf.not.1 hsh)]; rfl
  · rw [hrmap, hrmapCode]
  · rw [hfloor, hfloorCode]
  · rw [hrank, hrankCode]
  · rw [hhops, hhopsCode]
  · rw [hinput]; rfl
  · rw [hinput]; rfl
  · rw [hinput]; rfl
  · obtain ⟨-, hheld, htimer⟩ := writeCandidate_clearsGrade hu (hchange.2 hch)
    simp only [hline] at htimer
    exact ⟨hheld, htimer⟩
  · have hkept : ¬ s.cands[n].BindingChanges (bindingOf r.body) := by
      rw [hchange]
      rintro (hne | ⟨his, hne⟩)
      · exact hne hk
      · exact hne (hsh his)
    obtain ⟨hkindKept, hsourceKept⟩ := Cand.not_bindingChanges hkept
    obtain ⟨hhealth, hpauses, hresumes, hsame⟩ := writeCandidate_holds hu hkindKept hsourceKept
    obtain ⟨hcode, hpath, htimer, hmaps⟩ := writeCandidate_remaps hu hkept
    exact ⟨hhealth, hcode, hpath, htimer, hpauses, hresumes, hsame, hmaps⟩
  · obtain ⟨hreports, hwatched⟩ := writeCandidate_keepsWatching hu ((decide_eq_decide.1 hb).trans hnone.symm)
    refine ⟨hreports, ?_⟩
    rw [hwatched]
    rfl
  · rw [writeCandidate_removals hu hok]
    exact if_congr (and_congr_right' hchange) rfl rfl

end Sys2Proof.Machine
end

section
/-! PROOFS. Frequency monitoring: the ticks of an input, the end of a gate and the loss of ticks (O11, O12, O13). -/

namespace Sys2Proof.Machine

-- One theorem after the other: the joined text would otherwise ask for a thread per waiting proof.
set_option Elab.async false

/-! ### A tick on a watched input (R36 to R38) -/

section Tick

variable {n : Slot} {d : Nat} {s : State}

/-- Time passes by the periods that the event carries (log entry 3). -/
theorem State.advanceTo_add (s : State) (d : Nat) : s.advanceTo (s.osc + d) = { s with osc := s.osc + d } := by
  unfold State.advanceTo
  rw [Nat.max_eq_right (Nat.le_add_right s.osc d)]

/-- A tick on an unwatched input is ignored (R36). -/
theorem takeTick_unwatched (hwatched : s.inputs[n].watched = false) :
    takeTick n d s = { s with osc := s.osc + d } := by
  unfold takeTick
  rw [State.advanceTo_add]
  exact if_neg (Bool.eq_false_iff.1 hwatched)

/-- A tick on a watched input, which is MISSING or whose 1 ms span has not passed, declares no loss first (R37). -/
theorem takeTick_watched (hwatched : s.inputs[n].watched = true)
    (hspan : s.inputs[n].active = true → s.osc + d ≤ s.inputs[n].lastTick + 125000) :
    takeTick n d s =
      commitInput n (s.inputs[n].takeTick (s.osc + d) s.correction) { s with osc := s.osc + d } := by
  have hintime : ¬ (s.inputs[n].active && decide (s.inputs[n].lastTick + Config.lossSpan < s.osc + d)) = true := by
    rw [Bool.and_eq_true, decide_eq_true_eq]
    exact fun ⟨hactive, hlate⟩ => Nat.not_lt.2 (hspan hactive) hlate
  unfold takeTick
  rw [State.advanceTo_add]
  dsimp only
  rw [if_pos hwatched, if_neg hintime]

/-- A tick that moves neither the health nor FREQ_FAIL stores the input's record and does nothing else. -/
theorem takeTick_stores {i : TickInput} (hwatched : s.inputs[n].watched = true)
    (hspan : s.inputs[n].active = true → s.osc + d ≤ s.inputs[n].lastTick + 125000)
    (hi : s.inputs[n].takeTick (s.osc + d) s.correction = i) (hhealth : i.health = s.inputs[n].health)
    (hfail : i.freqFail = s.inputs[n].freqFail) :
    ∃ t, exec (.tick n d) s = .next t ∧ t.osc = s.osc + d ∧ sameBut [.osc, .inputs] s t ∧
      t.inputs = s.inputs.set n i := by
  have hrun : takeTick n d s = ({ s with osc := s.osc + d } : State).setInput n i := by
    rw [takeTick_watched hwatched hspan, hi]
    exact commitInput_quiet n i _ hhealth hfail
  refine ⟨_, congrArg Host.Outcome.next hrun, rfl, ?_, rfl⟩
  rw [← State.advanceTo_add]
  exact (advanceTo_sameBut s _).andThen (setInput_sameBut _ n i)

end Tick

/-- Settles O11, by what a tick does to the one record. -/
theorem ticksCounted : Obligations.TicksCounted := by
  intro n d s hok
  obtain ⟨-, -, -, -, -, hmissing, -, -, -⟩ := hok
  refine ⟨fun hwatched => congrArg Host.Outcome.next (takeTick_unwatched hwatched), fun hwatched hactive => ?_,
    fun hwatched hactive hspan => ⟨fun hgate => ?_, fun g hgate hticks => ?_⟩⟩
  · obtain ⟨-, -, hoffset, hqualified, -⟩ := hmissing hactive
    refine takeTick_stores hwatched (fun h => absurd (hactive.symm.trans h) Bool.false_ne_true) ?_ ?_ ?_
    · unfold TickInput.takeTick
      rw [hactive]
      rfl
    · simp only [TickInput.health, hactive, hqualified, Bool.and_false]
    · simp only [TickInput.freqFail, hoffset, Option.isSome_none, Bool.and_false, Bool.false_and]
  · refine takeTick_stores hwatched (fun _ => hspan) ?_ rfl rfl
    unfold TickInput.takeTick TickInput.countTick
    rw [if_pos hactive, hgate]
  · refine takeTick_stores hwatched (fun _ => hspan) ?_ rfl rfl
    unfold TickInput.takeTick TickInput.countTick
    rw [if_pos hactive, hgate]
    exact if_pos (Nat.succ_lt_succ hticks)

/-! ### The window and its offset (R40 to R43) -/

/-- A new count joins at the newest end, and the oldest count of a full window leaves (R40). -/
theorem joinWindow_eq {w : Nat} {counts : List Nat} (count : Nat) (hw : 1 ≤ w) (hlen : counts.length ≤ w) :
    joinWindow w counts count = (if counts.length = w then counts.tail else counts) ++ [count] := by
  unfold joinWindow
  split <;> rename_i hfull
  · subst hfull
    rw [Nat.add_sub_cancel_left, List.drop_append_of_le_length hw, List.drop_one]
  · rw [Nat.sub_eq_zero_of_le (by omega), List.drop_zero]

/-- The offset of a window whose counts are all in range (R41, R42). -/
theorem windowOffset_inRange (k : Int) (w : Nat) (counts : List Nat)
    (h : ∀ c ∈ counts, 124993750 ≤ c ∧ c ≤ 125006250) :
    windowOffset k w counts =
      (max (-50000) (min 50000 (roundDiv (((w : Int) * 125000000 - (counts.sum : Nat)) * 8) w - k)), false) := by
  have hnone : lastOutOfRange counts = none := by
    refine List.find?_eq_none.2 fun c hc => ?_
    rw [(inRange_iff c).2 (h c (List.mem_reverse.1 hc))]
    exact Bool.false_ne_true
  have hnominal : ((w * Config.nominalGate : Nat) : Int) = (w : Int) * 125000000 := Int.natCast_mul w _
  unfold windowOffset
  rw [hnone]
  dsimp only
  unfold clampOffset rawOffset
  rw [hnominal]
  rfl

/-- The offset of a window whose most recent count out of range is c: saturated by the side on which c lies (R43). -/
theorem windowOffset_outOfRange (k : Int) (w : Nat) (a b : List Nat) (c : Nat) (hc : c < 124993750 ∨ 125006250 < c)
    (hb : ∀ x ∈ b, 124993750 ≤ x ∧ x ≤ 125006250) :
    windowOffset k w (a ++ c :: b) = (if c < 124993750 then 50000 else -50000, true) := by
  have hlast : lastOutOfRange (a ++ c :: b) = some c :=
    reverse_find?_append (fun x => !inRange x) a c b (by rw [(not_inRange_iff c).2 hc]; rfl)
      fun x hx => by rw [(inRange_iff x).2 (hb x hx)]; rfl
  unfold windowOffset
  rw [hlast]
  rfl

/-! ### The end of a gate (R39, R44) -/

section Gate

variable (k : Int) (count : Nat) (i : TickInput)

theorem TickInput.completeGate_window :
    (i.completeGate k count).window = joinWindow i.windowLen i.window count := by
  unfold TickInput.completeGate
  dsimp only
  split <;> rfl

theorem TickInput.completeGate_lastGate : (i.completeGate k count).lastGate = some count := by
  unfold TickInput.completeGate
  dsimp only
  split <;> rfl

/-- A window that is not full yet judges nothing (R41). -/
theorem TickInput.completeGate_short (h : (joinWindow i.windowLen i.window count).length < i.windowLen) :
    i.completeGate k count =
      { i with window := joinWindow i.windowLen i.window count, lastGate := some count } := by
  unfold TickInput.completeGate
  exact if_neg (Nat.ne_of_lt h)

/-- A full window gives an offset, which is judged (R41 to R44). -/
theorem TickInput.completeGate_full (h : (joinWindow i.windowLen i.window count).length = i.windowLen) :
    i.completeGate k count =
      { i with
        window := joinWindow i.windowLen i.window count
        lastGate := some count
        offset := some (windowOffset k i.windowLen (joinWindow i.windowLen i.window count)).1
        beyond := (windowOffset k i.windowLen (joinWindow i.windowLen i.window count)).2
        qualified := judge i.qualified i.acceptPpb i.rejectPpb
          (windowOffset k i.windowLen (joinWindow i.windowLen i.window count)).1 } := by
  unfold TickInput.completeGate
  exact if_pos h

/-- The last tick of a gate completes it and opens the next (R39). -/
theorem TickInput.takeTick_gateEnd {g : Gate} (now : Nat) (hactive : i.active = true) (hgate : i.gate = some g)
    (hticks : g.ticks = 7999) :
    i.takeTick now k =
      { i.completeGate k (now - g.openedAt) with lastTick := now, gate := some { ticks := 0, openedAt := now } } := by
  unfold TickInput.takeTick TickInput.countTick
  rw [if_pos hactive, hgate]
  exact if_neg (by rw [hticks]; decide)

end Gate

/-- The health of an ACTIVE input is its qualification (R45). -/
theorem TickInput.health_of_active {i : TickInput} (h : i.active = true) : i.health = i.qualified := by
  unfold TickInput.health
  rw [h, Bool.true_and]

/-- Settles O12, by the completion of the gate in the input's record and its commit. -/
theorem gateCompletes : Obligations.GateCompletes := by
  intro n d s g hwatched hactive hspan hgate hticks hw hlen
  have hrun := takeTick_watched hwatched fun _ => hspan
  rw [TickInput.takeTick_gateEnd _ _ _ hactive hgate hticks] at hrun
  generalize hnew : ({ s.inputs[n].completeGate s.correction (s.osc + d - g.openedAt) with
    lastTick := s.osc + d, gate := some { ticks := 0, openedAt := s.osc + d } } : TickInput) = new at hrun
  obtain ⟨t, ht⟩ : ∃ t, t = takeTick n d s := ⟨_, rfl⟩
  rw [← ht] at hrun
  have hinputs : t.inputs = s.inputs.set n new := by rw [hrun, commitInput_inputs]
  have hat : t.inputs[n] = new := by rw [hinputs, getElem_set_fin, if_pos rfl]
  have hwindow : new.window = joinWindow s.inputs[n].windowLen s.inputs[n].window (s.osc + d - g.openedAt) := by
    rw [← hnew]
    exact TickInput.completeGate_window _ _ _
  have hactiveNew : new.active = true := by
    obtain ⟨-, -, -, -, hkept, -⟩ :=
      TickInput.completeGate_spec s.correction (s.osc + d - g.openedAt) s.inputs[n]
    rw [← hnew]
    exact hkept.trans hactive
  refine ⟨t, congrArg Host.Outcome.next ht.symm, ?_, ?_, ?_, ?_, ?_, ?_, ?_, ?_⟩
  · rw [hat, ← hnew]
    exact TickInput.completeGate_lastGate _ _ _
  · rw [hat, ← hnew]
  · rw [hat, hwindow]
    exact joinWindow_eq _ hw hlen
  · intro hshort
    rw [hat, hwindow] at hshort
    rw [hat, ← hnew, TickInput.completeGate_short _ _ _ hshort]
    exact ⟨rfl, rfl⟩
  · intro hfull
    rw [hat, hwindow] at hfull
    have hjudged := TickInput.completeGate_full s.correction _ _ hfull
    rw [← hwindow] at hjudged
    have hoffset : new.offset = some (windowOffset s.correction s.inputs[n].windowLen new.window).1 := by
      conv_lhs => rw [← hnew, hjudged]
    have hbeyond : new.beyond = (windowOffset s.correction s.inputs[n].windowLen new.window).2 := by
      conv_lhs => rw [← hnew, hjudged]
    have hqualified : new.qualified = judge s.inputs[n].qualified s.inputs[n].acceptPpb s.inputs[n].rejectPpb
        (windowOffset s.correction s.inputs[n].windowLen new.window).1 := by
      conv_lhs => rw [← hnew, hjudged]
    rw [hat, hbeyond, hoffset, hqualified]
    refine ⟨fun hall => ?_, fun a c b hsplit hout hlater => ?_, fun o ho => ?_⟩
    · rw [windowOffset_inRange _ _ _ hall]
      exact ⟨rfl, rfl⟩
    · rw [hsplit, windowOffset_outOfRange _ _ a b c hout hlater]
      exact ⟨rfl, rfl⟩
    · rw [Option.some.inj ho]
      rfl
  · rw [hat, hrun, commitInput_health, TickInput.health_of_active hactiveNew]
    exact if_congr (by rw [← TickInput.health_of_active hactive]) rfl rfl
  · intro m hm
    rw [hinputs, getElem_set_fin, if_neg (Ne.symm hm)]
  · rw [ht]
    exact takeTick_sameBut n d s

/-! ### Tick loss (R37, R45, R46) -/

/-- FREQ_FAIL is a condition of ACTIVE inputs (R46). -/
theorem TickInput.enterMissing_freqFail (i : TickInput) : i.enterMissing.freqFail = false := by
  simp only [TickInput.freqFail, TickInput.enterMissing, Bool.and_false, Bool.false_and]

/-- A FREQ_FAIL that moves at an input's event is in the Event Unit's copy after it (R46, R153). -/
theorem commitInput_freqFail_copy {n : Slot} {i : TickInput} {s : State} (h : s.inputs[n].freqFail ≠ i.freqFail) :
    (commitInput n i s).events.copies[condFreqFail n] = i.freqFail := by
  unfold commitInput
  dsimp only
  rw [raiseCondition_copies, if_neg h, getElem_set_fin, if_pos rfl]

/-- Settles O13, by the commit of a MISSING record. -/
theorem tickLossEntersMissing : Obligations.TickLossEntersMissing := by
  intro n s hwatched hactive
  have hrun : loseTicks n s =
      commitInput n s.inputs[n].enterMissing (s.advanceTo (s.inputs[n].lastTick + Config.lossSpan)) := by
    unfold loseTicks
    rw [hwatched, hactive]
    rfl
  refine ⟨_, congrArg Host.Outcome.next hrun, ?_, commitInput_inputs _ _ _, ?_, fun hfail => ?_,
    hrun ▸ loseTicks_sameBut n s⟩
  · rw [commitInput_sameBut _ _ _ .osc (by decide)]
    exact Nat.le_max_right _ _
  · rw [commitInput_health]
    show (if false = s.inputs[n].health then _ else _) = _
    rw [TickInput.health_of_active hactive]
    cases s.inputs[n].qualified <;> rfl
  · have hmoves : s.inputs[n].freqFail ≠ s.inputs[n].enterMissing.freqFail := by
      rw [hfail, TickInput.enterMissing_freqFail]
      exact nofun
    exact (commitInput_freqFail_copy (s := s.advanceTo _) hmoves).trans (TickInput.enterMissing_freqFail _)

end Sys2Proof.Machine
end

section
/-! PROOFS. WRITE_NODE (R177): what the write leaves of the node settings, of the base tag's readers and of the Event
Unit (O44). -/

namespace Sys2Proof.Machine

-- One theorem after the other: the joined text would otherwise ask for a thread per waiting proof.
set_option Elab.async false

/-! ### The Event Unit as a whole -/

/-- The parts that make up the Event Unit. -/
def eventParts : List Part := [.latches, .conditions, .eventSettings, .noticeState]

/-- A frame that names no part of the Event Unit leaves it as it is. -/
theorem sameBut.events_eq {ps : List Part} {s t : State} (h : sameBut ps s t)
    (hd : ∀ p ∈ eventParts, p ∉ ps := by decide) : t.events = s.events := by
  have hlatches : t.events.latches = s.events.latches := h .latches (hd _ (by decide))
  have hcopies : t.events.copies = s.events.copies := h .conditions (hd _ (by decide))
  obtain ⟨henables, hlevels, hdestination, hspacing, hsummary⟩ := h .eventSettings (hd _ (by decide))
  obtain ⟨hnews, hresume, hspacingTimer, hsummaryTimer⟩ := h .noticeState (hd _ (by decide))
  cases ht : t.events
  cases hs : s.events
  simp_all

/-- The kinds in use tell which latches are enabled (R155). -/
theorem EventUnit.enabled_congr {e x : EventUnit} (h : e.enables = x.enables) : e.enabled = x.enabled := by
  funext l
  unfold EventUnit.enabled
  rw [h]

/-- The modes tell which latches are level latches (R157). -/
theorem EventUnit.isLevel_congr {e x : EventUnit} (h : e.levels = x.levels) : e.isLevel = x.isLevel := by
  funext l
  unfold EventUnit.isLevel
  rw [h]

/-! ### The stages of the write -/

section Write

variable (w : NodeWrite) (s : State)

/-- The state with K and E stored (R49, R84). -/
abbrev scalarsStored : State :=
  { s with correction := w.correction, engine := { s.engine with budget := w.budget } }

/-- The base tag stored too, with the work of the engine and the slices on it (R105, R135). -/
abbrev tagStored : State := writeBaseTag w.baseTag (scalarsStored w s)

/-- The Event Unit's part stored too, with the sending decision yet to be taken (R155, R160). -/
abbrev nodeUndecided : State := { tagStored w s with events := s.events.write s.osc w }

theorem scalarsStored_sameBut : sameBut [.correction, .budget] s (scalarsStored w s) := by
  intro p hp; cases p <;> simp_all [Part.same]

theorem tagStored_sameBut :
    sameBut [.baseTag, .queue, .slices, .tripleHandovers, .noticeHandovers] (scalarsStored w s) (tagStored w s) := by
  obtain ⟨-, -, -, hframe⟩ := writeBaseTag_spec w.baseTag (scalarsStored w s)
  exact hframe

theorem nodeUndecided_sameBut :
    sameBut [.latches, .eventSettings, .noticeState] (tagStored w s) (nodeUndecided w s) := by
  have hevents : (tagStored w s).events = s.events := (tagStored_sameBut w s).events_eq
  obtain ⟨-, -, -, -, -, hcopies, -⟩ := EventUnit.write_fields s.osc w s.events
  intro p hp; cases p <;> simp_all [Part.same]

/-- The write ends in the one sending decision (R160). -/
theorem writeNode_eq : writeNode w s = sendDecision (nodeUndecided w s) := by
  have hevents : (tagStored w s).events = s.events := (tagStored_sameBut w s).events_eq
  have hosc : (tagStored w s).osc = s.osc := tagStored_sameBut w s .osc (by decide)
  show sendDecision { tagStored w s with events := (tagStored w s).events.write (tagStored w s).osc w } = _
  rw [hevents, hosc]

/-- The sending decision moves the notice state and the CONTROL port only. -/
theorem nodeUndecided_decided : sameBut [.noticeState, .control] (nodeUndecided w s) (writeNode w s) := by
  rw [writeNode_eq]
  exact sendDecision_sameBut _

/-- After the base tag nothing moves but the Event Unit and the CONTROL port. -/
theorem tagStored_decided :
    sameBut [.latches, .eventSettings, .noticeState, .control] (tagStored w s) (writeNode w s) :=
  (nodeUndecided_sameBut w s).andThen (nodeUndecided_decided w s)

/-! ### The settings (R49, R84, R135, R155, R160) -/

theorem writeNode_scalars :
    (writeNode w s).baseTag = w.baseTag ∧ (writeNode w s).correction = w.correction ∧
      (writeNode w s).engine.budget = w.budget := by
  have hframe := tagStored_decided w s
  have htag := tagStored_sameBut w s
  obtain ⟨hbase, -⟩ := writeBaseTag_spec w.baseTag (scalarsStored w s)
  exact ⟨(hframe .baseTag (by decide)).trans hbase,
    (hframe .correction (by decide)).trans (htag .correction (by decide)),
    (hframe .budget (by decide)).trans (htag .budget (by decide))⟩

theorem writeNode_eventSettings :
    (writeNode w s).events.enables = w.enables ∧ (writeNode w s).events.levels = w.levels ∧
      (writeNode w s).events.destination = w.destination ∧ (writeNode w s).events.spacingMs = w.spacingMs ∧
      (writeNode w s).events.summaryS = w.summaryS := by
  obtain ⟨henables, hlevels, hdestination, hspacing, hsummary⟩ := nodeUndecided_decided w s .eventSettings (by decide)
  obtain ⟨wenables, wlevels, wdestination, wspacing, wsummary, -⟩ := EventUnit.write_fields s.osc w s.events
  exact ⟨henables.trans wenables, hlevels.trans wlevels, hdestination.trans wdestination, hspacing.trans wspacing,
    hsummary.trans wsummary⟩

/-! ### The base tag (R105, R135) -/

/-- A new base tag queues every shelf, and every slice holds the triple of the state that the write leaves. -/
theorem writeNode_newTag (h : w.baseTag ≠ s.baseTag) (k : ShelfId) :
    k ∈ (writeNode w s).engine.queue.map EvalEntry.shelf ∧
      (writeNode w s).slices[k] = { s.slices[k] with triple := sliceTriple (writeNode w s) k } := by
  obtain ⟨-, hnew, -, -⟩ := writeBaseTag_spec w.baseTag (scalarsStored w s)
  obtain ⟨hqueued, hslice⟩ := hnew h k
  have hframe := tagStored_decided w s
  have hslices : (writeNode w s).slices = (tagStored w s).slices := hframe .slices (by decide)
  have hqueue : (writeNode w s).engine.queue = (tagStored w s).engine.queue := hframe .queue (by decide)
  have htriple : sliceTriple (writeNode w s) k = sliceTriple (tagStored w s) k :=
    sliceTriple_congr k (hframe .baseTag (by decide)) (hframe .grades (by decide)) (by rw [hslices])
  rw [htriple, hslices, hqueue]
  exact ⟨hqueued, hslice⟩

/-- A base tag written as it stands moves neither the evaluation queue nor the slices. -/
theorem writeNode_sameTag (h : w.baseTag = s.baseTag) :
    sameBut [.correction, .budget, .latches, .eventSettings, .noticeState, .control] s (writeNode w s) := by
  obtain ⟨-, -, hkept, -⟩ := writeBaseTag_spec w.baseTag (scalarsStored w s)
  have hstored : tagStored w s = scalarsStored w s := hkept h
  have hframe := tagStored_decided w s
  rw [hstored] at hframe
  exact (scalarsStored_sameBut w s).andThen hframe

/-! ### The latches and the notices (R155, R159, R160) -/

/-- The sending decision leaves the latches, the enables and the modes of the write. -/
theorem writeNode_eventUnit :
    (writeNode w s).events.latches = (s.events.write s.osc w).latches ∧
      (writeNode w s).events.enabled = (s.events.write s.osc w).enabled ∧
      (writeNode w s).events.isLevel = (s.events.write s.osc w).isLevel := by
  have hframe := nodeUndecided_decided w s
  obtain ⟨henables, hlevels, -⟩ := hframe .eventSettings (by decide)
  exact ⟨hframe .latches (by decide), EventUnit.enabled_congr henables, EventUnit.isLevel_congr hlevels⟩

/-- A latch of a kind that is not enabled is CLEAR. -/
theorem writeNode_disabled (l : LatchId) (h : (writeNode w s).events.enabled l = false) :
    (writeNode w s).events.latches[l] = .clear := by
  obtain ⟨-, -, -, -, -, -, hclear⟩ := EventUnit.write_fields s.osc w s.events
  obtain ⟨hlatches, henabled, -⟩ := writeNode_eventUnit w s
  rw [henabled] at h
  rw [hlatches]
  exact hclear l h

/-- A latch of an enabled kind stays where its kind was enabled in the same mode, and else starts over. -/
theorem writeNode_enabled (l : LatchId) (h : (writeNode w s).events.enabled l = true) :
    (writeNode w s).events.latches[l] =
      if s.events.enabled l = true ∧ s.events.isLevel l = (writeNode w s).events.isLevel l then s.events.latches[l]
      else if (writeNode w s).events.isLevel l = true ∧ s.events.present l = true then .set
      else .clear := by
  obtain ⟨hstarts, -⟩ := EventUnit.write_moves s.osc w s.events _ rfl
  obtain ⟨hlatches, henabled, hlevel⟩ := writeNode_eventUnit w s
  rw [henabled] at h
  rw [hlatches, hlevel]
  exact hstarts l h

/-- What the sending decision of the write finds: the timers, the resume point and the news (R159, R160). -/
theorem writeNode_notices :
    ∃ v : State, sendingDecided v (writeNode w s) ∧ sameBut [.noticeState, .control] v (writeNode w s) ∧
      v.lane.control = s.lane.control ∧ v.events.spacingTimer = s.events.spacingTimer ∧
      v.events.summaryTimer =
        (if (writeNode w s).events.summaryS = s.events.summaryS then s.events.summaryTimer
          else if (writeNode w s).events.summaryS = 0 then none
          else some (s.osc + (writeNode w s).events.summaryS * 125000000)) ∧
      v.events.resume =
        (if (writeNode w s).events.destination = s.events.destination then s.events.resume else none) ∧
      (v.events.news = true ↔
        s.events.news = true ∨
          (∃ l : LatchId, (writeNode w s).events.enabled l = true ∧ (writeNode w s).events.isLevel l = true ∧
            s.events.present l = true ∧ (s.events.enabled l = false ∨ s.events.isLevel l = false)) ∨
          (writeNode w s).events.destination ≠ s.events.destination ∧
            ∃ l : LatchId, (writeNode w s).events.latches[l] ≠ .clear) := by
  have hframe := nodeUndecided_decided w s
  obtain ⟨-, -, hdestination, -, hsummary⟩ := hframe .eventSettings (by decide)
  obtain ⟨hlatches, henabled, hlevel⟩ := writeNode_eventUnit w s
  obtain ⟨-, hmoves⟩ := EventUnit.write_moves s.osc w s.events _ rfl
  have hcontrol : (tagStored w s).lane.control = s.lane.control := tagStored_sameBut w s .control (by decide)
  refine ⟨nodeUndecided w s, ?_, hframe, hcontrol, ?_⟩
  · rw [writeNode_eq]
    exact sendDecision_decided _
  · rw [hsummary, hdestination, henabled, hlevel, hlatches]
    exact hmoves

end Write

/-- Settles O44, by the stages of the write. -/
theorem nodeWriteStores : Obligations.NodeWriteStores := by
  intro r s htaken hlength hunheld
  have hcheck : checkWriteNode r = none := by
    unfold checkWriteNode checkBody
    rw [hlength]
    rfl
  have hguard : guarded bankNode (checkWriteNode r) r s = none := by
    rw [hcheck]
    exact guarded_unheld hunheld
  have hexec : exec .writeNode s =
      .next (answer r ⟨writeNode (nodeOf r.body) s, doneStatus (nodeClamped r.body), []⟩) :=
    congrArg Host.Outcome.next (serveAgent_runs (fun r t => guarded bankNode (checkWriteNode r) r t) _ htaken hguard)
  obtain ⟨hbase, hcorrection, hbudget⟩ := writeNode_scalars (nodeOf r.body) s
  obtain ⟨henables, hlevels, hdestination, hspacing, hsummary⟩ := writeNode_eventSettings (nodeOf r.body) s
  refine ⟨writeNode (nodeOf r.body) s, _, hexec, answer_answered r ⟨_, _, _⟩, hbase, hcorrection, hbudget,
    hdestination, henables, hlevels, hspacing, hsummary, fun hnew k => ?_, fun hsame => ?_,
    writeNode_disabled _ s, writeNode_enabled _ s, writeNode_notices _ s, writeNode_sameBut _ s⟩
  · exact writeNode_newTag _ s (hbase ▸ hnew) k
  · exact writeNode_sameTag _ s (hbase ▸ hsame)

end Sys2Proof.Machine
end

section
/-! PROOFS. Shelf lists, targets and lock-failed sets (R78, R80, R99), and the port bindings (R53, R54): no event but a
list write or a power-on moves a list, and what a shelf names it goes on listing. -/

namespace Sys2Proof.Machine

-- One theorem after the other: the joined text would otherwise ask for a thread per waiting proof.
set_option Elab.async false

/-! ### One shelf: what its list holds, and what its target record and its lock-failed set name -/

/-- No slot stands in two entries with nonzero priority (R78). -/
def Shelf.NoDuplicates (h : Shelf) : Prop :=
  ∀ e f : EntryId, h.entries[e].priority ≠ 0 → h.entries[f].priority ≠ 0 → h.entries[e].slot = h.entries[f].slot → e = f

/-- The shelf names the slot as its target (R80) or as lock-failed (R99). -/
def Shelf.names (h : Shelf) (c : Slot) : Prop := h.target.map Target.slot = some c ∨ h.failed[c] = true

/-- What the shelf names, its list holds with nonzero priority (R78, R99). -/
def Shelf.NamesListed (h : Shelf) : Prop := ∀ c, h.names c → h.lists c = true

theorem listsHaveNoDuplicates_iff (s : State) :
    ListsHaveNoDuplicates s ↔ ∀ k : ShelfId, s.shelves[k].NoDuplicates := Iff.rfl

theorem targetsListed_iff (s : State) : TargetsListed s ↔ ∀ k : ShelfId, s.shelves[k].NamesListed :=
  forall_congr' fun _ => ⟨fun ⟨htarget, hfailed⟩ c hc => hc.elim (htarget c) (hfailed c),
    fun h => ⟨fun c hc => h c (.inl hc), fun n hn => h n (.inr hn)⟩⟩

/-- The list holds a slot when one of its entries does, with nonzero priority. -/
theorem Shelf.lists_iff (h : Shelf) (c : Slot) :
    h.lists c = true ↔ ∃ e : EntryId, h.entries[e].priority ≠ 0 ∧ h.entries[e].slot = c := by
  simp only [Shelf.lists, List.any_eq_true, List.mem_finRange, true_and, Bool.and_eq_true, decide_eq_true_eq]

/-! ### Shelves whose list does not move -/

/-- From `old` to `new` every entry keeps its slot and its priority, and nothing is named that was neither named nor
listed. -/
structure Shelf.Follows (old new : Shelf) : Prop where
  entries : ∀ e : EntryId, new.entries[e].slot = old.entries[e].slot ∧ new.entries[e].priority = old.entries[e].priority
  named : ∀ c, new.names c → old.names c ∨ old.lists c = true

theorem Shelf.Follows.lists {old new : Shelf} (h : old.Follows new) (c : Slot) : new.lists c = old.lists c := by
  unfold Shelf.lists
  simp only [h.entries]

theorem Shelf.Follows.refl (h : Shelf) : h.Follows h := ⟨fun _ => ⟨rfl, rfl⟩, fun _ => .inl⟩

theorem Shelf.Follows.trans {a b c : Shelf} (h : a.Follows b) (g : b.Follows c) : a.Follows c := by
  refine ⟨fun e => ⟨(g.entries e).1.trans (h.entries e).1, (g.entries e).2.trans (h.entries e).2⟩, fun n hn => ?_⟩
  rcases g.named n hn with hb | hb
  · exact h.named n hb
  · exact .inr (h.lists n ▸ hb)

/-- A shelf that keeps its entries as they are. -/
theorem Shelf.Follows.of_entries {old new : Shelf} (h : new.entries = old.entries)
    (hn : ∀ c, new.names c → old.names c ∨ old.lists c = true) : old.Follows new :=
  ⟨fun e => by rw [h]; exact ⟨rfl, rfl⟩, hn⟩

/-- A shelf that keeps its entries and names no more than before. -/
theorem Shelf.Follows.of_fewer {old new : Shelf} (h : new.entries = old.entries) (ht : new.target = old.target ∨ new.target = none)
    (hf : ∀ c : Slot, new.failed[c] = true → old.failed[c] = true) : old.Follows new := by
  refine .of_entries h fun c hc => .inl (hc.imp (fun hc => ?_) (hf c))
  rcases ht with ht | ht
  · exact ht ▸ hc
  · rw [ht] at hc; cases hc

theorem Shelf.Follows.noDuplicates {old new : Shelf} (h : old.Follows new) (ho : old.NoDuplicates) :
    new.NoDuplicates := by
  intro e f he hf hs
  rw [(h.entries e).2] at he
  rw [(h.entries f).2] at hf
  rw [(h.entries e).1, (h.entries f).1] at hs
  exact ho e f he hf hs

theorem Shelf.Follows.namesListed {old new : Shelf} (h : old.Follows new) (ho : old.NamesListed) :
    new.NamesListed := fun c hc => by
  rw [h.lists c]
  exact (h.named c hc).elim (ho c) id

theorem emptied_failed (n : Slot) : (Vector.replicate 24 false : Vector Bool 24)[n] = false := Vector.getElem_replicate ..

/-! ### Events that move no list -/

/-- From s to t no list moves, and no shelf names a slot that it neither named nor listed. -/
def KeepsLists (s t : State) : Prop := ∀ k : ShelfId, s.shelves[k].Follows t.shelves[k]

namespace KeepsLists

theorem refl (s : State) : KeepsLists s s := fun _ => .refl _

theorem trans {s t u : State} (h : KeepsLists s t) (g : KeepsLists t u) : KeepsLists s u := fun k => (h k).trans (g k)

theorem of_shelves {s t : State} (h : t.shelves = s.shelves) : KeepsLists s t := fun k => by rw [h]; exact .refl _

theorem of_sameBut {ps : List Part} {s t : State} (h : sameBut ps s t) (hd : Part.shelves ∉ ps := by decide) :
    KeepsLists s t := of_shelves (h .shelves hd)

/-- One record stored. -/
theorem set {s t : State} (k : ShelfId) (x : Shelf) (ht : t.shelves = s.shelves.set k x)
    (hx : s.shelves[k].Follows x) : KeepsLists s t := by
  intro j
  rw [ht, getElem_set_fin]
  split <;> rename_i hj
  · exact hj ▸ hx
  · exact .refl _

theorem overMask (m : BitVec 16) (f : ShelfId → State → State) (h : ∀ k t, KeepsLists t (f k t)) (s : State) :
    KeepsLists s (overMask m f s) := by
  refine foldl_keeps _ (KeepsLists s) (fun k t ht => ?_) _ s (refl s)
  split
  · exact ht.trans (h k t)
  · exact ht

end KeepsLists

/-! ### The target that an evaluation computes is listed (R87, R91, R94 to R96) -/

theorem eligible_listed {s : State} {k : ShelfId} {e : EntryId} (h : eligible s k e = true) :
    s.shelves[k].lists s.shelves[k].entries[e].slot = true := by
  unfold eligible at h
  simp only [Bool.and_eq_true, decide_eq_true_eq] at h
  obtain ⟨⟨⟨⟨⟨⟨hpriority, -⟩, -⟩, -⟩, -⟩, -⟩, -⟩ := h
  exact (Shelf.lists_iff _ _).2 ⟨e, hpriority, rfl⟩

theorem forceAdmits_listed {s : State} {k : ShelfId} {e : EntryId} (h : forceAdmits s k e = true) :
    s.shelves[k].lists s.shelves[k].entries[e].slot = true := by
  unfold forceAdmits at h
  simp only [Bool.and_eq_true, decide_eq_true_eq] at h
  obtain ⟨⟨⟨hpriority, -⟩, -⟩, -⟩ := h
  exact (Shelf.lists_iff _ _).2 ⟨e, hpriority, rfl⟩

theorem bestSlot_listed {s : State} {k : ShelfId} {c : Slot} (h : bestSlot s k = some c) :
    s.shelves[k].lists c = true := by
  rcases bestSlot_spec s k with ⟨hnone, -⟩ | ⟨e, hbest, helig, -⟩
  · rw [hnone] at h; cases h
  · rw [hbest] at h
    exact Option.some.inj h ▸ eligible_listed helig

/-- The automatic target is the best slot, or the present target in an eligible entry (R91). -/
theorem autoTarget_listed {s : State} {k : ShelfId} {c : Slot} (h : autoTarget s k = some c) :
    s.shelves[k].lists c = true := by
  unfold autoTarget at h
  split at h
  · exact bestSlot_listed h
  · split at h
    · split at h <;> rename_i hkeep
      · obtain ⟨e, helig, hslot⟩ := (targetEligible_iff s k _).1 (Bool.and_eq_true_iff.1 hkeep).1
        exact Option.some.inj h ▸ hslot ▸ eligible_listed helig
      · exact bestSlot_listed h
    · exact bestSlot_listed h

theorem computeTarget_listed {s : State} {k : ShelfId} {c : Slot} (h : computeTarget s k = some c) :
    s.shelves[k].lists c = true := by
  unfold computeTarget at h
  split at h
  · exact autoTarget_listed h
  · cases h
  · split at h <;> rename_i hadmits
    · exact Option.some.inj h ▸ forceAdmits_listed hadmits
    · cases h
  · split at h <;> rename_i hadmits
    · exact Option.some.inj h ▸ eligible_listed (Bool.and_eq_true_iff.1 hadmits).1
    · exact autoTarget_listed h

/-! ### The operations of the engine -/

namespace KeepsLists

/-- A mark joins the target to the lock-failed set, and nothing else (R86). -/
theorem applyMark_named (k : ShelfId) (m : Option Slot) (s : State) (c : Slot)
    (h : (applyMark k m s).shelves[k].failed[c] = true) : s.shelves[k].names c := by
  cases m with
  | none => exact .inr h
  | some d =>
    by_cases hmark : targetSlot s k = some d ∧ s.slices[k].timing ≠ .settling ∧ s.slices[k].timing ≠ .locked
    · have hmarked : Machine.applyMark k (some d) s =
          s.setShelf k { s.shelves[k] with failed := s.shelves[k].failed.set d true } := if_pos hmark
      rw [hmarked, State.setShelf_shelves_at, if_pos rfl, getElem_set_fin] at h
      by_cases hd : d = c
      · exact .inl (hd ▸ hmark.1)
      · exact .inr ((if_neg hd).symm.trans h)
    · have hsame : Machine.applyMark k (some d) s = s := if_neg hmark
      exact .inr (hsame ▸ h)

theorem applyMark (k : ShelfId) (m : Option Slot) (s : State) : KeepsLists s (applyMark k m s) := by
  intro j
  rw [applyMark_at]
  split <;> rename_i hj
  · subst hj
    exact .of_entries rfl fun c hc => .inl (hc.elim .inl (applyMark_named k m s c))
  · exact .refl _

theorem dropManual (k : ShelfId) (s : State) : KeepsLists s (dropManual k s) :=
  set k _ (dropManual_shelves k s) (.of_fewer rfl (.inl rfl) fun _ => id)

theorem applyTarget (k : ShelfId) (t : Option Slot) (s : State) (h : ∀ c, t = some c → s.shelves[k].lists c = true) :
    KeepsLists s (applyTarget k t s) := by
  refine set k _ (applyTarget_shelves k t s) (.of_entries rfl fun c hc => hc.elim (fun hc => .inr (h c ?_))
    fun hf => .inl (.inr hf))
  rw [← hc]
  exact (freezeTarget_slot t s).symm

theorem evaluate (k : ShelfId) (m : Option Slot) (s : State) : KeepsLists s (evaluate k m s) := by
  by_cases hp : s.slices[k].timing = .parked
  · have hsame : Machine.evaluate k m s = s := if_pos hp
    rw [hsame]; exact refl s
  · rw [evaluate_unparked k m s hp]
    generalize hu : Machine.applyMark k m s = u
    have hdropped : KeepsLists u (if dropsManual u k then Machine.dropManual k u else u) := by
      split
      · exact dropManual k u
      · exact refl u
    refine ((hu ▸ applyMark k m s).trans hdropped).trans (applyTarget k _ _ fun c hc => ?_)
    rw [(hdropped k).lists c]
    exact computeTarget_listed hc

theorem serveEvaluation (s : State) : KeepsLists s (serveEvaluation s) := by
  unfold Machine.serveEvaluation
  split
  · exact refl s
  · split
    · exact refl s
    · rename_i e rest _ _
      have htaken : KeepsLists s
          (s.setEngine { s.engine with queue := rest, count := min Config.countStop (s.engine.count + 1) }) := of_shelves rfl
      exact htaken.trans (evaluate e.shelf e.mark _)

/-- A slot leaves the lock-failed set of one shelf. -/
theorem removeFailed (n : Slot) (k : ShelfId) (s : State) :
    KeepsLists s (s.setShelf k { s.shelves[k] with failed := s.shelves[k].failed.set n false }) := by
  refine set k { s.shelves[k] with failed := s.shelves[k].failed.set n false } rfl
    (.of_fewer rfl (.inl rfl) fun c hc => ?_)
  rw [getElem_set_fin] at hc
  split at hc
  · cases hc
  · exact hc

theorem takeRemoval (n : Slot) (s : State) : KeepsLists s (takeRemoval n s) := by
  unfold Machine.takeRemoval
  split
  · exact refl s
  · rename_i rest _
    have htaken : KeepsLists s (s.setFlight { s.flight with removals := rest }) := of_shelves rfl
    exact foldl_keeps _ (KeepsLists s) (fun k t ht => ht.trans (removeFailed n k t)) _ _ htaken

theorem setCommand (k : ShelfId) (c : Command) (s : State) : KeepsLists s (setCommand k c s) :=
  set k _ (setCommand_spec k c s).1 (.of_fewer rfl (.inl rfl) fun _ => id)

/-- A lockout moves no slot and no priority (R98). -/
theorem setLockout (k : ShelfId) (e : EntryId) (on : Bool) (s : State) : KeepsLists s (setLockout k e on s) := by
  by_cases h : s.shelves[k].entries[e].lockout = on
  · have hsame : Machine.setLockout k e on s = s := if_pos h
    rw [hsame]; exact refl s
  · refine set k _ (setLockout_spec k e on s h).1 ⟨fun f => ?_, fun _ => .inl⟩
    dsimp only
    rw [getElem_set_fin]
    split <;> rename_i hf
    · subst hf; exact ⟨rfl, rfl⟩
    · exact ⟨rfl, rfl⟩

theorem clearMarks (k : ShelfId) (s : State) : KeepsLists s (clearMarks k s) :=
  set k _ (clearMarks_spec k s).1 (.of_fewer rfl (.inl rfl) fun c hc => by rw [emptied_failed] at hc; cases hc)

theorem parkBoth (k : ShelfId) (s : State) : KeepsLists s (parkBoth k s) := by
  by_cases hp : s.slices[k].timing = .parked
  · rw [parkBoth_parked k s hp]; exact refl s
  · exact set k _ (parkBoth_spec k s hp).2.1 (.of_fewer rfl (.inr rfl) fun _ => id)

theorem resetBoth (k : ShelfId) (s : State) : KeepsLists s (resetBoth k s) := by
  obtain ⟨-, -, -, -, -, hshelves, -⟩ := resetBoth_spec k s
  exact set k _ hshelves (.of_fewer rfl (.inr rfl) fun c hc => by rw [emptied_failed] at hc; cases hc)

theorem writeShelf (k : ShelfId) (w : SliceSettings) (v : Selection) (s : State) :
    KeepsLists s (writeSlice k w (writeSelection k v s)) := by
  obtain ⟨-, -, -, -, -, hslice⟩ := writeSlice_spec k w (writeSelection k v s)
  exact (set k _ (writeSelection_spec k v s).1 (.of_fewer rfl (.inl rfl) fun _ => id)).trans (of_sameBut hslice)

theorem runCommand (c : Request → Command) (r : Request) (s : State) : KeepsLists s (runCommand c r s).state := by
  unfold Machine.runCommand
  split
  · exact refl s
  · exact setCommand _ _ s

theorem runUnranked {act : Request → State → State} (h : ∀ r t, KeepsLists t (act r t)) (r : Request) (s : State) :
    KeepsLists s (runUnranked act r s).state := by
  unfold Machine.runUnranked
  split
  · exact refl s
  · exact h r s

theorem runMasked {act : ShelfId → State → State} (h : ∀ k t, KeepsLists t (act k t)) (r : Request) (s : State) :
    KeepsLists s (runMasked act r s).state := overMask _ act h s

theorem serveEngine {row : Instr} {check : Request → State → Option RefusalAnswer} {run : Request → State → Served}
    (hrun : ∀ r t, KeepsLists t (run r t).state) (s : State) : KeepsLists s (serveEngine row check run s) :=
  serveEngine_keeps (KeepsLists s) (fun _ _ h ht => ht.trans (of_sameBut h)) (fun _ ht => ht.trans (of_shelves rfl))
    (fun _ => True) (fun _ _ _ => trivial) (fun r t _ ht => ht.trans (hrun r t)) s (fun _ _ _ _ _ _ _ => trivial) (refl s)

/-- The restart keeps the lists and empties the rest (R108). -/
theorem deviceRestart (s : State) : KeepsLists s (deviceRestart s) := by
  intro k
  have hshelves : (Machine.deviceRestart s).shelves = s.restarted.shelves := deviceRestart_directs s .shelves (by decide)
  rw [hshelves, restarted_shelves]
  exact .of_fewer rfl (.inr rfl) fun c hc => by
    unfold Shelf.restart at hc
    rw [emptied_failed] at hc
    cases hc

theorem of_next {c : Instr} {s t u : State} (hu : KeepsLists s u) (h : exec c s = .next t) (he : exec c s = .next u) :
    KeepsLists s t := exec_eq_of_next h he ▸ hu

/-- A command whose frame does not name the shelves keeps their lists. -/
theorem of_frame {c : Instr} {s t : State} (h : exec c s = .next t)
    (hd : decide (Part.shelves ∉ commandParts c) = true := by rfl) : KeepsLists s t :=
  of_sameBut (exec_sameBut c s t h) (of_decide_eq_true hd)

end KeepsLists

/-- A command that neither starts the part over nor writes a list entry keeps the lists. -/
theorem exec_keepsLists (c : Instr) (s t : State) (hstart : Instr.startsOver c = false) (hwrite : c ≠ .writeListEntry)
    (h : exec c s = .next t) : KeepsLists s t := by
  cases c with
  | powerOn | resetLineReleased | transmissionEnd | deviceRestart => cases hstart
  | writeListEntry => exact absurd rfl hwrite
  | lockFailedRemoval n => exact (KeepsLists.takeRemoval n s).of_next h rfl
  | evaluation => exact (KeepsLists.serveEvaluation s).of_next h rfl
  | writeShelf =>
    exact (KeepsLists.serveEngine (fun _ t => .overMask _ _ (fun k t => .writeShelf k _ _ t) t) s).of_next h rfl
  | commandHold => exact (KeepsLists.serveEngine (KeepsLists.runCommand _) s).of_next h rfl
  | commandForce => exact (KeepsLists.serveEngine (KeepsLists.runCommand _) s).of_next h rfl
  | commandManual => exact (KeepsLists.serveEngine (KeepsLists.runCommand _) s).of_next h rfl
  | commandClear =>
    exact (KeepsLists.serveEngine (KeepsLists.runUnranked fun _ t => .setCommand _ _ t) s).of_next h rfl
  | commandLockout =>
    exact (KeepsLists.serveEngine (KeepsLists.runUnranked fun _ t => .setLockout _ _ _ t) s).of_next h rfl
  | park => exact (KeepsLists.serveEngine (KeepsLists.runMasked .parkBoth) s).of_next h rfl
  | unpark =>
    exact (KeepsLists.serveEngine (KeepsLists.runMasked fun k t => .of_sameBut (unparkSlice_sameBut k t)) s).of_next h rfl
  | sliceReset => exact (KeepsLists.serveEngine (KeepsLists.runMasked .resetBoth) s).of_next h rfl
  | clearMarks => exact (KeepsLists.serveEngine (KeepsLists.runMasked .clearMarks) s).of_next h rfl
  | _ => exact KeepsLists.of_frame h

/-! ### The write of a list entry (R78) -/

/-- The slots of the list after one entry is written: the new one, and those of the other entries. -/
theorem noDuplicates_set {old new : Shelf} {e : EntryId} {w : Entry} (hentries : new.entries = old.entries.set e w)
    (hfree : w.priority ≠ 0 → ∀ j : EntryId, j ≠ e → old.entries[j].priority ≠ 0 → old.entries[j].slot ≠ w.slot)
    (ho : old.NoDuplicates) : new.NoDuplicates := by
  intro i j hi hj hs
  rw [hentries, getElem_set_fin] at hi hj hs
  rw [getElem_set_fin] at hs
  by_cases hei : e = i <;> by_cases hej : e = j
  · exact hei.symm.trans hej
  · rw [if_pos hei] at hi hs
    rw [if_neg hej] at hj hs
    exact absurd hs.symm (hfree hi j (Ne.symm hej) hj)
  · rw [if_neg hei] at hi hs
    rw [if_pos hej] at hj hs
    exact absurd hs (hfree hj i (Ne.symm hei) hi)
  · rw [if_neg hei] at hi hs
    rw [if_neg hej] at hj hs
    exact ho i j hi hj hs

/-- A shelf whose check found no duplicate (R78). -/
theorem duplicates_eq_false {h : Shelf} {e : EntryId} {w : Entry} (hd : duplicates h e w = false) (hw : w.priority ≠ 0)
    (j : EntryId) (hj : j ≠ e) (hp : h.entries[j].priority ≠ 0) : h.entries[j].slot ≠ w.slot := by
  intro hs
  unfold duplicates at hd
  rw [decide_eq_true hw, Bool.true_and, List.any_eq_false] at hd
  exact hd j (List.mem_finRange j) (by simp only [hj, hp, hs, ne_eq, not_false_eq_true, decide_true, Bool.and_self])

theorem writeEntry_noDuplicates (k : ShelfId) (e : EntryId) (w : Entry) (s : State)
    (hd : duplicates s.shelves[k] e w = false) (hs : s.shelves[k].NoDuplicates) :
    (writeEntry k e w s).shelves[k].NoDuplicates :=
  noDuplicates_set (writeEntry_spec k e w s).2.1 (duplicates_eq_false hd) hs

/-- The target goes when the write takes its slot off the list, and the lock-failed set is pruned (R78, R99). -/
theorem writeEntry_namesListed (k : ShelfId) (e : EntryId) (w : Entry) (s : State) (hs : s.shelves[k].NamesListed) :
    (writeEntry k e w s).shelves[k].NamesListed := by
  obtain ⟨-, hentries, -, -, hdropped, -⟩ := writeEntry_spec k e w s
  obtain ⟨htarget, -, hsame, hwritten⟩ := writeEntry_written k e w s
  by_cases hw : w = s.shelves[k].entries[e]
  · rw [hsame hw]; exact hs
  obtain ⟨-, hfailed, -⟩ := hwritten hw
  generalize writeEntry k e w s = u at *
  intro c hc
  by_cases hf : u.shelves[k].failed[c] = true
  · rw [hfailed, Bool.and_eq_true] at hf
    exact hf.2
  have hc : targetSlot u k = some c := hc.resolve_right hf
  have hmoves : ¬(s.shelves[k].entries[e].priority ≠ 0 ∧ targetSlot s k = some s.shelves[k].entries[e].slot ∧
      (w.slot ≠ s.shelves[k].entries[e].slot ∨ w.priority = 0)) := fun ⟨hp, ht, hm⟩ => by
    rw [hdropped hp ht hm] at hc
    cases hc
  have hold : targetSlot s k = some c := by
    rw [← hc]
    unfold targetSlot
    rw [(htarget (by tauto)).1]
  obtain ⟨j, hpriority, hslot⟩ := (Shelf.lists_iff _ _).1 (hs c (.inl hold))
  refine (Shelf.lists_iff _ _).2 ⟨j, ?_⟩
  rw [hentries, getElem_set_fin]
  split <;> rename_i hj
  · subst hj
    have hstays : w.slot = s.shelves[k].entries[e].slot ∧ w.priority ≠ 0 := by
      by_contra hno
      exact hmoves ⟨hpriority, hslot ▸ hold, by tauto⟩
    exact ⟨hstays.2, hstays.1.trans hslot⟩
  · exact ⟨hpriority, hslot⟩

/-- The engine writes the entry on the masked shelves that do not refuse it: what the write keeps of such a shelf, the
request keeps of every shelf. -/
theorem runWriteListEntry_keeps (P : Shelf → Prop) (r : Request) (s : State)
    (hwrite : ∀ k t, duplicates t.shelves[k] (Fin.ofNat 8 (byteAt r.body 2)) (entryOf r.body) = false →
      P t.shelves[k] → P (writeEntry k (Fin.ofNat 8 (byteAt r.body 2)) (entryOf r.body) t).shelves[k])
    (hs : ∀ k : ShelfId, P s.shelves[k]) (k : ShelfId) : P (runWriteListEntry r s).state.shelves[k] := by
  refine overMask_at (maskOf r.body &&& ~~~refusedMask (maskOf r.body) (Fin.ofNat 8 (byteAt r.body 2)) (entryOf r.body) s)
    _ (fun k t => t.shelves[k]) (fun _ => True) (fun k t => P t.shelves[k]) s (fun _ _ _ => trivial)
    (fun i j t _ hij => (writeEntry_spec i _ _ t).1 j (Ne.symm hij)) (fun i t _ hmask hi => ?_)
    (fun i t _ _ hi => ?_) (fun i j t _ hij hj => ?_) trivial k
  · refine hwrite i t ?_ (hi ▸ hs i)
    have hi : t.shelves[i] = s.shelves[i] := hi
    rw [BitVec.getLsbD_and, Bool.and_eq_true, BitVec.getLsbD_not, Bool.and_eq_true, Bool.not_eq_true',
      refusedMask_bit] at hmask
    obtain ⟨hmasked, -, hrefused⟩ := hmask
    rw [hmasked, Bool.true_and, decide_eq_false_iff_not] at hrefused
    rw [hi, Bool.eq_false_iff]
    intro hdup
    refine hrefused ?_
    unfold duplicates at hdup
    simpa [and_assoc] using hdup
  · exact hi ▸ hs i
  · rw [(writeEntry_spec i _ _ t).1 j (Ne.symm hij)]; exact hj

/-! ### Every command -/

/-- What every shelf has at power-on, and keeps in the events that move no list and in the write of an entry that its own
list does not refuse, every command keeps. -/
theorem exec_keeps_shelves (P : Shelf → Prop) (hreset : P resetShelf) (hfollows : ∀ old new, Shelf.Follows old new → P old → P new)
    (hwrite : ∀ k e w t, duplicates t.shelves[k] e w = false → P t.shelves[k] → P (writeEntry k e w t).shelves[k])
    (c : Instr) (s t : State) (h : exec c s = .next t) (hs : ∀ k : ShelfId, P s.shelves[k]) :
    ∀ k : ShelfId, P t.shelves[k] := by
  have hkeeps : ∀ {a b : State}, KeepsLists a b → (∀ k : ShelfId, P a.shelves[k]) → ∀ k : ShelfId, P b.shelves[k] :=
    fun hab ha k => hfollows _ _ (hab k) (ha k)
  have hpower : ∀ now strap level record pending (k : ShelfId),
      P (State.powerOn now strap level record pending).shelves[k] := fun now strap level record pending k => by
    have hk : (State.powerOn now strap level record pending).shelves[k] = resetShelf := reset_shelves k
    rw [hk]; exact hreset
  by_cases hstart : Instr.startsOver c = true
  · exact exec_startsOver_keeps (fun s => ∀ k : ShelfId, P s.shelves[k]) hpower
      (fun s hs => hkeeps (KeepsLists.deviceRestart s) hs) (fun _ _ hs => hs) hstart h hs
  by_cases hlist : c = .writeListEntry
  · subst hlist
    rw [exec_eq_of_next h rfl]
    exact serveEngine_keeps (fun s => ∀ k : ShelfId, P s.shelves[k])
      (fun _ _ hframe => hkeeps (.of_sameBut hframe)) (fun _ hs => hs) (fun _ => True) (fun _ _ _ => trivial)
      (fun r s _ hs => runWriteListEntry_keeps P r s (fun k t => hwrite k _ _ t) hs) s
      (fun _ _ _ _ _ _ _ => trivial) hs
  · exact hkeeps (exec_keepsLists c s t (Bool.eq_false_iff.2 hstart) hlist h) hs

theorem exec_keeps_noDuplicates (c : Instr) (s t : State) (h : exec c s = .next t) (hs : ListsHaveNoDuplicates s) :
    ListsHaveNoDuplicates t :=
  exec_keeps_shelves Shelf.NoDuplicates
    (fun e _ he => absurd (by rw [resetShelf_entries]; rfl) he)
    (fun _ _ hf => hf.noDuplicates) writeEntry_noDuplicates c s t h hs

theorem resetShelf_namesListed : resetShelf.NamesListed := by
  rintro c (hc | hc)
  · cases hc
  · rw [resetShelf_failed] at hc; cases hc

theorem exec_keeps_targetsListed (c : Instr) (s t : State) (h : exec c s = .next t) (hs : TargetsListed s) :
    TargetsListed t := by
  rw [targetsListed_iff] at hs ⊢
  exact exec_keeps_shelves Shelf.NamesListed resetShelf_namesListed (fun _ _ hf => hf.namesListed)
    (fun k e w t _ => writeEntry_namesListed k e w t) c s t h hs

/-! ### The port bindings (R53, R54) -/

theorem BindingsUnique.congr {s t : State} (hs : BindingsUnique s) (h : t.rxPorts = s.rxPorts) : BindingsUnique t := by
  unfold BindingsUnique at *
  rw [h]
  exact hs

/-- A command whose frame does not name the port table keeps the bindings. -/
theorem BindingsUnique.of_frame {c : Instr} {s t : State} (hs : BindingsUnique s) (h : exec c s = .next t)
    (hd : decide (Part.rxPorts ∉ commandParts c) = true := by rfl) : BindingsUnique t :=
  hs.congr (exec_sameBut c s t h .rxPorts (of_decide_eq_true hd))

/-- A port in the block holds what the block carries, and the others what they had (R175). -/
theorem writtenPorts_at (b : List Byte) (ports : Vector RxPort 256) (p : PortId) :
    (writtenPorts b ports)[p] = if inBlock b p then rxOf (entryFor b p) else ports[p] := Vector.getElem_ofFn ..

/-- An entry written out of use binds no slot (R53). -/
theorem rxOf_unused {e : List Byte} (h : (rxOf e).inUse = false) : (rxOf e).bound = none := by
  have hbit : bitAt e 0 0 = false := h
  unfold rxOf
  dsimp only
  rw [hbit]
  rfl

/-- A block is stored only when its bindings are unique (R54). -/
theorem runWritePorts_bindingsUnique (r : Request) (s : State) (hs : BindingsUnique s) :
    BindingsUnique (runWritePorts r s).state := by
  unfold runWritePorts
  split <;> rename_i hunique
  · dsimp only
    unfold BindingsUnique
    rw [(applyPorts_spec r.body s).1]
    refine ⟨hunique, fun p hp => ?_⟩
    rw [writtenPorts_at] at hp ⊢
    split at hp <;> rename_i hblock
    · rw [if_pos hblock]; exact rxOf_unused hp
    · rw [if_neg hblock]; exact hs.2 p hp
  · exact hs

theorem exec_keeps_bindings (c : Instr) (s t : State) (h : exec c s = .next t) (hs : BindingsUnique s) :
    BindingsUnique t := by
  cases c with
  | powerOn | resetLineReleased | transmissionEnd | deviceRestart =>
    exact exec_startsOver_keeps BindingsUnique (fun _ _ _ _ _ => reset_bindingsUnique)
      (fun s hs => hs.congr (deviceRestart_ports s).1) (fun _ _ hs => hs) rfl h hs
  | writePorts =>
    exact exec_agent_keeps BindingsUnique (fun _ _ hframe hs => hs.congr (hframe .rxPorts (by decide))) h rfl
      runWritePorts_bindingsUnique hs
  | _ => exact hs.of_frame h

/-! ### The settled statement -/

/-- Settles O55: lists and what the shelves name move by list writes, evaluations and their like only, and bindings by
WRITE_PORTS. -/
theorem stepKeepsListsFreeOfDuplicates : Obligations.StepKeepsListsFreeOfDuplicates :=
  ⟨step_keeps ListsHaveNoDuplicates exec_keeps_noDuplicates fun _ _ h => h,
    step_keeps BindingsUnique exec_keeps_bindings fun _ _ h => h,
    step_keeps TargetsListed exec_keeps_targetsListed fun _ _ h => h⟩

end Sys2Proof.Machine
end

section
/-! PROOFS. The Grade Receiver (Chapter 4): the notice timer (R61, R62) and the triples (R70), every effective grade up to
date (R68, R69, R71), and candidates held while their map is detached (R64 to R66, R72). -/

namespace Sys2Proof.Machine

-- One theorem after the other: the joined text would otherwise ask for a thread per waiting proof.
set_option Elab.async false

/-! ### What an effective grade is made from (R68, R69) -/

/-- The effective grade of a slot reads the slot's kind, the triple of the shelf that feeds a SHELF candidate, and the
slot's grade record without the effective grade itself. -/
theorem effectiveGrade_of_source {s t : State} (n : Slot) (hkind : t.cands[n].kind = s.cands[n].kind)
    (hsource : t.cands[n].source = s.cands[n].source)
    (htriple : s.cands[n].kind = .shelf → t.triples[s.cands[n].source] = s.triples[s.cands[n].source])
    (hgrade : ∃ e, t.grades[n] = { s.grades[n] with eff := e }) : effectiveGrade t n = effectiveGrade s n := by
  obtain ⟨e, hgrade⟩ := hgrade
  unfold effectiveGrade baseRank effectiveHop effectiveOrigin
  simp only [hkind, hgrade, hsource]
  cases h : s.cands[n].kind with
  | shelf => rw [htriple h]
  | _ => rfl

/-- The candidates and the triples kept, and the slot's grade record but for the effective grade. -/
theorem effectiveGrade_of_record {s t : State} (n : Slot) (hc : t.cands = s.cands) (ht : t.triples = s.triples)
    (hgrade : ∃ e, t.grades[n] = { s.grades[n] with eff := e }) : effectiveGrade t n = effectiveGrade s n :=
  effectiveGrade_of_source n (by rw [hc]) (by rw [hc]) (fun _ => by rw [ht]) hgrade

/-- A commit leaves the effective grade that the committed record has (R71). -/
theorem commitGrade_eff (n : Slot) (g : GradeSlot) (s : State) :
    effectiveGrade (commitGrade n g s) n = effectiveGrade (s.setGrade n g) n := by
  have hframe := commitGrade_sameBut n g s
  refine effectiveGrade_of_record n (hframe .cands (by decide)) (hframe .triples (by decide))
    ⟨effectiveGrade (s.setGrade n g) n, ?_⟩
  rw [commitGrade_at, if_pos rfl, State.setGrade_grades_at, if_pos rfl]

/-- The grade record that a commit leaves, its effective grade read in the state after it (R71). -/
theorem commitGrade_current (n m : Slot) (g : GradeSlot) (s : State) :
    (commitGrade n g s).grades[m] =
      if n = m then { g with eff := effectiveGrade (commitGrade n g s) n } else s.grades[m] := by
  rw [commitGrade_eff]
  exact commitGrade_at n m g s

/-! ### Walks over the slots -/

/-- A walk that rewrites the record of each slot from that record and from what the walk leaves alone. -/
theorem overSlots_grades (f : Slot → State → State) (record : Slot → State → GradeSlot) (ps : List Part)
    (hframe : ∀ n t, sameBut ps t (f n t))
    (hat : ∀ (n m : Slot) (t : State), (f n t).grades[m] = if n = m then record n t else t.grades[m]) (s : State)
    (hrecord : ∀ (n : Slot) (t : State), sameBut ps s t → t.grades[n] = s.grades[n] → record n t = record n s) (n : Slot) :
    (overSlots f s).grades[n] = record n s := by
  refine overSlots_at f (fun n t => t.grades[n]) (sameBut ps s) (fun n t => t.grades[n] = record n s) s
    (fun i t h => h.trans (hframe i t)) (fun i j t _ hij => by rw [hat, if_neg hij]) ?self ?other (sameBut.refl _ _) n
  case self =>
    intro i t hframe hi
    rw [hat, if_pos rfl]
    exact hrecord i t hframe hi
  case other =>
    intro i j t _ hij hj
    rw [hat, if_neg hij]
    exact hj

/-- The parts that a regrade can change (R71). -/
def regradeParts : List Part := [.grades, .latches, .noticeState, .control, .queue, .gradeHandovers]

/-- A walk that regrades some of the slots, chosen by their grade records (R65, R70). -/
theorem overSlots_regrade (p : Slot → GradeSlot → Prop) [∀ n g, Decidable (p n g)] (s : State) (n : Slot) :
    (overSlots (fun n t => if p n t.grades[n] then regrade n t else t) s).grades[n] =
      if p n s.grades[n] then
        { s.grades[n] with
          eff := effectiveGrade (overSlots (fun n t => if p n t.grades[n] then regrade n t else t) s) n }
      else s.grades[n] := by
  have hstep : ∀ n t, sameBut regradeParts t (if p n t.grades[n] then regrade n t else t) := fun n t =>
    (regrade_sameBut n t).ite (sameBut.refl _ _)
  have hwalk := overSlots_grades (fun n t => if p n t.grades[n] then regrade n t else t)
    (fun n t => if p n t.grades[n] then { t.grades[n] with eff := effectiveGrade t n } else t.grades[n]) regradeParts
    hstep (fun n m t => by
      split
      · exact regrade_at n m t
      · split <;> rename_i hnm
        · exact hnm ▸ rfl
        · rfl)
    s (fun n t hframe hn => by
      dsimp only
      rw [effectiveGrade_of_record n (hframe .cands (by decide)) (hframe .triples (by decide)) ⟨_, hn⟩, hn]) n
  rw [hwalk]
  have hframe := overSlots_sameBut _ hstep s
  split <;> rename_i hp
  · rw [effectiveGrade_of_record n (hframe .cands (by decide)) (hframe .triples (by decide))
      ⟨_, hwalk.trans (if_pos hp)⟩]
  · rfl

/-! ### The notice timer (R61, R62) -/

/-- NOTICE_LOST comes with a record that is timed out (R62). -/
theorem commitGrade_noticeLost_present (n : Slot) (g : GradeSlot) (s : State) (hg : g.noticeLost = true)
    (hs : s.grades[n].code ≠ .timedOut) : (commitGrade n g s).events.copies[condNoticeLost n] = true := by
  have hheard : s.grades[n].noticeLost = false := decide_eq_false hs
  unfold commitGrade
  dsimp only
  rw [raiseCondition_copies, hheard, hg, if_neg Bool.noConfusion, getElem_set_fin, if_pos rfl]

theorem expireNotice_running (n : Slot) (due : Nat) (s : State) (h : s.grades[n].timer = some due) :
    expireNotice n s = commitGrade n s.grades[n].timeOut (s.advanceTo due) := by
  unfold expireNotice
  rw [h]

/-- Settles O19: the timed-out record is committed at the time it was due. -/
theorem noticeTimerExpires : Obligations.NoticeTimerExpires := by
  intro n due s hdue
  have hframe := commitGrade_sameBut n s.grades[n].timeOut (s.advanceTo due)
  refine ⟨_, congrArg Host.Outcome.next (expireNotice_running n due s hdue), hframe .osc (by decide), ?_,
    fun hheard => commitGrade_noticeLost_present n _ (s.advanceTo due) rfl hheard,
    (advanceTo_sameBut s due).andThen hframe⟩
  rw [commitGrade_eff]
  exact commitGrade_grades n _ (s.advanceTo due)

/-! ### Triples (R70) -/

/-- The state with the triple taken, before any candidate is regraded. -/
def State.withTriple (s : State) (k : ShelfId) (tr : Triple) (rest : List (ShelfId × Triple)) : State :=
  { s with triples := s.triples.set k tr, flight := { s.flight with triples := rest } }

theorem withTriple_sameBut (s : State) (k : ShelfId) (tr : Triple) (rest : List (ShelfId × Triple)) :
    sameBut [.tripleHandovers, .triples] s (s.withTriple k tr rest) := by
  intro p hp; cases p <;> simp_all [Part.same, State.withTriple]

/-- The triple is taken and the SHELF candidates fed from the shelf are regraded (R70). -/
theorem takeTriple_taken (k : ShelfId) (s : State) (r : ShelfId × Triple) (rest : List (ShelfId × Triple))
    (h : takeFirst (fun r => decide (r.1 = k)) s.flight.triples = some (r, rest)) :
    takeTriple k s =
      overSlots (fun n t => if s.cands[n].kind = .shelf ∧ s.cands[n].source = k then regrade n t else t)
        (s.withTriple k r.2 rest) := by
  unfold takeTriple
  rw [h]
  rfl

/-- What a regrade of the candidates fed from shelf k leaves of every grade record (R70). -/
theorem takeTriple_grades (k : ShelfId) (s : State) (r : ShelfId × Triple) (rest : List (ShelfId × Triple))
    (h : takeFirst (fun r => decide (r.1 = k)) s.flight.triples = some (r, rest)) (n : Slot) :
    (takeTriple k s).grades[n] =
      if s.cands[n].kind = .shelf ∧ s.cands[n].source = k then
        { s.grades[n] with eff := effectiveGrade (takeTriple k s) n }
      else s.grades[n] := by
  rw [takeTriple_taken k s r rest h]
  exact overSlots_regrade (fun n _ => s.cands[n].kind = .shelf ∧ s.cands[n].source = k) (s.withTriple k r.2 rest) n

/-- What taking the triple leaves alone (R70). -/
theorem takeTriple_frame (k : ShelfId) (s : State) (r : ShelfId × Triple) (rest : List (ShelfId × Triple))
    (h : takeFirst (fun r => decide (r.1 = k)) s.flight.triples = some (r, rest)) :
    sameBut regradeParts (s.withTriple k r.2 rest) (takeTriple k s) := by
  rw [takeTriple_taken k s r rest h]
  exact overSlots_sameBut _ (fun n t => (regrade_sameBut n t).ite (sameBut.refl _ _)) _

/-- Settles O20: the walk regrades the fed candidates and leaves every other record. -/
theorem tripleHandoverRegrades : Obligations.TripleHandoverRegrades := by
  intro k tr before after s hflight hfirst
  have htake : takeFirst (fun r => decide (r.1 = k)) s.flight.triples = some ((k, tr), before ++ after) := by
    rw [hflight]
    exact takeFirst_append _ before after (k, tr) (decide_eq_true rfl) fun x hx => decide_eq_false (hfirst x hx)
  have hframe := takeTriple_frame k s _ _ htake
  exact ⟨takeTriple k s, rfl, hframe .tripleHandovers (by decide), hframe .triples (by decide),
    takeTriple_grades k s _ _ htake, (withTriple_sameBut s k tr _).andThen hframe⟩

/-! ### What a received notice keeps (R56 to R58) -/

/-- What a frame taken and forwarded does not touch, and a notice applied to a candidate keeps, RECEIVED_GRADE_NOTICE
keeps. -/
theorem takeNotice_keeps (I : State → Prop)
    (hlane : ∀ s t, sameBut [.localIn, .latches, .noticeState, .control] s t → I s → I t)
    (happly : ∀ n f s, I s → I (applyNotice n f s)) {s : State} (hs : I s) : I (takeNotice s) := by
  have hforward : ∀ f t, I t → I (joinToControl f t) := fun f t => hlane t _ (joinToControl_sameBut f t).mono
  have hprocess : ∀ f t, I t → I (processNotice f t) := by
    intro f t ht
    unfold processNotice
    split
    · exact hforward f t ht
    · rename_i p _
      have happlied : I (match boundLine t p with | some c => applyNotice c f t | none => t) := by
        split
        · exact happly _ f t ht
        · exact ht
      dsimp only
      split
      · exact happlied
      · exact hforward f _ happlied
  unfold takeNotice
  split
  · rename_i f rest _
    split
    · exact hprocess f _ (hlane s _ (withLocalIn_sameBut s rest).mono hs)
    · exact hs
  · exact hs

/-! ### Every effective grade up to date (R68, R69, R71) -/

namespace GradesCurrent

/-- Every record was recomputed, or was left with all that its effective grade is made from. -/
theorem of_slots {s t : State} (hs : GradesCurrent s)
    (h : ∀ n : Slot, t.grades[n].eff = effectiveGrade t n ∨
      (t.cands[n].kind = s.cands[n].kind ∧ t.cands[n].source = s.cands[n].source) ∧
        (s.cands[n].kind = .shelf → t.triples[s.cands[n].source] = s.triples[s.cands[n].source]) ∧
        t.grades[n] = s.grades[n]) : GradesCurrent t := by
  intro n
  rcases h n with hnew | ⟨⟨hkind, hsource⟩, htriple, hgrade⟩
  · exact hnew
  · rw [effectiveGrade_of_source n hkind hsource htriple ⟨_, hgrade⟩, hgrade]
    exact hs n

theorem of_records {s t : State} (hs : GradesCurrent s) (hc : t.cands = s.cands) (ht : t.triples = s.triples)
    (h : ∀ n : Slot, t.grades[n].eff = effectiveGrade t n ∨ t.grades[n] = s.grades[n]) : GradesCurrent t :=
  hs.of_slots fun n => (h n).imp id fun h => ⟨by rw [hc]; exact ⟨rfl, rfl⟩, fun _ => by rw [ht], h⟩

theorem congr {s t : State} (hs : GradesCurrent s) (hc : t.cands = s.cands) (ht : t.triples = s.triples)
    (hg : t.grades = s.grades) : GradesCurrent t :=
  hs.of_records hc ht fun _ => .inr (by rw [hg])

theorem of_sameBut {ps : List Part} {s t : State} (hs : GradesCurrent s) (h : sameBut ps s t)
    (hc : Part.cands ∉ ps := by decide) (ht : Part.triples ∉ ps := by decide) (hg : Part.grades ∉ ps := by decide) :
    GradesCurrent t :=
  hs.congr (h .cands hc) (h .triples ht) (h .grades hg)

/-- A command whose frame names neither the candidates nor the triples nor the grades keeps them. -/
theorem of_frame {c : Instr} {s t : State} (hs : GradesCurrent s) (h : exec c s = .next t)
    (hd : decide (Part.cands ∉ commandParts c ∧ Part.triples ∉ commandParts c ∧ Part.grades ∉ commandParts c) = true := by
      rfl) : GradesCurrent t :=
  let ⟨hc, ht, hg⟩ := of_decide_eq_true hd
  hs.of_sameBut (exec_sameBut c s t h) hc ht hg

theorem of_next {c : Instr} {s t u : State} (hu : GradesCurrent u) (h : exec c s = .next t) (he : exec c s = .next u) :
    GradesCurrent t := exec_eq_of_next h he ▸ hu

/-- A committed record is recomputed (R71). -/
theorem commitGrade {s : State} (hs : GradesCurrent s) (n : Slot) (g : GradeSlot) : GradesCurrent (commitGrade n g s) := by
  have hframe := commitGrade_sameBut n g s
  refine hs.of_records (hframe .cands (by decide)) (hframe .triples (by decide)) fun m => ?_
  rw [commitGrade_current]
  by_cases hnm : n = m
  · rw [if_pos hnm]; exact .inl (hnm ▸ rfl)
  · rw [if_neg hnm]; exact .inr rfl

theorem takeNotice {s : State} (hs : GradesCurrent s) : GradesCurrent (takeNotice s) :=
  takeNotice_keeps GradesCurrent (fun _ _ hframe hs => hs.of_sameBut hframe) (fun _ _ _ hs => hs.commitGrade _ _) hs

theorem expireNotice {s : State} (hs : GradesCurrent s) (n : Slot) : GradesCurrent (expireNotice n s) := by
  unfold Machine.expireNotice
  split
  · exact (hs.of_sameBut (advanceTo_sameBut s _)).commitGrade n _
  · exact hs

/-- A triple reaches the candidates fed from its shelf, which are regraded (R70). -/
theorem takeTriple {s : State} (hs : GradesCurrent s) (k : ShelfId) : GradesCurrent (takeTriple k s) := by
  cases htake : takeFirst (fun r => decide (r.1 = k)) s.flight.triples with
  | none =>
    have hsame : Machine.takeTriple k s = s := by unfold Machine.takeTriple; rw [htake]
    rw [hsame]; exact hs
  | some taken =>
    obtain ⟨r, rest⟩ := taken
    have hframe := takeTriple_frame k s r rest htake
    have hcands : (Machine.takeTriple k s).cands = s.cands := hframe .cands (by decide)
    have htriples : (Machine.takeTriple k s).triples = s.triples.set k r.2 := hframe .triples (by decide)
    refine hs.of_slots fun n => ?_
    rw [takeTriple_grades k s r rest htake n]
    by_cases hfed : s.cands[n].kind = .shelf ∧ s.cands[n].source = k
    · rw [if_pos hfed]; exact .inl rfl
    · rw [if_neg hfed, hcands, htriples]
      refine .inr ⟨⟨rfl, rfl⟩, fun hkind => ?_, rfl⟩
      exact Vector.getElem_set_ne _ _ fun hk => hfed ⟨hkind, (Fin.ext hk).symm⟩

/-- A candidate that keeps its kind and its source shelf keeps its effective grade. -/
theorem commitCand {s : State} (hs : GradesCurrent s) (n : Slot) (c : Cand) (b : Bool)
    (hc : c.kind = s.cands[n].kind ∧ c.source = s.cands[n].source) : GradesCurrent (commitCand n c b s) := by
  have hframe := commitCand_sameBut n c b s
  refine hs.of_slots fun m => .inr ?_
  have hgrades : (Machine.commitCand n c b s).grades = s.grades := hframe .grades (by decide)
  have htriples : (Machine.commitCand n c b s).triples = s.triples := hframe .triples (by decide)
  rw [commitCand_cands, getElem_set_fin, hgrades, htriples]
  refine ⟨?_, fun _ => rfl, rfl⟩
  by_cases hnm : n = m
  · subst hnm
    rw [if_pos rfl]
    exact hc
  · rw [if_neg hnm]
    exact ⟨rfl, rfl⟩

theorem takeHealthReport {s : State} (hs : GradesCurrent s) (n : Slot) : GradesCurrent (takeHealthReport n s) := by
  unfold Machine.takeHealthReport
  split
  · exact hs
  · rename_i r rest _
    have hkeeps := Cand.takeHealth_binding s.osc r.2 s.cands[n]
    have htaken : GradesCurrent (s.setFlight { s.flight with health := rest }) := hs.congr rfl rfl rfl
    exact htaken.commitCand n _ false ⟨congrArg BindingWrite.kind hkeeps, congrArg BindingWrite.source hkeeps⟩

theorem expireHoldOff {s : State} (hs : GradesCurrent s) (n : Slot) : GradesCurrent (expireHoldOff n s) := by
  unfold Machine.expireHoldOff
  split
  · exact (hs.of_sameBut (advanceTo_sameBut s _)).commitCand n _ false ⟨rfl, rfl⟩
  · exact hs

theorem expireWtr {s : State} (hs : GradesCurrent s) (n : Slot) : GradesCurrent (expireWtr n s) := by
  unfold Machine.expireWtr
  split
  · exact (hs.of_sameBut (advanceTo_sameBut s _)).commitCand n _ false ⟨rfl, rfl⟩
  · exact hs

/-- The written slot is regraded, and the other slots stay (R72, R173). -/
theorem writeCandidate {s : State} (hs : GradesCurrent s) (n : Slot) (bw : BindingWrite) (gw : GradeWrite)
    (fw : FrequencyWrite) : GradesCurrent (writeCandidate n bw gw fw s) := by
  obtain ⟨hcands, -, hgrades, hframe⟩ := writeCandidate_spec n bw gw fw s _ rfl
  refine hs.of_slots fun m => ?_
  by_cases hnm : n = m
  · subst hnm
    left
    conv_lhs => rw [hgrades, getElem_set_fin, if_pos rfl]
  · right
    have htriples : (Machine.writeCandidate n bw gw fw s).triples = s.triples := hframe .triples (by decide)
    have hcand : (Machine.writeCandidate n bw gw fw s).cands[m] = s.cands[m] := by
      rw [hcands, getElem_set_fin, if_neg hnm]
    rw [hgrades, getElem_set_fin, if_neg hnm, hcand, htriples]
    exact ⟨⟨rfl, rfl⟩, fun _ => rfl, rfl⟩

/-- The slots whose binding changed are regraded (R55, R71). -/
theorem runWritePorts {s : State} (hs : GradesCurrent s) (r : Request) : GradesCurrent (runWritePorts r s).state := by
  unfold Machine.runWritePorts
  split
  · obtain ⟨-, -, hgrades, hframe⟩ := applyPorts_spec r.body s
    refine hs.of_records (hframe .cands (by decide)) (hframe .triples (by decide)) fun n => ?_
    dsimp only
    rw [hgrades n]
    split
    · exact .inl rfl
    · exact .inr rfl
  · exact hs

/-- Held or not, a candidate keeps its effective grade (R64). -/
theorem detachReceive {s : State} (hs : GradesCurrent s) (m : MapId) : GradesCurrent (detachReceive m s) := by
  obtain ⟨-, hgrades, hframe⟩ := detachReceive_spec m s
  by_cases hatt : s.rmaps[m].attached = true
  · intro n
    have hn := hgrades hatt n
    rw [effectiveGrade_congr n (hframe .cands (by decide)) (hframe .triples (by decide))
      (by rw [hn]; split <;> exact ⟨rfl, rfl, rfl, rfl, rfl, rfl, rfl⟩), ← hs n, hn]
    split <;> rfl
  · have hsame : Machine.detachReceive m s = s := if_neg hatt
    rw [hsame]; exact hs

/-- The candidates that use the map are regraded (R65). -/
theorem attachReceive {s : State} (hs : GradesCurrent s) (m : MapId) : GradesCurrent (attachReceive m s) := by
  obtain ⟨-, hmapped, hother, hframe⟩ := attachReceive_spec m s
  cases hatt : s.rmaps[m].attached with
  | true =>
    have hsame : Machine.attachReceive m s = s := if_pos hatt
    rw [hsame]; exact hs
  | false =>
    refine hs.of_records (hframe .cands (by decide)) (hframe .triples (by decide)) fun n => ?_
    by_cases hn : s.grades[n].rmap = m
    · obtain ⟨-, heff, -⟩ := hmapped hatt n hn
      exact .inl heff
    · exact .inr (hother n hn)

/-- The restart recomputes every effective grade (R76). -/
theorem deviceRestart (s : State) : GradesCurrent (deviceRestart s) := by
  have hrestarted : GradesCurrent s.restarted := fun n => by
    conv_lhs => rw [restarted_grades]
  exact hrestarted.of_sameBut (deviceRestart_directs s)

end GradesCurrent

theorem exec_keeps_gradesCurrent (c : Instr) (s t : State) (h : exec c s = .next t) (hs : GradesCurrent s) :
    GradesCurrent t := by
  have hanswer : ∀ s t : State, sameBut answerParts s t → GradesCurrent s → GradesCurrent t := fun _ _ hframe hs =>
    hs.of_sameBut hframe
  cases c with
  | powerOn | resetLineReleased | transmissionEnd | deviceRestart =>
    exact exec_startsOver_keeps GradesCurrent (fun _ _ _ _ _ => reset_gradesCurrent)
      (fun s _ => .deviceRestart s) (fun _ _ hs => hs.congr rfl rfl rfl) rfl h hs
  | receivedGradeNotice => exact hs.takeNotice.of_next h rfl
  | noticeTimerExpiry n => exact (hs.expireNotice n).of_next h rfl
  | tripleHandover k => exact (hs.takeTriple k).of_next h rfl
  | healthReport n => exact (hs.takeHealthReport n).of_next h rfl
  | holdOffExpiry n => exact (hs.expireHoldOff n).of_next h rfl
  | wtrExpiry n => exact (hs.expireWtr n).of_next h rfl
  | writeCandidate =>
    exact exec_agent_keeps GradesCurrent hanswer h rfl (fun _ _ hs => hs.writeCandidate _ _ _ _) hs
  | writePorts => exact exec_agent_keeps GradesCurrent hanswer h rfl (fun r _ hs => hs.runWritePorts r) hs
  | detachReceiveMap => exact exec_agent_keeps GradesCurrent hanswer h rfl (fun _ _ hs => hs.detachReceive _) hs
  | attachReceiveMap => exact exec_agent_keeps GradesCurrent hanswer h rfl (fun _ _ hs => hs.attachReceive _) hs
  | _ => exact hs.of_frame h

/-! ### Candidates held while their map is detached (R64 to R66, R72) -/

/-- The record is held exactly while its map is not attached, and has mapped rank 15 without a received code. -/
def GradeSlot.HeldBy (attached : Bool) (g : GradeSlot) : Prop :=
  g.held = !attached ∧ ((∀ c, g.code ≠ .received c) → g.mapped = 15)

/-- The record follows the map that it uses. -/
def GradeSlot.Follows (maps : Vector GradeMap 4) (g : GradeSlot) : Prop := ∀ m, g.rmap = m → g.HeldBy maps[m].attached

theorem heldWithMap_iff (s : State) : HeldWithMap s ↔ ∀ n : Slot, s.grades[n].Follows s.rmaps :=
  forall_congr' fun _ => ⟨fun h _ hm => hm ▸ h, fun h => h _ rfl⟩

namespace GradeSlot.HeldBy

/-- A heard code is received, and the held indication goes with an attached map (R58). -/
theorem hear {g : GradeSlot} (now : Nat) (m : GradeMap) (c : Code) (path : Option PathBlock) (hg : g.HeldBy m.attached) :
    (g.hear now m c path).HeldBy m.attached := by
  refine ⟨?_, fun hcode => absurd rfl (hcode c)⟩
  cases hatt : m.attached with
  | true => exact ((hear_mapped now m c path g).1 hatt).2
  | false => exact ((hear_mapped now m c path g).2 hatt).2.trans (hatt ▸ hg.1)

theorem timeOut {g : GradeSlot} {a : Bool} (hg : g.HeldBy a) : g.timeOut.HeldBy a := ⟨hg.1, fun _ => rfl⟩

theorem clear {g : GradeSlot} {a : Bool} (hg : g.HeldBy a) : g.clear.HeldBy a := ⟨hg.1, fun _ => rfl⟩

/-- A remapped record is not held, and without a received code keeps its mapped rank (R65, R66). -/
theorem remap {g : GradeSlot} {a : Bool} (line : Bool) (m : GradeMap) (hg : g.HeldBy a) : (g.remap line m).HeldBy true := by
  unfold GradeSlot.remap
  split
  · rename_i c hc
    exact ⟨rfl, fun hcode => absurd hc (hcode c)⟩
  · exact ⟨rfl, hg.2⟩

/-- After a write the record follows the map that the write names (R66, R72). -/
theorem write {g : GradeSlot} {a : Bool} (now : Nat) (m : GradeMap) (line bound rebinding : Bool) (w : GradeWrite)
    (hg : g.HeldBy a) (hsame : w.rmap = g.rmap → m.attached = a) :
    (g.write now m line bound rebinding w).HeldBy m.attached := by
  have hstored : (g.store w).HeldBy a := hg
  unfold GradeSlot.write
  dsimp only
  split
  · exact ⟨rfl, fun _ => rfl⟩
  · split <;> rename_i hmap
    · exact hsame hmap ▸ hstored
    · split <;> rename_i hatt
      · exact hatt ▸ hstored.remap line m
      · exact ⟨by rw [Bool.eq_false_iff.2 hatt]; rfl, hstored.2⟩

end GradeSlot.HeldBy

theorem GradeSlot.remap_rmap (line : Bool) (m : GradeMap) (g : GradeSlot) : (g.remap line m).rmap = g.rmap := by
  unfold GradeSlot.remap
  split <;> rfl

/-- Every record after a receive map is attached: those that use it are remapped and regraded (R65). -/
theorem attachReceive_grades (m : MapId) (s : State) (hatt : s.rmaps[m].attached = false) (n : Slot) :
    (attachReceive m s).grades[n] =
      if s.grades[n].rmap = m then
        { s.grades[n].remap (decide (s.cands[n].kind = .line)) { s.rmaps[m] with attached := true } with
          eff := effectiveGrade (attachReceive m s) n }
      else s.grades[n] := by
  have hremapped : ∀ n : Slot, (overSlots (fun n t =>
        if t.grades[n].rmap = m then
          t.setGrade n (t.grades[n].remap (decide (s.cands[n].kind = .line)) { s.rmaps[m] with attached := true }) else t)
      { s with rmaps := s.rmaps.set m { s.rmaps[m] with attached := true } }).grades[n] =
        if s.grades[n].rmap = m then
          s.grades[n].remap (decide (s.cands[n].kind = .line)) { s.rmaps[m] with attached := true }
        else s.grades[n] := by
    refine overSlots_grades _ (fun n t =>
        if t.grades[n].rmap = m then
          t.grades[n].remap (decide (s.cands[n].kind = .line)) { s.rmaps[m] with attached := true }
        else t.grades[n]) [.grades] (fun n t => (setGrade_sameBut _ _ _).ite (sameBut.refl _ _)) (fun n j t => ?_) _
      (fun n t _ hn => by dsimp only; rw [hn])
    split
    · rw [State.setGrade_grades_at]
    · split <;> rename_i hnj
      · exact hnj ▸ rfl
      · rfl
  have hrun : attachReceive m s = _ := if_neg (by rw [hatt]; exact Bool.false_ne_true)
  rw [hrun]
  dsimp only
  rw [overSlots_regrade (fun _ g => g.rmap = m), hremapped n]
  by_cases hn : s.grades[n].rmap = m
  · rw [if_pos hn, if_pos ((GradeSlot.remap_rmap _ _ _).trans hn), if_pos hn]
  · rw [if_neg hn, if_neg hn, if_neg hn]

namespace HeldWithMap

theorem congr {s t : State} (hs : HeldWithMap s) (hm : t.rmaps = s.rmaps) (hg : t.grades = s.grades) :
    HeldWithMap t := by
  rw [heldWithMap_iff] at hs ⊢
  rw [hm, hg]
  exact hs

theorem of_sameBut {ps : List Part} {s t : State} (hs : HeldWithMap s) (h : sameBut ps s t)
    (hm : Part.rmaps ∉ ps := by decide) (hg : Part.grades ∉ ps := by decide) : HeldWithMap t :=
  hs.congr (h .rmaps hm) (h .grades hg)

/-- A command whose frame names neither the receive maps nor the grades keeps them. -/
theorem of_frame {c : Instr} {s t : State} (hs : HeldWithMap s) (h : exec c s = .next t)
    (hd : decide (Part.rmaps ∉ commandParts c ∧ Part.grades ∉ commandParts c) = true := by rfl) : HeldWithMap t :=
  let ⟨hm, hg⟩ := of_decide_eq_true hd
  hs.of_sameBut (exec_sameBut c s t h) hm hg

theorem of_next {c : Instr} {s t u : State} (hu : HeldWithMap u) (h : exec c s = .next t) (he : exec c s = .next u) :
    HeldWithMap t := exec_eq_of_next h he ▸ hu

theorem follows {s : State} (hs : HeldWithMap s) (n : Slot) : s.grades[n].Follows s.rmaps := (heldWithMap_iff s).1 hs n

/-- One record committed or stored that follows its map, the others and the maps kept. -/
theorem of_slots {s t : State} (hs : HeldWithMap s) (hm : t.rmaps = s.rmaps)
    (h : ∀ n : Slot, t.grades[n].Follows s.rmaps ∨ t.grades[n] = s.grades[n]) : HeldWithMap t := by
  refine (heldWithMap_iff t).2 fun n => ?_
  rw [hm]
  rcases h n with hn | hn
  · exact hn
  · rw [hn]; exact hs.follows n

theorem commitGrade {s : State} (hs : HeldWithMap s) (n : Slot) (g : GradeSlot)
    (hg : g.Follows s.rmaps) : HeldWithMap (commitGrade n g s) := by
  refine hs.of_slots (commitGrade_sameBut n g s .rmaps (by decide)) fun m => ?_
  rw [commitGrade_at]
  by_cases hnm : n = m
  · rw [if_pos hnm]; exact .inl hg
  · rw [if_neg hnm]; exact .inr rfl

theorem regrade {s : State} (hs : HeldWithMap s) (n : Slot) : HeldWithMap (regrade n s) := by
  refine hs.of_slots (regrade_sameBut n s .rmaps (by decide)) fun m => ?_
  rw [regrade_at]
  by_cases hnm : n = m
  · rw [if_pos hnm]; exact .inl (hs.follows n)
  · rw [if_neg hnm]; exact .inr rfl

/-- A heard code follows the map of the slot (R58, R64). -/
theorem applyNotice {s : State} (hs : HeldWithMap s) (n : Slot) (f : Frame) : HeldWithMap (applyNotice n f s) :=
  hs.commitGrade n _ fun m hm => by
    obtain rfl : s.grades[n].rmap = m := hm
    exact GradeSlot.HeldBy.hear _ _ _ _ (hs n)

theorem takeNotice {s : State} (hs : HeldWithMap s) : HeldWithMap (takeNotice s) :=
  takeNotice_keeps HeldWithMap (fun _ _ hframe hs => hs.of_sameBut hframe) (fun n f _ hs => hs.applyNotice n f) hs

theorem expireNotice {s : State} (hs : HeldWithMap s) (n : Slot) : HeldWithMap (expireNotice n s) := by
  unfold Machine.expireNotice
  split
  · exact (hs.of_sameBut (advanceTo_sameBut s _)).commitGrade n _ fun m hm =>
      GradeSlot.HeldBy.timeOut (hs.follows n m hm)
  · exact hs

theorem takeTriple {s : State} (hs : HeldWithMap s) (k : ShelfId) : HeldWithMap (takeTriple k s) := by
  unfold Machine.takeTriple
  split
  · exact hs
  · refine foldl_keeps _ HeldWithMap (fun n t ht => ?_) _ _ (hs.congr rfl rfl)
    split
    · exact ht.regrade n
    · exact ht

theorem writeCandidate {s : State} (hs : HeldWithMap s) (n : Slot) (bw : BindingWrite) (gw : GradeWrite)
    (fw : FrequencyWrite) : HeldWithMap (writeCandidate n bw gw fw s) := by
  obtain ⟨-, -, hgrades, hframe⟩ := writeCandidate_spec n bw gw fw s _ rfl
  refine hs.of_slots (hframe .rmaps (by decide)) fun j => ?_
  rw [hgrades, getElem_set_fin]
  by_cases hnj : n = j
  · rw [if_pos hnj]
    refine .inl fun m hm => ?_
    obtain ⟨hrmap, -⟩ := GradeSlot.write_fields s.osc s.rmaps[gw.rmap]
      (decide ((Machine.writeCandidate n bw gw fw s).cands[n].kind = .line)) (portOf s.rxPorts n).isSome
      (decide (s.cands[n].kind ≠ bw.kind) || s.cands[n].rebinds bw) gw s.grades[n] _ rfl
    obtain rfl : gw.rmap = m := hrmap.symm.trans hm
    exact GradeSlot.HeldBy.write s.osc s.rmaps[gw.rmap] _ _ _ gw (hs n) fun h => by
      exact congrArg (fun i : MapId => s.rmaps[i].attached) h
  · rw [if_neg hnj]
    exact .inr rfl

theorem runWritePorts {s : State} (hs : HeldWithMap s) (r : Request) : HeldWithMap (runWritePorts r s).state := by
  unfold Machine.runWritePorts
  split
  · obtain ⟨-, -, hgrades, hframe⟩ := applyPorts_spec r.body s
    refine hs.of_slots (hframe .rmaps (by decide)) fun n => ?_
    dsimp only
    rw [hgrades n]
    split
    · exact .inl fun m hm => GradeSlot.HeldBy.clear (g := s.grades[n]) (hs.follows n m hm)
    · exact .inr rfl
  · exact hs

/-- New entries leave a map attached or detached as it was (R63). -/
theorem runWriteReceiveMap {s : State} (hs : HeldWithMap s) (r : Request) :
    HeldWithMap (runWriteReceiveMap r s).state := by
  unfold Machine.runWriteReceiveMap
  dsimp only
  split
  · exact hs
  · refine (heldWithMap_iff _).2 fun n m hm => ?_
    dsimp only
    rw [getElem_set_fin]
    split <;> rename_i hwritten
    · exact hwritten ▸ hs.follows n m hm
    · exact hs.follows n m hm

/-- The records that use the map are held, and the others follow maps that did not move (R64). -/
theorem detachReceive {s : State} (hs : HeldWithMap s) (m : MapId) : HeldWithMap (detachReceive m s) := by
  obtain ⟨hrmaps, hgrades, -⟩ := detachReceive_spec m s
  by_cases hatt : s.rmaps[m].attached = true
  · refine (heldWithMap_iff _).2 fun n i => ?_
    rw [hrmaps, hgrades hatt n, getElem_set_fin]
    by_cases hn : s.grades[n].rmap = m
    · rw [if_pos hn]
      intro hi
      obtain rfl : m = i := hn.symm.trans hi
      rw [if_pos rfl]
      exact ⟨rfl, (hs n).2⟩
    · rw [if_neg hn]
      intro hi
      rw [if_neg fun hmi => hn (hi.trans hmi.symm)]
      exact hs.follows n i hi
  · have hsame : Machine.detachReceive m s = s := if_neg hatt
    rw [hsame]; exact hs

/-- The records that use the map are remapped and no longer held (R65). -/
theorem attachReceive {s : State} (hs : HeldWithMap s) (m : MapId) : HeldWithMap (attachReceive m s) := by
  cases hatt : s.rmaps[m].attached with
  | true =>
    have hsame : Machine.attachReceive m s = s := if_pos hatt
    rw [hsame]; exact hs
  | false =>
    refine (heldWithMap_iff _).2 fun n i => ?_
    rw [(attachReceive_spec m s).1, attachReceive_grades m s hatt n, getElem_set_fin]
    by_cases hn : s.grades[n].rmap = m
    · rw [if_pos hn]
      intro hi
      obtain rfl : m = i := hn.symm.trans ((GradeSlot.remap_rmap _ _ _).symm.trans hi)
      rw [if_pos rfl]
      exact GradeSlot.HeldBy.remap _ _ (hs n)
    · rw [if_neg hn]
      intro hi
      rw [if_neg fun hmi => hn (hi.trans hmi.symm)]
      exact hs.follows n i hi

/-- The restart attaches every map and leaves no record held (R76). -/
theorem deviceRestart (s : State) : HeldWithMap (deviceRestart s) := by
  have hrestarted : HeldWithMap s.restarted := (heldWithMap_iff _).2 fun n m _ => by
    rw [restarted_grades, restarted_rmaps]
    exact ⟨rfl, fun _ => rfl⟩
  exact hrestarted.of_sameBut (deviceRestart_directs s)

end HeldWithMap

theorem exec_keeps_heldWithMap (c : Instr) (s t : State) (h : exec c s = .next t) (hs : HeldWithMap s) :
    HeldWithMap t := by
  have hanswer : ∀ s t : State, sameBut answerParts s t → HeldWithMap s → HeldWithMap t := fun _ _ hframe hs =>
    hs.of_sameBut hframe
  cases c with
  | powerOn | resetLineReleased | transmissionEnd | deviceRestart =>
    exact exec_startsOver_keeps HeldWithMap (fun _ _ _ _ _ => reset_heldWithMap)
      (fun s _ => .deviceRestart s) (fun _ _ hs => hs.congr rfl rfl) rfl h hs
  | receivedGradeNotice => exact hs.takeNotice.of_next h rfl
  | noticeTimerExpiry n => exact (hs.expireNotice n).of_next h rfl
  | tripleHandover k => exact (hs.takeTriple k).of_next h rfl
  | writeCandidate =>
    exact exec_agent_keeps HeldWithMap hanswer h rfl (fun _ _ hs => hs.writeCandidate _ _ _ _) hs
  | writePorts => exact exec_agent_keeps HeldWithMap hanswer h rfl (fun r _ hs => hs.runWritePorts r) hs
  | writeReceiveMap => exact exec_agent_keeps HeldWithMap hanswer h rfl (fun r _ hs => hs.runWriteReceiveMap r) hs
  | detachReceiveMap => exact exec_agent_keeps HeldWithMap hanswer h rfl (fun _ _ hs => hs.detachReceive _) hs
  | attachReceiveMap => exact exec_agent_keeps HeldWithMap hanswer h rfl (fun _ _ hs => hs.attachReceive _) hs
  | _ => exact hs.of_frame h

/-! ### The settled statement -/

/-- Settles O59: every write of a grade record commits it, and every move of a map moves the records that use it. -/
theorem stepKeepsGradesCurrent : Obligations.StepKeepsGradesCurrent :=
  ⟨step_keeps GradesCurrent exec_keeps_gradesCurrent fun _ _ h => h,
    step_keeps HeldWithMap exec_keeps_heldWithMap fun _ _ h => h⟩

end Sys2Proof.Machine
end

section
/-! PROOFS. Writes of port blocks (R53 to R55, R138, R148, R175) and the requests on maps (R63 to R65, R146, R147, R176). -/

namespace Sys2Proof.Machine

-- One theorem after the other: the joined text would otherwise ask for a thread per waiting proof.
set_option Elab.async false

/-- A row that the agent serves under a semaphore answers a request that passes its checks with what the service leaves. -/
theorem guarded_served {row : Instr} {bank : Fin 5} {check : Request → Option Status} {run : Request → State → Served}
    {r : Request} {s : State}
    (hrow : exec row s = .next (serveAgent row (fun r t => guarded bank (check r) r t) run s)) (htaken : Taken row r s)
    (hcheck : check r = none) (hunheld : Unheld bank r s) {o : Served} (ho : run r s = o) :
    ∃ t, exec row s = .next t ∧ Answered r o.status o.body o.state t := by
  have hguard : guarded bank (check r) r s = none := by
    rw [hcheck]
    exact guarded_unheld hunheld
  have hrun := serveAgent_runs (fun r t => guarded bank (check r) r t) run htaken hguard
  exact ⟨_, hrow.trans (congrArg Host.Outcome.next hrun), ho ▸ answer_answered r _⟩

/-! ### WRITE_PORTS -/

/-- Every entry of a block that passes its checks has its indexes and its values in range (R53, R138, R166). -/
theorem entryFor_ok {r : Request} (hcheck : checkWritePorts r = none) {p : PortId} (hp : inBlock r.body p = true) :
    entryIndexOk (entryFor r.body p) = true ∧ entryValueOk (entryFor r.body p) = true := by
  obtain ⟨-, hindex, hvalue⟩ := checkBody_none hcheck
  unfold inBlock at hp
  rw [Bool.and_eq_true, decide_eq_true_eq, decide_eq_true_eq] at hp
  have hmem : p.val - effectiveStart r.body ∈ List.range (blockLength r.body) := List.mem_range.2 (by omega)
  exact ⟨List.all_eq_true.1 hindex _ hmem, List.all_eq_true.1 hvalue _ hmem⟩

/-- An entry in use binds the slot that it names (R53). -/
theorem rxOf_bound {e : List Byte} {n : Slot} (huse : (rxOf e).inUse = true) (hn : byteAt e 1 = n.val) :
    (rxOf e).bound = some n := by
  have hbit : bitAt e 0 0 = true := huse
  unfold rxOf
  dsimp only
  rw [hbit, hn, decide_eq_true n.isLt]
  exact congrArg some (Fin.ext (Nat.mod_eq_of_lt n.isLt))

/-- An entry that names 0xFF binds no slot (R53). -/
theorem rxOf_unbound {e : List Byte} (h : byteAt e 1 = 0xFF) : (rxOf e).bound = none := by
  unfold rxOf
  dsimp only
  rw [h, decide_eq_false (by decide : ¬(0xFF < 24)), Bool.and_false, if_neg Bool.false_ne_true]

/-- The transmit map, the squelch threshold and the fill code of an entry in range are stored as written (R138). -/
theorem txOf_codes {e : List Byte} (hindex : entryIndexOk e = true) (hvalue : entryValueOk e = true) :
    (txOf e).tmap.val = byteAt e 4 ∧ (txOf e).squelch.val = byteAt e 5 ∧ (txOf e).fill.val = byteAt e 6 := by
  unfold entryIndexOk at hindex
  unfold entryValueOk at hvalue
  rw [Bool.and_eq_true, decide_eq_true_eq] at hindex hvalue
  rw [decide_eq_true_eq] at hvalue
  obtain ⟨-, hmap⟩ := hindex
  obtain ⟨hsquelch, hfill⟩ := hvalue
  exact ⟨Nat.mod_eq_of_lt hmap, Nat.mod_eq_of_lt hsquelch, Nat.mod_eq_of_lt hfill⟩

/-- What a stored port of the block holds: the receive half as written (R53), the transmit half as written but for the
interval (R138), and the Notice Unit's copies of use and binding (R148). -/
theorem applyPorts_stored (r : Request) (s : State) (hcheck : checkWritePorts r = none) {p : PortId}
    (hp : inBlock r.body p = true) {u : State} (hu : u = applyPorts r.body s) :
    u.rxPorts[p] = rxOf (entryFor r.body p) ∧ u.txPorts[p].inUse = u.rxPorts[p].inUse ∧
      u.txPorts[p].bound = u.rxPorts[p].bound ∧ u.txPorts[p].address = addressAt (entryFor r.body p) 2 ∧
      u.txPorts[p].tmap.val = byteAt (entryFor r.body p) 4 ∧ u.txPorts[p].squelch.val = byteAt (entryFor r.body p) 5 ∧
      u.txPorts[p].fill.val = byteAt (entryFor r.body p) 6 ∧
      u.txPorts[p].intervalS = max 1 (min (byteAt (entryFor r.body p) 7) 10) ∧
      u.txPorts[p].pathOn = bitAt (entryFor r.body p) 0 2 := by
  obtain ⟨hports, hwritten, -⟩ := applyPorts_spec r.body s
  rw [← hu] at hports hwritten
  obtain ⟨huse, hbound, haddress, hmap, hsquelch, hfill, hinterval, hpath⟩ := (hwritten p).1 hp
  obtain ⟨hindex, hvalue⟩ := entryFor_ok hcheck hp
  obtain ⟨hmapCode, hsquelchCode, hfillCode⟩ := txOf_codes hindex hvalue
  refine ⟨?_, huse, hbound, haddress, ?_, ?_, ?_, hinterval, hpath⟩
  · rw [hports, writtenPorts_at, if_pos hp]
  · rw [hmap, hmapCode]
  · rw [hsquelch, hsquelchCode]
  · rw [hfill, hfillCode]

/-- The record of a slot whose binding changed (R55, R59, R60). -/
theorem rebound_eq (now : Nat) (line : Prop) [Decidable line] (bound : Bool) (g : GradeSlot) (eff : Grade) :
    { g.rebound now (decide line) bound with eff := eff } =
      { g with
        code := .pending
        path := none
        mapped := 15
        timer := if line ∧ bound = true then some (now + g.timeoutS * 125000000) else none
        eff := eff } := by
  simp only [GradeSlot.rebound, GradeSlot.clear, bindTimer_eq, decide_eq_true_eq]

/-- Settles O42: a conflict leaves the state as it is; else the receive halves are stored and the transmit halves written in
table order. -/
theorem portWriteStores : Obligations.PortWriteStores := by
  intro r s htaken hcheck hunheld
  refine ⟨fun hconflict => ?_, fun hunique => ?_⟩
  · have hrun : runWritePorts r s = ⟨s, .inConflict, []⟩ := if_neg hconflict
    exact guarded_served (check := checkWritePorts) (run := runWritePorts) rfl htaken hcheck hunheld hrun
  · have hrun : runWritePorts r s =
        ⟨applyPorts r.body s, doneStatus (portsClamped r.body), [byteOf (effectiveStart r.body)]⟩ := if_pos hunique
    obtain ⟨t, hexec, hanswered⟩ := guarded_served rfl htaken hcheck hunheld hrun
    dsimp only at hanswered
    obtain ⟨hports, hwritten, hgrades, hframe⟩ := applyPorts_spec r.body s
    obtain ⟨v, hv, hvframe, horder⟩ := applyPorts_order r.body s
    refine ⟨applyPorts r.body s, t, hexec, hanswered, fun p hp => ?stored, ⟨v, hv.trans hports.symm, hvframe, horder⟩,
      fun p hp => ⟨?outside, (hwritten p).2 hp⟩, fun n hmoved hbinds => ?rebound, fun n hkept => ?kept, hframe⟩
    case stored =>
      obtain ⟨hrx, htx⟩ := applyPorts_stored r s hcheck hp rfl
      rw [hrx] at htx ⊢
      exact ⟨rfl, rfl, rxOf_unused, fun n huse hn => rxOf_bound huse hn, rxOf_unbound, htx⟩
    case outside =>
      rw [hports, writtenPorts_at, if_neg (by rw [hp]; exact Bool.false_ne_true)]
    case rebound =>
      rw [hgrades n, if_pos ⟨Ne.symm hmoved, hbinds⟩]
      exact rebound_eq _ _ _ _ _
    case kept =>
      rw [hgrades n, if_neg]
      rintro ⟨hmoved, hbinds⟩
      rcases hkept with hsame | ⟨hnone, hline⟩
      · exact hmoved hsame.symm
      · rw [hnone] at hbinds
        exact hbinds.elim Bool.noConfusion hline

/-! ### The requests on maps -/

/-- The entries that a write of a map stores (R63, R146). -/
theorem mapEntries_val {r : Request} (hcheck : checkWriteMap r = none) (c : Fin 16) :
    (mapEntries r.body)[c].val = byteAt r.body (2 + c.val) := by
  have hentry : (mapEntries r.body)[c] = Fin.ofNat 16 (byteAt r.body (2 + c.val)) := Vector.getElem_ofFn ..
  rw [hentry]
  exact Nat.mod_eq_of_lt (checkWriteMap_entries hcheck c)

theorem mapBody_eq {r : Request} {m : MapId} (h : byteAt r.body 1 = m.val) :
    mapBody r.body = [byteOf (byteAt r.body 0), byteOf m.val] := by
  unfold mapBody
  rw [h]

/-- The maps with the entries of a WRITE_MAP stored in map m (R63, R146). -/
def withEntries (maps : Vector GradeMap 4) (m : MapId) (r : Request) : Vector GradeMap 4 :=
  maps.set m { maps[m] with entries := mapEntries r.body }

/-- What the maps hold after a WRITE_MAP: the entries written, and everything else as it was. -/
theorem withEntries_stored (maps : Vector GradeMap 4) (m : MapId) {r : Request} (hcheck : checkWriteMap r = none) :
    (∀ c : Fin 16, (withEntries maps m r)[m].entries[c].val = byteAt r.body (2 + c.val)) ∧
      (withEntries maps m r)[m].attached = maps[m].attached ∧ ∀ j : MapId, j ≠ m → (withEntries maps m r)[j] = maps[j] := by
  have hm : (withEntries maps m r)[m] = { maps[m] with entries := mapEntries r.body } := by
    unfold withEntries
    rw [getElem_set_fin, if_pos rfl]
  refine ⟨fun c => ?_, by rw [hm], fun j hj => ?_⟩
  · rw [hm]
    exact mapEntries_val hcheck c
  · unfold withEntries
    rw [getElem_set_fin, if_neg (Ne.symm hj)]

/-- DETACH_MAP and ATTACH_MAP are answered DONE with direction and number, whatever the map's state was (R176). -/
theorem map_served {row : Instr} {act : MapId → State → State} {r : Request} {m : MapId} {s : State}
    (hrow : exec row s = .next (serveMap row act s)) (hm : byteAt r.body 1 = m.val) (htaken : Taken row r s)
    (hcheck : checkMap r = none) (hunheld : Unheld 3 r s) :
    ∃ t, exec row s = .next t ∧ Answered r .done [byteOf (byteAt r.body 0), byteOf m.val] (act m s) t := by
  have hrun : (⟨act (mapOf r.body) s, .done, mapBody r.body⟩ : Served) =
      ⟨act m s, .done, [byteOf (byteAt r.body 0), byteOf m.val]⟩ := by rw [mapOf_eq hm, mapBody_eq hm]
  exact guarded_served hrow htaken hcheck hunheld hrun

theorem detachReceive_detached {m : MapId} {s : State} (h : s.rmaps[m].attached = false) : detachReceive m s = s :=
  if_neg (by rw [h]; exact Bool.false_ne_true)

theorem attachReceive_attached {m : MapId} {s : State} (h : s.rmaps[m].attached = true) : attachReceive m s = s := if_pos h

theorem attachTransmit_attached {m : MapId} {s : State} (h : s.tmaps[m].attached = true) : attachTransmit m s = s :=
  if_pos h

theorem rmaps_sameBut (s : State) (maps : Vector GradeMap 4) : sameBut [.rmaps] s { s with rmaps := maps } := by
  intro p hp; cases p <;> simp_all [Part.same]

theorem tmaps_sameBut (s : State) (maps : Vector GradeMap 4) : sameBut [.tmaps] s { s with tmaps := maps } := by
  intro p hp; cases p <;> simp_all [Part.same]

/-- A detached transmit map comes back with a comparison of the ports in use that use it (R141, R147). -/
theorem attachTransmit_compares {m : MapId} {s : State} (h : s.tmaps[m].attached = false) :
    sameBut [.txPorts, .fabric] { s with tmaps := s.tmaps.set m { s.tmaps[m] with attached := true } }
        (attachTransmit m s) ∧
      inOrder portCompared ((List.finRange 256).filter fun p => s.txPorts[p].inUse && decide (s.txPorts[p].tmap = m))
        { s with tmaps := s.tmaps.set m { s.tmaps[m] with attached := true } } (attachTransmit m s) := by
  have hrun : attachTransmit m s = _ := if_neg (by rw [h]; exact Bool.false_ne_true)
  rw [hrun]
  obtain ⟨hframe, horder, -⟩ := overPorts_recompute
    (fun p t => t.txPorts[p].inUse && decide (t.txPorts[p].tmap = m))
    { s with tmaps := s.tmaps.set m { s.tmaps[m] with attached := true } } fun p t ht => by
      obtain ⟨huse, hmap⟩ := ht.2 p
      dsimp only
      rw [huse, hmap]
  exact ⟨hframe, horder⟩

/-- After ATTACH_MAP the transmit map is attached, whatever it was (R147). -/
theorem attachTransmit_tmaps (m : MapId) (s : State) :
    (attachTransmit m s).tmaps = s.tmaps.set m { s.tmaps[m] with attached := true } ∧
      sameBut [.tmaps, .txPorts, .fabric] s (attachTransmit m s) := by
  cases hatt : s.tmaps[m].attached with
  | true =>
    rw [attachTransmit_attached hatt, ← hatt]
    refine ⟨?_, sameBut.refl _ _⟩
    have hsame : s.tmaps.set m s.tmaps[m] = s.tmaps := by simp
    exact hsame.symm
  | false =>
    obtain ⟨hframe, -⟩ := attachTransmit_compares hatt
    exact ⟨hframe .tmaps (by decide), (tmaps_sameBut s _).andThen hframe⟩

/-- Settles O43, request by request. -/
theorem mapRequestsServed : Obligations.MapRequestsServed := by
  intro r m s hm hunheld
  refine ⟨fun htaken hcheck => ?writeReceive, fun htaken hcheck => ?writeTransmit, fun htaken hcheck => ?detachReceive,
    fun htaken hcheck => ?attachReceive, fun htaken hcheck => ?detachTransmit, fun htaken hcheck => ?attachTransmit⟩
  case writeReceive =>
    obtain rfl : mapOf r.body = m := mapOf_eq hm
    by_cases hatt : s.rmaps[mapOf r.body].attached = true
    · have hrun : runWriteReceiveMap r s = ⟨s, .notDetached, []⟩ := if_pos hatt
      obtain ⟨t, hexec, hanswered⟩ := guarded_served rfl htaken hcheck hunheld hrun
      exact ⟨s, t, hexec, (if_pos hatt).mpr ⟨rfl, hanswered⟩⟩
    · have hrun : runWriteReceiveMap r s =
          ⟨{ s with rmaps := withEntries s.rmaps (mapOf r.body) r }, .done, mapBody r.body⟩ := if_neg hatt
      rw [mapBody_eq hm] at hrun
      obtain ⟨t, hexec, hanswered⟩ := guarded_served rfl htaken hcheck hunheld hrun
      obtain ⟨hentries, hkept, hothers⟩ := withEntries_stored s.rmaps (mapOf r.body) hcheck
      exact ⟨_, t, hexec, (if_neg hatt).mpr ⟨hanswered, hentries, hkept.trans (Bool.eq_false_iff.2 hatt), hothers,
        rmaps_sameBut s _⟩⟩
  case writeTransmit =>
    obtain rfl : mapOf r.body = m := mapOf_eq hm
    by_cases hatt : s.tmaps[mapOf r.body].attached = true
    · have hrun : runWriteTransmitMap r s = ⟨s, .notDetached, []⟩ := if_pos hatt
      obtain ⟨t, hexec, hanswered⟩ := guarded_served rfl htaken hcheck hunheld hrun
      exact ⟨s, t, hexec, (if_pos hatt).mpr ⟨rfl, hanswered⟩⟩
    · have hrun : runWriteTransmitMap r s =
          ⟨{ s with tmaps := withEntries s.tmaps (mapOf r.body) r }, .done, mapBody r.body⟩ := if_neg hatt
      rw [mapBody_eq hm] at hrun
      obtain ⟨t, hexec, hanswered⟩ := guarded_served rfl htaken hcheck hunheld hrun
      obtain ⟨hentries, hkept, hothers⟩ := withEntries_stored s.tmaps (mapOf r.body) hcheck
      exact ⟨_, t, hexec, (if_neg hatt).mpr ⟨hanswered, hentries, hkept.trans (Bool.eq_false_iff.2 hatt), hothers,
        tmaps_sameBut s _⟩⟩
  case detachReceive =>
    obtain ⟨t, hexec, hanswered⟩ := map_served rfl hm htaken hcheck hunheld
    obtain ⟨hmaps, hheld, hframe⟩ := detachReceive_spec m s
    exact ⟨_, t, hexec, hanswered, hmaps, hheld, detachReceive_detached, hframe⟩
  case attachReceive =>
    obtain ⟨t, hexec, hanswered⟩ := map_served rfl hm htaken hcheck hunheld
    obtain ⟨hmaps, hmapped, hothers, hframe⟩ := attachReceive_spec m s
    exact ⟨_, t, hexec, hanswered, hmaps, hmapped, hothers, attachReceive_attached, hframe⟩
  case detachTransmit =>
    obtain ⟨t, hexec, hanswered⟩ := map_served rfl hm htaken hcheck hunheld
    exact ⟨_, t, hexec, hanswered, rfl, tmaps_sameBut s _⟩
  case attachTransmit =>
    obtain ⟨t, hexec, hanswered⟩ := map_served rfl hm htaken hcheck hunheld
    obtain ⟨hmaps, hframe⟩ := attachTransmit_tmaps m s
    exact ⟨_, t, hexec, hanswered, hmaps, attachTransmit_attached, fun hatt => (attachTransmit_compares hatt).2, hframe⟩

end Sys2Proof.Machine
end

section
/-! PROOFS. Refused requests (R166, R169): the checks of every request row, the limits that they enforce, and the answer to a
request that a check or a semaphore refuses. -/

namespace Sys2Proof.Machine

-- One theorem after the other: the joined text would otherwise ask for a thread per waiting proof.
set_option Elab.async false

/-! ### The checks of every request row -/

/-- The length, index and value checks that a request row makes (R166). -/
def rowCheck : Instr → Request → Option Status
  | .identify | .restart | .clearRestartRecord => checkEmpty
  | .readTable => checkReadTable
  | .readStatusCandidate | .readStatusShelf | .readStatusPort => checkReadStatus
  | .writeCandidate => checkWriteCandidate
  | .writeListEntry => checkWriteListEntry
  | .writeShelf => checkWriteShelf
  | .writePorts => checkWritePorts
  | .writeReceiveMap | .writeTransmitMap => checkWriteMap
  | .detachReceiveMap | .attachReceiveMap | .detachTransmitMap | .attachTransmitMap => checkMap
  | .writeNode => checkWriteNode
  | .take | .release => checkBank
  | .commandHold | .commandForce | .commandManual | .commandClear | .commandLockout => checkCommand
  | .park | .unpark | .sliceReset => checkSlice
  | .clearMarks => checkClearMarks
  | .ackEvents => checkAckEvents
  | _ => fun _ => none

/-- The bank whose semaphore a request row is subject to (R169, Table 10-9). -/
def rowBank : Instr → Option (Fin 5)
  | .writeCandidate => some 0
  | .writeListEntry | .writeShelf => some 1
  | .writePorts => some 2
  | .writeReceiveMap | .writeTransmitMap | .detachReceiveMap | .attachReceiveMap | .detachTransmitMap
  | .attachTransmitMap => some 3
  | .writeNode | .restart | .clearRestartRecord => some 4
  | _ => none

/-- What refuses a request of a row: a check, or the semaphore of the row's bank (R166, R169). -/
def rowRefusal (row : Instr) (r : Request) (s : State) : Option RefusalAnswer :=
  match rowBank row with
  | some bank => guarded bank (rowCheck row r) r s
  | none => unguarded (rowCheck row r)

/-- A row that the agent serves, on a request of its own that is refused. -/
theorem agent_refused {row : Instr} {check : Request → State → Option RefusalAnswer} {run : Request → State → Served}
    {r : Request} {s : State} {q : RefusalAnswer} (hrow : exec row s = .next (serveAgent row check run s))
    (htaken : Taken row r s) (hq : check r s = some q) : ∃ t, exec row s = .next t ∧ Answered r q.1 q.2 s t :=
  ⟨_, hrow.trans (congrArg Host.Outcome.next (serveAgent_refuses check run q htaken hq)), answer_answered r ⟨s, q.1, q.2⟩⟩

/-- A row that the engine serves, on a request of its own that is refused. -/
theorem engine_refused {row : Instr} {check : Request → State → Option RefusalAnswer} {run : Request → State → Served}
    {r : Request} {s : State} {q : RefusalAnswer} (hrow : exec row s = .next (serveEngine row check run s))
    (htaken : Taken row r s) (hq : check r s = some q) : ∃ t, exec row s = .next t ∧ Answered r q.1 q.2 s t :=
  ⟨_, hrow.trans (congrArg Host.Outcome.next (serveEngine_refuses check run q htaken hq)), answer_answered r ⟨s, q.1, q.2⟩⟩

/-- RESTART, on a request of its own that is refused. -/
theorem serveRestart_refuses {r : Request} {s : State} {q : RefusalAnswer} (htaken : Taken .restart r s)
    (hq : guarded bankNode (checkEmpty r) r s = some q) : serveRestart s = answer r ⟨s, q.1, q.2⟩ := by
  obtain ⟨hphase, f, rest, hqueue, hrow, hrequest⟩ := htaken
  simp [serveRestart, hphase, hqueue, hrow, hrequest, hq]

/-- Every request row answers a refused request with the refusal, and changes nothing else (R166). -/
theorem exec_refused {row : Instr} {r : Request} {s : State} {q : RefusalAnswer} (htaken : Taken row r s)
    (hq : rowRefusal row r s = some q) : ∃ t, exec row s = .next t ∧ Answered r q.1 q.2 s t := by
  cases row with
  | identify | readTable | readStatusCandidate | readStatusShelf | readStatusPort | writeCandidate | writePorts
  | writeReceiveMap | writeTransmitMap | detachReceiveMap | attachReceiveMap | detachTransmitMap | attachTransmitMap
  | writeNode | take | release | ackEvents | clearRestartRecord => exact agent_refused rfl htaken hq
  | writeListEntry | writeShelf | commandHold | commandForce | commandManual | commandClear | commandLockout | park
  | unpark | sliceReset | clearMarks => exact engine_refused rfl htaken hq
  | restart => exact ⟨_, congrArg Host.Outcome.next (serveRestart_refuses htaken hq), answer_answered r ⟨s, q.1, q.2⟩⟩
  | _ => cases hq

/-- A request that fails a check is answered with the check's status (R166). -/
theorem exec_checked {row : Instr} {r : Request} {s : State} {st : Status} (htaken : Taken row r s)
    (hcheck : rowCheck row r = some st) : ∃ t, exec row s = .next t ∧ Answered r st [] s t := by
  refine exec_refused (q := (st, [])) htaken ?_
  unfold rowRefusal
  rw [hcheck]
  split <;> rfl

/-- A request that passes its checks, but whose bank another address holds, is answered HELD (R169). -/
theorem exec_held {row : Instr} {r : Request} {s : State} {bank : Fin 5} {a : Address} (htaken : Taken row r s)
    (hbank : rowBank row = some bank) (hcheck : rowCheck row r = none) (hheld : s.agent.sems[bank] = some a)
    (hother : a ≠ r.source) : ∃ t, exec row s = .next t ∧ Answered r .held (beBytes 2 a.toNat) s t := by
  refine exec_refused (q := (.held, beBytes 2 a.toNat)) htaken ?_
  unfold rowRefusal
  rw [hbank, hcheck]
  exact guarded_held hheld hother

/-! ### Checks and limits -/

/-- A check refuses what the limits say: a wrong length, then an index out of range, then a value out of range (R166). -/
def Enforces (check : Option Status) (length index value : Prop) : Prop :=
  (¬length → check = some .badLength) ∧ (length → index → check = some .badIndex) ∧
    (length → ¬index → value → check = some .badValue)

/-- The check of a body enforces the limits that its three tests decide. -/
theorem checkBody_enforces {a b c : Bool} {length index value : Prop} (ha : a = true ↔ length)
    (hb : b = true ↔ ¬index) (hc : c = true ↔ ¬value) : Enforces (checkBody a b c) length index value := by
  refine ⟨fun hlength => ?_, fun hlength hindex => ?_, fun hlength hindex hvalue => ?_⟩
  · rw [Bool.eq_false_iff.2 fun h => hlength (ha.1 h)]
    rfl
  · rw [ha.2 hlength, Bool.eq_false_iff.2 fun h => hb.1 h hindex]
    rfl
  · rw [ha.2 hlength, hb.2 hindex, Bool.eq_false_iff.2 fun h => hc.1 h hvalue]
    rfl

/-- A body of another length than its check asks for. -/
theorem checkBody_short {n : Nat} {body : List Byte} (h : body.length ≠ n) (b c : Bool) :
    checkBody (decide (body.length = n)) b c = some .badLength := by
  rw [decide_eq_false h]
  rfl

/-- A test of every index below n passes when no index fails it. -/
theorem range_all_iff {n : Nat} {p : Nat → Bool} {bad : Nat → Prop} (h : ∀ i, p i = true ↔ ¬bad i) :
    (List.range n).all p = true ↔ ¬∃ i, i < n ∧ bad i := by
  simp only [List.all_eq_true, List.mem_range, h, not_exists, not_and]

/-! ### The limits row by row (Table 10-10) -/

theorem tableSize_isSome (table : Nat) : (tableSize table).isSome = true ↔ table < 5 := by
  match table with
  | 0 | 1 | 2 | 3 | 4 => decide
  | _ + 5 => simp only [tableSize, Option.isSome_none, Bool.false_eq_true, false_iff]; omega

theorem checkReadTable_enforces (r : Request) :
    Enforces (checkReadTable r) (r.body.length = 3)
      (byteAt r.body 0 = 0 ∧ 24 ≤ byteAt r.body 1 ∨ byteAt r.body 0 = 1 ∧ 16 ≤ byteAt r.body 1 ∨
        byteAt r.body 0 = 3 ∧ 8 ≤ byteAt r.body 1 ∨ byteAt r.body 0 = 4 ∧ 1 ≤ byteAt r.body 1)
      (5 ≤ byteAt r.body 0 ∨ byteAt r.body 2 = 0 ∨ 16 < byteAt r.body 2) := by
  have hbyte := byteAt_lt r.body 1
  unfold checkReadTable
  generalize byteAt r.body 0 = table
  refine checkBody_enforces decide_eq_true_iff ?_ ?_
  · match table with
    | 0 | 1 | 2 | 3 | 4 => simp only [tableSize, decide_eq_true_eq, true_and]; omega
    | _ + 5 => simp only [tableSize, true_iff]; omega
  · rw [Bool.and_eq_true, Bool.and_eq_true, tableSize_isSome, decide_eq_true_eq, decide_eq_true_eq]
    omega

theorem checkReadStatus_enforces (r : Request) :
    Enforces (checkReadStatus r) (r.body.length = 2)
      (byteAt r.body 0 = 0 ∧ 24 ≤ byteAt r.body 1 ∨ byteAt r.body 0 = 1 ∧ 16 ≤ byteAt r.body 1)
      (3 ≤ byteAt r.body 0) := by
  refine checkBody_enforces decide_eq_true_iff ?_ (by rw [decide_eq_true_eq]; omega)
  split
  · rw [decide_eq_true_eq]; omega
  · split
    · rw [decide_eq_true_eq]; omega
    · simp only [true_iff]; omega

theorem checkWriteCandidate_enforces (r : Request) :
    Enforces (checkWriteCandidate r) (r.body.length = 18)
      (24 ≤ byteAt r.body 0 ∨ 16 ≤ byteAt r.body 2 ∨ 4 ≤ byteAt r.body 8)
      (4 ≤ byteAt r.body 1 ∨ 16 ≤ byteAt r.body 9 ∨ 16 ≤ byteAt r.body 10) := by
  refine checkBody_enforces decide_eq_true_iff ?_ ?_
  · simp only [Bool.and_eq_true, decide_eq_true_eq]; omega
  · simp only [Bool.and_eq_true, decide_eq_true_eq]; omega

theorem checkWriteListEntry_enforces (r : Request) :
    Enforces (checkWriteListEntry r) (r.body.length = 6) (8 ≤ byteAt r.body 2 ∨ 24 ≤ byteAt r.body 3)
      (16 ≤ byteAt r.body 4) := by
  refine checkBody_enforces decide_eq_true_iff ?_ ?_
  · simp only [Bool.and_eq_true, decide_eq_true_eq]; omega
  · rw [decide_eq_true_eq]; omega

theorem checkWriteShelf_enforces (r : Request) :
    Enforces (checkWriteShelf r) (r.body.length = 15) False
      (2 ≤ byteAt r.body 2 ∨ 16 ≤ byteAt r.body 11 ∨ 16 ≤ byteAt r.body 12 ∨ 1440 < numAt r.body 13 2) := by
  refine checkBody_enforces decide_eq_true_iff (iff_of_true rfl id) ?_
  simp only [Bool.and_eq_true, decide_eq_true_eq]; omega

theorem entryIndexOk_iff (e : List Byte) :
    entryIndexOk e = true ↔
      ¬(bitAt e 0 0 = true ∧ 24 ≤ byteAt e 1 ∧ byteAt e 1 ≠ 0xFF ∨ 4 ≤ byteAt e 4) := by
  unfold entryIndexOk
  rw [Bool.and_eq_true, Bool.or_eq_true, Bool.or_eq_true, Bool.not_eq_true', decide_eq_true_eq, decide_eq_true_eq,
    decide_eq_true_eq, ← Bool.not_eq_true]
  by_cases huse : bitAt e 0 0 = true
  · simp only [huse, not_true_eq_false, false_or, true_and]; omega
  · simp only [huse, Bool.false_eq_true, not_false_eq_true, true_or, false_and, false_or, true_and]; omega

theorem entryValueOk_iff (e : List Byte) : entryValueOk e = true ↔ ¬(16 ≤ byteAt e 5 ∨ 16 ≤ byteAt e 6) := by
  unfold entryValueOk
  simp only [Bool.and_eq_true, decide_eq_true_eq]; omega

theorem checkWritePorts_enforces (r : Request) :
    Enforces (checkWritePorts r)
      ((byteAt r.body 1 = 1 ∨ byteAt r.body 1 = 4 ∨ byteAt r.body 1 = 16) ∧ r.body.length = 2 + 8 * byteAt r.body 1)
      (∃ i, i < byteAt r.body 1 ∧
        (bitAt (portEntryBytes r.body i) 0 0 = true ∧ 24 ≤ byteAt (portEntryBytes r.body i) 1 ∧
            byteAt (portEntryBytes r.body i) 1 ≠ 0xFF ∨ 4 ≤ byteAt (portEntryBytes r.body i) 4))
      (∃ i, i < byteAt r.body 1 ∧
        (16 ≤ byteAt (portEntryBytes r.body i) 5 ∨ 16 ≤ byteAt (portEntryBytes r.body i) 6)) := by
  refine checkBody_enforces ?_ (range_all_iff fun i => entryIndexOk_iff _) (range_all_iff fun i => entryValueOk_iff _)
  rw [Bool.and_eq_true, decide_eq_true_eq, decide_eq_true_eq]
  rfl

theorem checkWriteMap_enforces (r : Request) :
    Enforces (checkWriteMap r) (r.body.length = 18) (4 ≤ byteAt r.body 1)
      (2 ≤ byteAt r.body 0 ∨ ∃ i, i < 16 ∧ 16 ≤ byteAt r.body (2 + i)) := by
  refine checkBody_enforces decide_eq_true_iff (by rw [decide_eq_true_eq]; omega) ?_
  rw [Bool.and_eq_true, decide_eq_true_eq,
    range_all_iff (bad := fun i => 16 ≤ byteAt r.body (2 + i)) fun i => by rw [decide_eq_true_eq]; omega, not_or, not_le]

theorem checkMap_enforces (r : Request) :
    Enforces (checkMap r) (r.body.length = 2) (4 ≤ byteAt r.body 1) (2 ≤ byteAt r.body 0) :=
  checkBody_enforces decide_eq_true_iff (by rw [decide_eq_true_eq]; omega) (by rw [decide_eq_true_eq]; omega)

theorem checkBank_enforces (r : Request) : Enforces (checkBank r) (r.body.length = 1) False (5 ≤ byteAt r.body 0) :=
  checkBody_enforces decide_eq_true_iff (iff_of_true rfl id) (by rw [decide_eq_true_eq]; omega)

theorem checkCommand_enforces (r : Request) :
    Enforces (checkCommand r) (r.body.length = 4) (16 ≤ byteAt r.body 0 ∨ 8 ≤ byteAt r.body 2)
      (byteAt r.body 1 = 0 ∨ 5 < byteAt r.body 1) := by
  refine checkBody_enforces decide_eq_true_iff ?_ ?_
  · simp only [Bool.and_eq_true, decide_eq_true_eq]; omega
  · simp only [Bool.and_eq_true, decide_eq_true_eq]; omega

theorem checkSlice_enforces (r : Request) :
    Enforces (checkSlice r) (r.body.length = 3) False (byteAt r.body 2 = 0 ∨ 3 < byteAt r.body 2) := by
  refine checkBody_enforces decide_eq_true_iff (iff_of_true rfl id) ?_
  simp only [Bool.and_eq_true, decide_eq_true_eq]; omega

/-- A pair has its index out of range when its kind is one of the candidates', the shelves' or the part's and the index is
not below 24, 16 or 1 (R179). -/
theorem pairIndexBad_iff (code index : Nat) :
    pairIndexBad (code, index) = true ↔
      1 ≤ code ∧ code ≤ 4 ∧ 24 ≤ index ∨ 5 ≤ code ∧ code ≤ 10 ∧ 16 ≤ index ∨ 11 ≤ code ∧ code ≤ 13 ∧ 1 ≤ index := by
  unfold pairIndexBad latchOf
  rw [Bool.and_eq_true, Bool.and_eq_true, decide_eq_true_eq, decide_eq_true_eq]
  dsimp only
  split
  · simp only [Option.isNone_some, Bool.false_eq_true, and_false, false_iff]; omega
  · split
    · simp only [Option.isNone_some, Bool.false_eq_true, and_false, false_iff]; omega
    · split
      · simp only [Option.isNone_some, Bool.false_eq_true, and_false, false_iff]; omega
      · simp only [Option.isNone_none, and_true]; omega

theorem pairKindBad_iff (code index : Nat) : pairKindBad (code, index) = true ↔ code = 0 ∨ 13 < code := by
  unfold pairKindBad
  rw [Bool.or_eq_true, decide_eq_true_eq, decide_eq_true_eq]

/-- No pair of an ACK_EVENTS is bad when the test finds none. -/
theorem ackPairs_none_iff (b : List Byte) {p : Nat × Nat → Bool} {bad : Nat → Prop}
    (h : ∀ i, p (byteAt b (1 + 2 * i), byteAt b (2 + 2 * i)) = true ↔ bad i) :
    (!(ackPairs b).any p) = true ↔ ¬∃ i, i < byteAt b 0 ∧ bad i := by
  unfold ackPairs
  rw [Bool.not_eq_true', ← Bool.not_eq_true, List.any_map, List.any_eq_true]
  simp only [List.mem_range, Function.comp, h]

theorem checkAckEvents_enforces (r : Request) :
    Enforces (checkAckEvents r) (r.body.length = 1 + 2 * byteAt r.body 0)
      (byteAt r.body 0 < 80 ∧ ∃ i, i < byteAt r.body 0 ∧
        (1 ≤ byteAt r.body (1 + 2 * i) ∧ byteAt r.body (1 + 2 * i) ≤ 4 ∧ 24 ≤ byteAt r.body (2 + 2 * i) ∨
          5 ≤ byteAt r.body (1 + 2 * i) ∧ byteAt r.body (1 + 2 * i) ≤ 10 ∧ 16 ≤ byteAt r.body (2 + 2 * i) ∨
          11 ≤ byteAt r.body (1 + 2 * i) ∧ byteAt r.body (1 + 2 * i) ≤ 13 ∧ 1 ≤ byteAt r.body (2 + 2 * i)))
      (80 ≤ byteAt r.body 0 ∨ ∃ i, i < byteAt r.body 0 ∧
        (byteAt r.body (1 + 2 * i) = 0 ∨ 13 < byteAt r.body (1 + 2 * i))) := by
  unfold checkAckEvents
  dsimp only
  split <;> rename_i hlength
  · exact ⟨fun _ => rfl, fun h => absurd h hlength, fun h => absurd h hlength⟩
  have hlength : r.body.length = 1 + 2 * byteAt r.body 0 := not_ne_iff.1 hlength
  split <;> rename_i hcount
  · exact ⟨fun h => absurd hlength h, fun _ hindex => absurd hindex.1 (Nat.not_lt.2 hcount), fun _ _ _ => rfl⟩
  · refine checkBody_enforces (iff_of_true rfl hlength) ?_ ?_
    · rw [ackPairs_none_iff r.body fun i => pairIndexBad_iff _ _, and_iff_right (Nat.not_le.1 hcount)]
    · rw [ackPairs_none_iff r.body fun i => pairKindBad_iff _ _, or_iff_right hcount]

/-- The checks of the rows enforce their limits. -/
theorem requestLimits_enforced :
    ∀ q ∈ requestLimits, ∀ r : Request,
      Enforces (rowCheck q.1 r) (q.2.1 r.body) (q.2.2.1 r.body) (q.2.2.2 r.body) := by
  unfold requestLimits
  simp only [List.forall_mem_cons]
  exact ⟨checkReadTable_enforces, checkReadStatus_enforces, checkReadStatus_enforces, checkReadStatus_enforces,
    checkWriteCandidate_enforces, checkWriteListEntry_enforces, checkWriteShelf_enforces, checkWritePorts_enforces,
    checkWriteMap_enforces, checkWriteMap_enforces, checkMap_enforces, checkMap_enforces, checkMap_enforces,
    checkMap_enforces, checkBank_enforces, checkBank_enforces, checkCommand_enforces, checkCommand_enforces,
    checkCommand_enforces, checkCommand_enforces, checkCommand_enforces, checkSlice_enforces, checkSlice_enforces,
    checkSlice_enforces, checkAckEvents_enforces, fun _ h => absurd h List.not_mem_nil⟩

/-! ### The settled statement -/

/-- Settles O36: each row's check enforces its limits, and a refusal changes nothing. -/
theorem refusedRequestsNotApplied : Obligations.RefusedRequestsNotApplied := by
  refine ⟨fun q hq r s htaken hlength => exec_checked htaken ?_, fun q hq r s htaken => ?_,
    fun q hq r a s htaken hcheck hheld hother => ?_⟩
  · fin_cases hq <;> exact checkBody_short hlength _ _
  · obtain ⟨hlength, hindex, hvalue⟩ := requestLimits_enforced q hq r
    exact ⟨fun h => exec_checked htaken (hlength h), fun hl h => exec_checked htaken (hindex hl h),
      fun hl hi h => exec_checked htaken (hvalue hl hi h)⟩
  · have hrow : rowBank q.1 = some q.2.1 ∧ rowCheck q.1 = q.2.2 := by fin_cases hq <;> exact ⟨rfl, rfl⟩
    exact exec_held htaken hrow.1 (hrow.2 ▸ hcheck) hheld hother

end Sys2Proof.Machine
end

section
/-! PROOFS. The cascade of target records (R80, R89, R92): no event but an evaluation stores a target that was not there, and
the target that an evaluation stores closes no loop (O56). -/

namespace Sys2Proof.Machine

-- One theorem after the other: the joined text would otherwise ask for a thread per waiting proof.
set_option Elab.async false

/-! ### The cascade as a walk -/

/-- The shelf that shelf k takes its time from, when its target is of kind SHELF (R80, R89). -/
def timedBy (s : State) (k : ShelfId) : Option ShelfId :=
  match s.shelves[k].target with
  | none => none
  | some x => if x.kind = .shelf then some x.source else none

/-- One step of the walk over the target records (R89). -/
def walkStep (s : State) (o : Option ShelfId) : Option ShelfId := o.bind (timedBy s)

theorem timedBy_congr {s t : State} {k : ShelfId} (h : t.shelves[k].target = s.shelves[k].target) :
    timedBy t k = timedBy s k := by
  unfold timedBy
  rw [h]

theorem walkReaches_succ (s : State) (k : ShelfId) (n : Nat) (j : ShelfId) :
    walkReaches s k (n + 1) j =
      match timedBy s j with
      | none => false
      | some i => decide (i = k) || walkReaches s k n i := by
  rw [walkReaches, timedBy]
  cases s.shelves[j].target with
  | none => rfl
  | some x => by_cases hkind : x.kind = .shelf <;> by_cases hsource : x.source = k <;> simp [hkind, hsource]

theorem walkStep_iterate_none (s : State) (m : Nat) : (walkStep s)^[m] none = none := Function.iterate_fixed rfl m

/-- The walk from j reaches k within n steps when some number of steps, from 1 to n, leads from j to k. -/
theorem walkReaches_iff (s : State) (k : ShelfId) (n : Nat) (j : ShelfId) :
    walkReaches s k n j = true ↔ ∃ m < n, (walkStep s)^[m + 1] (some j) = some k := by
  induction n generalizing j with
  | zero => simp [walkReaches]
  | succ n ih =>
    have hstep : walkStep s (some j) = timedBy s j := rfl
    rw [walkReaches_succ]
    simp only [Function.iterate_succ_apply, hstep]
    cases hnext : timedBy s j with
    | none => simp [walkStep_iterate_none]
    | some i =>
      simp only [Bool.or_eq_true, decide_eq_true_eq, ih, Nat.exists_lt_succ_left, Function.iterate_zero_apply,
        Option.some.injEq]

/-- No walk of 1 to 16 steps leads back to its start. -/
theorem cascadeAcyclic_iff (s : State) :
    CascadeAcyclic s ↔ ∀ k m, m < 16 → (walkStep s)^[m + 1] (some k) ≠ some k := by
  refine forall_congr' fun k => ?_
  rw [← Bool.not_eq_true, walkReaches_iff]
  exact ⟨fun h m hm heq => h ⟨m, hm, heq⟩, fun h ⟨m, hm, heq⟩ => h m hm heq⟩

/-- A walk in t is one in s, when every record that it goes by names the same shelf in s. -/
theorem walk_agrees {s t : State} (j : ShelfId) (m : Nat)
    (h : ∀ p < m, ∀ a b, (walkStep t)^[p] (some j) = some a → timedBy t a = some b → timedBy s a = some b) (i : ShelfId)
    (hwalk : (walkStep t)^[m] (some j) = some i) : (walkStep s)^[m] (some j) = some i := by
  induction m generalizing i with
  | zero => exact hwalk
  | succ m ih =>
    rw [Function.iterate_succ_apply'] at hwalk ⊢
    obtain ⟨a, ha, hai⟩ := Option.bind_eq_some_iff.1 hwalk
    rw [ih (fun p hp => h p (Nat.lt_succ_of_lt hp)) a ha]
    exact h m (Nat.lt_succ_self m) a i ha hai

/-- A change that gives no shelf another source closes no loop. -/
theorem CascadeAcyclic.of_fewer {s t : State} (hs : CascadeAcyclic s)
    (h : ∀ a b, timedBy t a = some b → timedBy s a = some b) : CascadeAcyclic t := by
  rw [cascadeAcyclic_iff] at hs ⊢
  exact fun k m hm hloop => hs k m hm (walk_agrees k _ (fun _ _ a b _ => h a b) k hloop)

/-- A new source for shelf k closes no loop when the walk from that source did not reach k: a loop in t either goes by k,
and then its walk from the source back to k was already there, or it was there as a whole. -/
theorem CascadeAcyclic.of_newSource {s t : State} (hs : CascadeAcyclic s) (k : ShelfId)
    (hothers : ∀ a, a ≠ k → timedBy t a = timedBy s a)
    (hnew : ∀ j, timedBy t k = some j → j ≠ k ∧ walkReaches s k Config.walkSteps j = false) : CascadeAcyclic t := by
  rw [cascadeAcyclic_iff] at hs ⊢
  intro x m hm hloop
  by_cases hvisits : ∃ p ≤ m, (walkStep t)^[p] (some x) = some k
  · obtain ⟨p, -, hp⟩ := hvisits
    have hback : ∃ q, (walkStep t)^[q + 1] (some k) = some k := ⟨m, by
      rw [← hp, ← Function.iterate_add_apply, Nat.add_comm, Function.iterate_add_apply, hloop]⟩
    have hfirst := Nat.find_spec hback
    have hshort : Nat.find hback ≤ m := Nat.find_min' hback (by
      rw [← hp, ← Function.iterate_add_apply, Nat.add_comm, Function.iterate_add_apply, hloop])
    have hearlier : ∀ q < Nat.find hback, (walkStep t)^[q + 1] (some k) ≠ some k := fun q => Nat.find_min hback
    generalize Nat.find hback = q at hfirst hshort hearlier
    have hstep : walkStep t (some k) = timedBy t k := rfl
    cases hsource : timedBy t k with
    | none => rw [Function.iterate_succ_apply, hstep, hsource, walkStep_iterate_none] at hfirst; cases hfirst
    | some j =>
      obtain ⟨hne, hreach⟩ := hnew j hsource
      simp only [Function.iterate_succ_apply, hstep, hsource] at hfirst hearlier
      cases q with
      | zero => exact hne (Option.some.inj hfirst)
      | succ q =>
        refine Bool.eq_false_iff.1 hreach ((walkReaches_iff ..).2 ⟨q, by unfold Config.walkSteps; omega, ?_⟩)
        exact walk_agrees j (q + 1) (fun p hp a b ha hab =>
          hothers a (fun hak => hearlier p hp (hak ▸ ha)) ▸ hab) k hfirst
  · refine hs x m hm (walk_agrees x _ (fun p hp a b ha hab => hothers a (fun hak => ?_) ▸ hab) x hloop)
    exact hvisits ⟨p, Nat.lt_succ_iff.1 hp, hak ▸ ha⟩

/-! ### The target that an evaluation stores (R89, R92) -/

/-- A computed target stands in an entry that is eligible or can be forced (R91, R94 to R96). -/
theorem computeTarget_admitted {s : State} {k : ShelfId} {c : Slot} (h : computeTarget s k = some c) :
    ∃ e : EntryId, s.shelves[k].entries[e].slot = c ∧ (eligible s k e = true ∨ forceAdmits s k e = true) := by
  have hbest : bestSlot s k = some c → ∃ e : EntryId, s.shelves[k].entries[e].slot = c ∧ eligible s k e = true := by
    intro h
    rcases bestSlot_spec s k with ⟨hnone, -⟩ | ⟨e, hbest, helig, -⟩
    · rw [hnone] at h; cases h
    · exact ⟨e, Option.some.inj (hbest.symm.trans h), helig⟩
  have hauto : autoTarget s k = some c → ∃ e : EntryId, s.shelves[k].entries[e].slot = c ∧ eligible s k e = true := by
    intro h
    unfold autoTarget at h
    split at h
    · exact hbest h
    · split at h
      · split at h <;> rename_i hkeep
        · obtain ⟨e, helig, hslot⟩ := (targetEligible_iff s k _).1 (Bool.and_eq_true_iff.1 hkeep).1
          exact ⟨e, hslot.trans (Option.some.inj h), helig⟩
        · exact hbest h
      · exact hbest h
  unfold computeTarget at h
  split at h
  · obtain ⟨e, hslot, helig⟩ := hauto h
    exact ⟨e, hslot, .inl helig⟩
  · cases h
  · rename_i e _
    split at h <;> rename_i hadmits
    · exact ⟨e, Option.some.inj h, .inr hadmits⟩
    · cases h
  · rename_i e _
    split at h <;> rename_i hadmits
    · exact ⟨e, Option.some.inj h, .inl (Bool.and_eq_true_iff.1 hadmits).1⟩
    · obtain ⟨e, hslot, helig⟩ := hauto h
      exact ⟨e, hslot, .inl helig⟩

theorem eligible_notExcluded {s : State} {k : ShelfId} {e : EntryId} (h : eligible s k e = true) :
    loopExcluded s k s.shelves[k].entries[e].slot = false := by
  unfold eligible at h
  exact Bool.not_eq_true' _ ▸ (Bool.and_eq_true_iff.1 h).2

theorem forceAdmits_notExcluded {s : State} {k : ShelfId} {e : EntryId} (h : forceAdmits s k e = true) :
    loopExcluded s k s.shelves[k].entries[e].slot = false := by
  unfold forceAdmits at h
  exact Bool.not_eq_true' _ ▸ (Bool.and_eq_true_iff.1 h).2

/-- The source shelf of a computed target of kind SHELF is another shelf, and the walk from it does not reach back (R89). -/
theorem computeTarget_notExcluded {s : State} {k : ShelfId} {c : Slot} (h : computeTarget s k = some c)
    (hkind : s.cands[c].kind = .shelf) :
    s.cands[c].source ≠ k ∧ walkReaches s k Config.walkSteps s.cands[c].source = false := by
  obtain ⟨e, hslot, hadmitted⟩ := computeTarget_admitted h
  have hexcluded : loopExcluded s k c = false :=
    hslot ▸ hadmitted.elim eligible_notExcluded forceAdmits_notExcluded
  have hcascade : excludedByCascade s k c = false := (Bool.or_eq_false_iff.1 hexcluded).2
  unfold excludedByCascade at hcascade
  rw [hkind, decide_eq_true rfl, Bool.true_and, Bool.or_eq_false_iff, decide_eq_false_iff_not] at hcascade
  exact hcascade

/-- The source shelf that the record of the computed target names (R80, R92). -/
theorem evaluate_timedBy {s : State} {k : ShelfId} {m : Option Slot} (hp : s.slices[k].timing ≠ .parked) {j : ShelfId}
    (h : timedBy (evaluate k m s) k = some j) : j ≠ k ∧ walkReaches s k Config.walkSteps j = false := by
  rw [evaluate_unparked k m s hp] at h
  have hmark : sameBut [.shelves] s (applyMark k m s) := applyMark_sameBut k m s
  have htargets : ∀ i : ShelfId, (applyMark k m s).shelves[i].target = s.shelves[i].target := fun i => by
    rw [applyMark_at]
    split <;> rename_i hi
    · rw [← hi]
    · rfl
  generalize applyMark k m s = u at h hmark htargets
  have hcands : (if dropsManual u k then dropManual k u else u).cands = u.cands :=
    ((dropManual_sameBut k u).ite (sameBut.refl _ u)) .cands (by decide)
  generalize (if dropsManual u k then dropManual k u else u) = v at h hcands
  unfold timedBy at h
  rw [applyTarget_at, if_pos rfl] at h
  cases hc : computeTarget u k with
  | none => rw [hc] at h; cases h
  | some c =>
    rw [hc] at h
    dsimp only [Option.map_some, freezeTarget] at h
    rw [hcands] at h
    split at h <;> rename_i hkind
    · obtain ⟨hne, hreach⟩ := computeTarget_notExcluded hc hkind
      rw [walkReaches_congr htargets] at hreach
      exact Option.some.inj h ▸ ⟨hne, hreach⟩
    · cases h

theorem evaluate_cascadeAcyclic (k : ShelfId) (m : Option Slot) (s : State) (hs : CascadeAcyclic s) :
    CascadeAcyclic (evaluate k m s) := by
  by_cases hp : s.slices[k].timing = .parked
  · have hsame : evaluate k m s = s := if_pos hp
    rw [hsame]; exact hs
  · refine hs.of_newSource k (fun a ha => timedBy_congr ?_) fun j => evaluate_timedBy hp
    rw [evaluate_at k a m s hp, if_neg (Ne.symm ha)]

/-! ### Events that store no target that was not there -/

/-- From s to t every shelf keeps its target record, or has none. -/
def NoNewTarget (s t : State) : Prop :=
  ∀ k : ShelfId, t.shelves[k].target = s.shelves[k].target ∨ t.shelves[k].target = none

namespace NoNewTarget

theorem refl (s : State) : NoNewTarget s s := fun _ => .inl rfl

theorem trans {s t u : State} (h : NoNewTarget s t) (g : NoNewTarget t u) : NoNewTarget s u := fun k =>
  (g k).elim (fun hk => (h k).imp hk.trans hk.trans) .inr

theorem of_shelves {s t : State} (h : t.shelves = s.shelves) : NoNewTarget s t := fun k => .inl (by rw [h])

theorem of_sameBut {ps : List Part} {s t : State} (h : sameBut ps s t) (hd : Part.shelves ∉ ps := by decide) :
    NoNewTarget s t := of_shelves (h .shelves hd)

/-- One record stored. -/
theorem set {s t : State} (k : ShelfId) (x : Shelf) (ht : t.shelves = s.shelves.set k x)
    (hx : x.target = s.shelves[k].target ∨ x.target = none) : NoNewTarget s t := by
  intro j
  rw [ht, getElem_set_fin]
  split <;> rename_i hj
  · exact hj ▸ hx
  · exact .inl rfl

theorem overMask (m : BitVec 16) (f : ShelfId → State → State) (h : ∀ k t, NoNewTarget t (f k t)) (s : State) :
    NoNewTarget s (overMask m f s) := by
  refine foldl_keeps _ (NoNewTarget s) (fun k t ht => ?_) _ s (refl s)
  split
  · exact ht.trans (h k t)
  · exact ht

theorem takeRemoval (n : Slot) (s : State) : NoNewTarget s (takeRemoval n s) := by
  unfold Machine.takeRemoval
  split
  · exact refl s
  · rename_i rest _
    have htaken : NoNewTarget s (s.setFlight { s.flight with removals := rest }) := of_shelves rfl
    exact foldl_keeps _ (NoNewTarget s)
      (fun k t ht => ht.trans (set k { t.shelves[k] with failed := t.shelves[k].failed.set n false } rfl (.inl rfl))) _ _ htaken

/-- A list write drops a target whose entry it overwrites, and no other (R78). -/
theorem writeEntry (k : ShelfId) (e : EntryId) (w : Entry) (s : State) : NoNewTarget s (writeEntry k e w s) := by
  obtain ⟨hothers, -, -, -, hdropped, -⟩ := writeEntry_spec k e w s
  obtain ⟨hkept, -⟩ := writeEntry_written k e w s
  intro j
  by_cases hj : j = k
  · subst hj
    by_cases hover : s.shelves[j].entries[e].priority ≠ 0 ∧ targetSlot s j = some s.shelves[j].entries[e].slot ∧
        (w.slot ≠ s.shelves[j].entries[e].slot ∨ w.priority = 0)
    · obtain ⟨hp, ht, hw⟩ := hover
      exact .inr (Option.map_eq_none_iff.1 (hdropped hp ht hw))
    · exact .inl (hkept (by tauto)).1
  · exact .inl (by rw [hothers j hj])

theorem setCommand (k : ShelfId) (c : Command) (s : State) : NoNewTarget s (setCommand k c s) :=
  set k _ (setCommand_spec k c s).1 (.inl rfl)

theorem setLockout (k : ShelfId) (e : EntryId) (on : Bool) (s : State) : NoNewTarget s (setLockout k e on s) := by
  by_cases h : s.shelves[k].entries[e].lockout = on
  · have hsame : Machine.setLockout k e on s = s := if_pos h
    rw [hsame]; exact refl s
  · exact set k _ (setLockout_spec k e on s h).1 (.inl rfl)

theorem clearMarks (k : ShelfId) (s : State) : NoNewTarget s (clearMarks k s) :=
  set k _ (clearMarks_spec k s).1 (.inl rfl)

theorem parkBoth (k : ShelfId) (s : State) : NoNewTarget s (parkBoth k s) := by
  by_cases hp : s.slices[k].timing = .parked
  · rw [parkBoth_parked k s hp]; exact refl s
  · exact set k _ (parkBoth_spec k s hp).2.1 (.inr rfl)

theorem resetBoth (k : ShelfId) (s : State) : NoNewTarget s (resetBoth k s) := by
  obtain ⟨-, -, -, -, -, hshelves, -⟩ := resetBoth_spec k s
  exact set k _ hshelves (.inr rfl)

theorem writeShelf (k : ShelfId) (w : SliceSettings) (v : Selection) (s : State) :
    NoNewTarget s (writeSlice k w (writeSelection k v s)) := by
  obtain ⟨-, -, -, -, -, hslice⟩ := writeSlice_spec k w (writeSelection k v s)
  exact (set k _ (writeSelection_spec k v s).1 (.inl rfl)).trans (of_sameBut hslice)

theorem runCommand (c : Request → Command) (r : Request) (s : State) : NoNewTarget s (runCommand c r s).state := by
  unfold Machine.runCommand
  split
  · exact refl s
  · exact setCommand _ _ s

theorem runUnranked {act : Request → State → State} (h : ∀ r t, NoNewTarget t (act r t)) (r : Request) (s : State) :
    NoNewTarget s (runUnranked act r s).state := by
  unfold Machine.runUnranked
  split
  · exact refl s
  · exact h r s

/-- A row of the engine, where its service stores no target that was not there. -/
theorem of_engine {c row : Instr} {check : Request → State → Option RefusalAnswer} {run : Request → State → Served}
    {s t : State} (h : exec c s = .next t) (hc : exec c s = .next (serveEngine row check run s))
    (hrun : ∀ r t, NoNewTarget t (run r t).state) : NoNewTarget s t :=
  exec_eq_of_next h hc ▸
    serveEngine_keeps (NoNewTarget s) (fun _ _ h ht => ht.trans (of_sameBut h)) (fun _ ht => ht.trans (of_shelves rfl))
      (fun _ => True) (fun _ _ _ => trivial) (fun r t _ ht => ht.trans (hrun r t)) s (fun _ _ _ _ _ _ _ => trivial) (refl s)

theorem of_masked {c row : Instr} {check : Request → State → Option RefusalAnswer} {act : ShelfId → State → State}
    {s t : State} (h : exec c s = .next t) (hc : exec c s = .next (serveEngine row check (runMasked act) s))
    (hact : ∀ k t, NoNewTarget t (act k t)) : NoNewTarget s t :=
  of_engine h hc fun _ t => overMask _ act hact t

/-- Power-on and the restart leave no target (R107, R108). -/
theorem of_startsOver {c : Instr} {s t : State} (hc : Instr.startsOver c = true) (h : exec c s = .next t) :
    NoNewTarget s t := by
  refine exec_startsOver_keeps (NoNewTarget s) (fun now strap level record pending k => .inr ?_) (fun u _ k => .inr ?_)
    (fun u l hu => hu.trans (of_shelves rfl)) hc h (refl s)
  · have hk : (State.powerOn now strap level record pending).shelves[k] = resetShelf := reset_shelves k
    rw [hk]; rfl
  · have hshelves : (deviceRestart u).shelves = u.restarted.shelves := deviceRestart_directs u .shelves (by decide)
    rw [hshelves, restarted_shelves]; rfl

/-- A command whose frame does not name the shelves. -/
theorem of_frame {c : Instr} {s t : State} (h : exec c s = .next t)
    (hd : decide (Part.shelves ∉ commandParts c) = true := by rfl) : NoNewTarget s t :=
  of_sameBut (exec_sameBut c s t h) (of_decide_eq_true hd)

end NoNewTarget

/-- No command but an evaluation stores a target that was not there. -/
theorem exec_noNewTarget (c : Instr) (s t : State) (hc : c ≠ .evaluation) (h : exec c s = .next t) : NoNewTarget s t := by
  cases c with
  | powerOn | resetLineReleased | transmissionEnd | deviceRestart => exact NoNewTarget.of_startsOver rfl h
  | evaluation => exact absurd rfl hc
  | lockFailedRemoval n => exact exec_eq_of_next h rfl ▸ NoNewTarget.takeRemoval n s
  | writeListEntry => exact .of_engine h rfl fun _ t => .overMask _ _ (fun k t => .writeEntry k _ _ t) t
  | writeShelf => exact .of_engine h rfl fun _ t => .overMask _ _ (fun k t => .writeShelf k _ _ t) t
  | commandHold | commandForce | commandManual => exact .of_engine h rfl (NoNewTarget.runCommand _)
  | commandClear => exact .of_engine h rfl (NoNewTarget.runUnranked fun _ t => .setCommand _ _ t)
  | commandLockout => exact .of_engine h rfl (NoNewTarget.runUnranked fun _ t => .setLockout _ _ _ t)
  | park => exact .of_masked h rfl NoNewTarget.parkBoth
  | unpark => exact .of_masked h rfl fun k t => .of_sameBut (unparkSlice_sameBut k t)
  | sliceReset => exact .of_masked h rfl NoNewTarget.resetBoth
  | clearMarks => exact .of_masked h rfl NoNewTarget.clearMarks
  | _ => exact NoNewTarget.of_frame h

/-! ### The settled statement -/

theorem serveEvaluation_cascadeAcyclic (s : State) (hs : CascadeAcyclic s) : CascadeAcyclic (serveEvaluation s) := by
  have htaken : ∀ e : Engine, CascadeAcyclic (s.setEngine e) := fun e => hs.of_fewer fun _ _ h => h
  unfold serveEvaluation
  split
  · exact hs
  · split
    · exact hs
    · exact evaluate_cascadeAcyclic _ _ _ (htaken _)

theorem exec_keeps_cascadeAcyclic (c : Instr) (s t : State) (h : exec c s = .next t) (hs : CascadeAcyclic s) :
    CascadeAcyclic t := by
  by_cases hc : c = .evaluation
  · subst hc
    exact exec_eq_of_next (u := serveEvaluation s) h rfl ▸ serveEvaluation_cascadeAcyclic s hs
  · refine hs.of_fewer fun a b hab => ?_
    rcases exec_noNewTarget c s t hc h a with hkept | hnone
    · exact timedBy_congr hkept ▸ hab
    · unfold timedBy at hab
      rw [hnone] at hab
      cases hab

/-- Settles O56: an evaluation gives its shelf a source from which the walk did not reach it, and no other event stores a
target that was not there. -/
theorem stepKeepsCascadeAcyclic : Obligations.StepKeepsCascadeAcyclic :=
  step_keeps CascadeAcyclic exec_keeps_cascadeAcyclic fun _ _ hs => hs.of_fewer fun _ _ h => h

end Sys2Proof.Machine
end

section
/-! PROOFS. The Selection Engine's own events: LOCK_FAILED_REMOVAL (O15), and EVALUATION of a PARKED shelf, under a command,
without one, with a mark note, and with a change of target (O23 to O27). -/

namespace Sys2Proof.Machine

-- One theorem after the other: the joined text would otherwise ask for a thread per waiting proof.
set_option Elab.async false

/-! ### LOCK_FAILED_REMOVAL (R82) -/

/-- The slot leaves the lock-failed set of shelf k. -/
def dropFailed (n : Slot) (k : ShelfId) (t : State) : State :=
  t.setShelf k { t.shelves[k] with failed := t.shelves[k].failed.set n false }

theorem takeRemoval_oldest (n : Slot) (before after : List Slot) (s : State)
    (hf : s.flight.removals = before ++ n :: after) (hb : n ∉ before) :
    takeRemoval n s = overShelves (dropFailed n) (s.setFlight { s.flight with removals := before ++ after }) := by
  have hfirst : takeFirst (fun m => decide (m = n)) s.flight.removals = some (n, before ++ after) := by
    rw [hf]
    exact takeFirst_append _ _ _ _ (decide_eq_true rfl) fun y hy => decide_eq_false fun h => hb (h ▸ hy)
  unfold takeRemoval
  rw [hfirst]
  rfl

theorem overShelves_dropFailed (n : Slot) (s : State) (k : ShelfId) :
    (overShelves (dropFailed n) s).shelves[k] = { s.shelves[k] with failed := s.shelves[k].failed.set n false } := by
  refine overShelves_at (dropFailed n) (fun k t => t.shelves[k]) (fun _ => True)
    (fun k t => t.shelves[k] = { s.shelves[k] with failed := s.shelves[k].failed.set n false }) s (fun _ _ _ => trivial)
    (fun i j t _ hij => ?_) (fun i t _ hi => ?_) (fun i j t _ hij hj => ?_) trivial k
  · exact (State.setShelf_shelves_at ..).trans (if_neg hij)
  · have hi : t.shelves[i] = s.shelves[i] := hi
    rw [dropFailed, State.setShelf_shelves_at, if_pos rfl, hi]
  · exact (State.setShelf_shelves_at ..).trans ((if_neg hij).trans hj)

/-- Settles O15: the walk over the shelves clears one flag at each. -/
theorem removalLeavesLockFailedSets : Obligations.RemovalLeavesLockFailedSets := by
  intro n before after s hf hb
  have hexec : exec (.lockFailedRemoval n) s =
      .next (overShelves (dropFailed n) (s.setFlight { s.flight with removals := before ++ after })) :=
    congrArg Host.Outcome.next (takeRemoval_oldest n before after s hf hb)
  have hwalk : sameBut [.shelves] (s.setFlight { s.flight with removals := before ++ after })
      (overShelves (dropFailed n) (s.setFlight { s.flight with removals := before ++ after })) :=
    overShelves_sameBut _ (fun _ _ => setShelf_sameBut _ _ _) _
  have htaken : sameBut [.removals] s (s.setFlight { s.flight with removals := before ++ after }) := by
    intro p; cases p <;> simp [Part.same]
  have hshelves := overShelves_dropFailed n (s.setFlight { s.flight with removals := before ++ after })
  refine ⟨_, hexec, hwalk .removals (by decide), fun k m => ?_, fun k => ?_, htaken.andThen hwalk⟩
  · rw [hshelves, getElem_set_fin]
    simp only [eq_comm (a := n)]
    rfl
  · rw [hshelves]
    rfl

/-! ### The head of the evaluation queue (R83) -/

/-- The state in which the head of the evaluation queue is evaluated: its entry taken, and counted (R83). -/
def State.entryTaken (s : State) (rest : List EvalEntry) : State :=
  s.setEngine { s.engine with queue := rest, count := min Config.countStop (s.engine.count + 1) }

theorem entryTaken_sameBut (s : State) (rest : List EvalEntry) : sameBut [.queue, .count] s (s.entryTaken rest) := by
  intro p; cases p <;> simp [Part.same, State.entryTaken]

theorem entryTaken_eligible (s : State) (rest : List EvalEntry) (k : ShelfId) (e : EntryId) :
    eligible (s.entryTaken rest) k e = eligible s k e := eligible_congr rfl rfl rfl rfl k e

/-- EVALUATION in the queue's turn evaluates the shelf at the head of the queue (R83). -/
theorem exec_evaluation_head {e : EvalEntry} {rest : List EvalEntry} {s : State} (hq : s.engine.queue = e :: rest)
    (hturn : EvaluationTurn s) : exec .evaluation s = .next (evaluate e.shelf e.mark (s.entryTaken rest)) := by
  have hyields : (decide (s.agent.phase = .engineOp) && operationTurn s) = false := by
    rw [Bool.and_eq_false_imp, decide_eq_true_eq]
    intro hphase
    rw [Bool.eq_false_iff, ne_eq, operationTurn_iff, hq, not_or, Nat.not_le]
    exact ⟨hturn hphase, List.cons_ne_nil _ _⟩
  have hserved : serveEvaluation s = evaluate e.shelf e.mark (s.entryTaken rest) := by
    unfold serveEvaluation
    simp only [hq, hyields, Bool.false_eq_true, if_false]
    rfl
  exact congrArg Host.Outcome.next hserved

/-- Settles O23: the shelf is not evaluated, whatever its mark note. -/
theorem parkedEvaluationChangesNothing : Obligations.ParkedEvaluationChangesNothing := by
  intro e rest s hq hparked hturn
  have hevaluate : evaluate e.shelf e.mark (s.entryTaken rest) = s.entryTaken rest := if_pos hparked
  exact ⟨_, hevaluate ▸ exec_evaluation_head hq hturn, rfl, rfl, entryTaken_sameBut s rest⟩

/-! ### The mark note (R86) -/

/-- A mark note moves no list, no setting, no command and no target of any shelf. -/
theorem applyMark_keeps (k : ShelfId) (m : Option Slot) (s : State) (j : ShelfId) :
    (applyMark k m s).shelves[j] = { s.shelves[j] with failed := (applyMark k m s).shelves[j].failed } := by
  rw [applyMark_at]
  split <;> rename_i h
  · rw [← h]
  · rfl

/-- When the slot of a mark note joins the lock-failed set (R86). -/
theorem applyMark_failed (k : ShelfId) (c n : Slot) (s : State) :
    (applyMark k (some c) s).shelves[k].failed[n] =
      (s.shelves[k].failed[n] ||
        decide (n = c ∧ targetSlot s k = some c ∧ s.slices[k].timing ≠ .settling ∧ s.slices[k].timing ≠ .locked)) := by
  by_cases h : targetSlot s k = some c ∧ s.slices[k].timing ≠ .settling ∧ s.slices[k].timing ≠ .locked
  · have hjoins : applyMark k (some c) s = s.setShelf k { s.shelves[k] with failed := s.shelves[k].failed.set c true } :=
      if_pos h
    rw [hjoins, State.setShelf_shelves_at, if_pos rfl, getElem_set_fin]
    by_cases hn : n = c
    · simp only [hn, h, if_true, ne_eq, not_false_eq_true, and_self, decide_true, Bool.or_true]
    · simp only [hn, Ne.symm hn, if_false, false_and, decide_false, Bool.or_false]
  · have hstays : applyMark k (some c) s = s := if_neg h
    rw [hstays, decide_eq_false fun hh => h hh.2, Bool.or_false]

/-- Settles O26: of the stages of an evaluation only the mark moves the lock-failed set, and none moves a list, a setting or
another shelf. -/
theorem markJoinsLockFailedSet : Obligations.MarkJoinsLockFailedSet := by
  intro k c rest s hq hp hturn
  have hat := evaluate_at k k (some c) (s.entryTaken rest) hp
  rw [if_pos rfl] at hat
  refine ⟨_, exec_evaluation_head hq hturn, fun n => ?_, ?_, ?_, fun j hj => ?_⟩
  · rw [hat]
    exact applyMark_failed k c n (s.entryTaken rest)
  · rw [hat]; rfl
  · rw [hat]; rfl
  · rw [evaluate_at k j (some c) (s.entryTaken rest) hp, if_neg (Ne.symm hj)]; rfl

/-! ### Commands (R94 to R96) -/

/-- Forcing reads the list, the candidates, the grades, the base tag and the target records only (R95). -/
theorem forceAdmits_congr {s t : State} (k : ShelfId) (he : t.shelves[k].entries = s.shelves[k].entries)
    (ht : ∀ j : ShelfId, t.shelves[j].target = s.shelves[j].target) (hc : t.cands = s.cands) (hg : t.grades = s.grades)
    (hb : t.baseTag = s.baseTag) (e : EntryId) : forceAdmits t k e = forceAdmits s k e := by
  have hloop := loopExcluded_congr ht hc hg hb k s.shelves[k].entries[e].slot
  simp only [forceAdmits, he, hc, hloop]

theorem forceAdmits_marked (k : ShelfId) (m : Option Slot) (s : State) (e : EntryId) :
    forceAdmits (applyMark k m s) k e = forceAdmits s k e :=
  have hframe := applyMark_sameBut k m s
  forceAdmits_congr k (by rw [applyMark_keeps]) (fun j => by rw [applyMark_keeps]) (hframe .cands (by decide))
    (hframe .grades (by decide)) (hframe .baseTag (by decide)) e

/-- FORCE e can be honoured when the conditions of R95 hold. -/
theorem forceAdmits_iff (s : State) (k : ShelfId) (e : EntryId) :
    forceAdmits s k e = true ↔
      s.shelves[k].entries[e].priority ≠ 0 ∧ s.shelves[k].entries[e].lockout = false ∧
        (s.cands[s.shelves[k].entries[e].slot].state = .available ∨
          s.cands[s.shelves[k].entries[e].slot].state = .suspect) ∧
        loopExcluded s k s.shelves[k].entries[e].slot = false := by
  unfold forceAdmits
  simp only [Bool.and_eq_true, Bool.or_eq_true, decide_eq_true_eq, Bool.not_eq_true', and_assoc]

/-- MANUAL e can be honoured while e is eligible and, in AUTO mode, not outranked (R96). -/
theorem manualAdmits_iff (s : State) (k : ShelfId) (e : EntryId) :
    manualAdmits s k e = true ↔
      eligible s k e = true ∧
        (s.shelves[k].sel.mode = .auto → ∀ f : EntryId, eligible s k f = true →
          s.grades[s.shelves[k].entries[e].slot].eff.rank ≤ s.grades[s.shelves[k].entries[f].slot].eff.rank) := by
  unfold manualAdmits
  rw [Bool.and_eq_true, Bool.not_eq_true', outranked_eq_false]

theorem dropsManual_eq_false {s : State} {k : ShelfId} (h : ∀ e, s.shelves[k].command ≠ .manual e) :
    dropsManual s k = false := by
  unfold dropsManual
  split <;> rename_i hcommand
  · exact absurd hcommand (h _)
  · rfl

theorem evaluate_command (k : ShelfId) (m : Option Slot) (s : State) (hp : s.slices[k].timing ≠ .parked) :
    (evaluate k m s).shelves[k].command =
      if dropsManual (applyMark k m s) k then .none else s.shelves[k].command := by
  rw [evaluate_at k k m s hp, if_pos rfl]

/-- An evaluation keeps a command other than MANUAL. -/
theorem evaluate_keeps_command (k : ShelfId) (m : Option Slot) (s : State) (hp : s.slices[k].timing ≠ .parked)
    (h : ∀ e, s.shelves[k].command ≠ .manual e) : (evaluate k m s).shelves[k].command = s.shelves[k].command := by
  have hdrops : dropsManual (applyMark k m s) k = false := dropsManual_eq_false fun e => by
    rw [applyMark_keeps]; exact h e
  rw [evaluate_command k m s hp, hdrops, if_neg Bool.false_ne_true]

theorem evaluate_hold (k : ShelfId) (m : Option Slot) (s : State) (hp : s.slices[k].timing ≠ .parked)
    (hcommand : s.shelves[k].command = .hold) : targetSlot (evaluate k m s) k = none := by
  rw [evaluate_targetSlot k m s hp]
  unfold computeTarget
  rw [applyMark_keeps]
  dsimp only
  rw [hcommand]

theorem evaluate_force (k : ShelfId) (m : Option Slot) (s : State) (e : EntryId) (hp : s.slices[k].timing ≠ .parked)
    (hcommand : s.shelves[k].command = .force e) :
    targetSlot (evaluate k m s) k = if forceAdmits s k e then some s.shelves[k].entries[e].slot else none := by
  rw [evaluate_targetSlot k m s hp]
  unfold computeTarget
  rw [applyMark_keeps]
  dsimp only
  rw [hcommand]
  dsimp only
  rw [forceAdmits_marked]

theorem evaluate_manual_kept (k : ShelfId) (s : State) (e : EntryId) (hp : s.slices[k].timing ≠ .parked)
    (hcommand : s.shelves[k].command = .manual e) (hadmits : manualAdmits s k e = true) :
    targetSlot (evaluate k none s) k = some s.shelves[k].entries[e].slot ∧
      (evaluate k none s).shelves[k].command = .manual e := by
  have hmark : applyMark k none s = s := rfl
  have hdrops : dropsManual s k = false := by
    unfold dropsManual
    rw [hcommand]
    dsimp only
    rw [hadmits]
    rfl
  constructor
  · rw [evaluate_targetSlot k none s hp, hmark]
    unfold computeTarget
    rw [hcommand]
    exact if_pos hadmits
  · rw [evaluate_command k none s hp, hmark, hdrops, if_neg Bool.false_ne_true, hcommand]

/-- A MANUAL that cannot be honoured is dropped, and COMMAND_DROPPED is raised before the target is applied (R96). -/
theorem evaluate_manual_dropped (k : ShelfId) (s : State) (e : EntryId) (hp : s.slices[k].timing ≠ .parked)
    (hcommand : s.shelves[k].command = .manual e) (hadmits : manualAdmits s k e = false) :
    (evaluate k none s).shelves[k].command = .none ∧
      (s.events.enabled (shelfLatch 3 k) = true → (evaluate k none s).events.latches[shelfLatch 3 k] ≠ .clear) := by
  have hmark : applyMark k none s = s := rfl
  have hdrops : dropsManual s k = true := by
    unfold dropsManual
    rw [hcommand]
    dsimp only
    rw [hadmits]
    rfl
  have hother : shelfLatch 4 k ≠ shelfLatch 3 k := fun h => by
    have hval := congrArg Fin.val h
    simp only [shelfLatch] at hval
    omega
  refine ⟨by rw [evaluate_command k none s hp, hmark, hdrops, if_pos rfl], fun henabled => ?_⟩
  rw [evaluate_unparked k none s hp, hmark, hdrops, if_pos rfl]
  exact applyTarget_stays _ k _ _ hother ((raiseEdge_raisedBy _ _).not_clear henabled)

/-- Settles O24, command by command. -/
theorem commandsDecideTarget : Obligations.CommandsDecideTarget := by
  refine ⟨fun k m rest s hq hp hturn => ⟨fun hcommand => ?hold, fun e hcommand => ?force⟩,
    fun k e rest s hq hp hturn hcommand => ⟨_, exec_evaluation_head hq hturn, ?manual⟩⟩
  case hold =>
    have hkeeps := evaluate_keeps_command k m (s.entryTaken rest) hp fun e h => by cases hcommand.symm.trans h
    exact ⟨_, exec_evaluation_head hq hturn, evaluate_hold k m _ hp hcommand, hkeeps.trans hcommand⟩
  case force =>
    have hkeeps := evaluate_keeps_command k m (s.entryTaken rest) hp fun f h => by cases hcommand.symm.trans h
    refine ⟨_, exec_evaluation_head hq hturn, hkeeps.trans hcommand, ?_⟩
    rw [evaluate_force k m (s.entryTaken rest) e hp hcommand, forceAdmits_congr k rfl (fun _ => rfl) rfl rfl rfl]
    exact if_congr (forceAdmits_iff s k e) rfl rfl
  case manual =>
    have hadmits := manualAdmits_iff (s.entryTaken rest) k e
    simp only [entryTaken_eligible] at hadmits
    split <;> rename_i h
    · exact evaluate_manual_kept k (s.entryTaken rest) e hp hcommand (hadmits.2 h)
    · exact evaluate_manual_dropped k (s.entryTaken rest) e hp hcommand (Bool.eq_false_iff.2 fun h' => h (hadmits.1 h'))

/-! ### The automatic target (R90, R91) -/

/-- The candidate c stands as the automatic target, if it is the target: revertive is clear, c is eligible and, in AUTO
mode, not outranked (R91). -/
def targetStands (s : State) (k : ShelfId) (c : Slot) : Prop :=
  s.shelves[k].sel.revertive = false ∧ (∃ e : EntryId, eligible s k e = true ∧ s.shelves[k].entries[e].slot = c) ∧
    (s.shelves[k].sel.mode = .priority ∨
      ∀ e : EntryId, eligible s k e = true → s.grades[c].eff.rank ≤ s.grades[s.shelves[k].entries[e].slot].eff.rank)

theorem outranked_eq_false_iff_mode (s : State) (k : ShelfId) (c : Slot) :
    outranked s k c = false ↔
      s.shelves[k].sel.mode = .priority ∨
        ∀ e : EntryId, eligible s k e = true → s.grades[c].eff.rank ≤ s.grades[s.shelves[k].entries[e].slot].eff.rank := by
  rw [outranked_eq_false]
  cases s.shelves[k].sel.mode <;> simp

/-- The automatic target: a target that stands is kept, and otherwise the best slot is taken (R91). -/
theorem autoTarget_cases (s : State) (k : ShelfId) :
    (∃ c, targetSlot s k = some c ∧ targetStands s k c ∧ autoTarget s k = some c) ∨
      (∀ c, targetSlot s k = some c → ¬ targetStands s k c) ∧ autoTarget s k = bestSlot s k := by
  have hstands : ∀ c, targetStands s k c ↔
      s.shelves[k].sel.revertive = false ∧ (targetEligible s k c && !outranked s k c) = true := fun c => by
    rw [Bool.and_eq_true, targetEligible_iff, Bool.not_eq_true', outranked_eq_false_iff_mode]
    rfl
  unfold autoTarget
  by_cases hrevertive : s.shelves[k].sel.revertive = true
  · rw [if_pos hrevertive]
    exact .inr ⟨fun c _ hc => Bool.eq_false_iff.1 hc.1 hrevertive, rfl⟩
  rw [if_neg hrevertive]
  cases htarget : targetSlot s k with
  | none => exact .inr ⟨nofun, rfl⟩
  | some c =>
    dsimp only
    by_cases hkeep : (targetEligible s k c && !outranked s k c) = true
    · exact .inl ⟨c, rfl, (hstands c).2 ⟨Bool.eq_false_iff.2 hrevertive, hkeep⟩, if_pos hkeep⟩
    · refine .inr ⟨fun d hd hst => hkeep ?_, if_neg hkeep⟩
      exact Option.some.inj hd ▸ ((hstands d).1 hst).2

/-- An evaluation without a command and without a mark note applies the automatic target. -/
theorem evaluate_automatic (k : ShelfId) (s : State) (hp : s.slices[k].timing ≠ .parked)
    (hcommand : s.shelves[k].command = .none) : targetSlot (evaluate k none s) k = autoTarget s k := by
  have hmark : applyMark k none s = s := rfl
  rw [evaluate_targetSlot k none s hp, hmark]
  unfold computeTarget
  rw [hcommand]

/-- Settles O25: the target is kept while it stands, and otherwise the best slot is taken. -/
theorem automaticTargetChosen : Obligations.AutomaticTargetChosen := by
  intro k rest s hq hp hturn hcommand
  have hkeeps := evaluate_keeps_command k none (s.entryTaken rest) hp fun e h => by cases hcommand.symm.trans h
  have htarget := evaluate_automatic k (s.entryTaken rest) hp hcommand
  refine ⟨_, exec_evaluation_head hq hturn, hkeeps.trans hcommand, ?_⟩
  rw [htarget]
  simp only [← entryTaken_eligible s rest]
  refine ⟨fun hnone => ?_, fun c hrevertive hslot helig hmode => ?_, ?_⟩
  · rcases autoTarget_cases (s.entryTaken rest) k with ⟨c, -, ⟨-, ⟨e, he, -⟩, -⟩, -⟩ | ⟨-, hbest⟩
    · rw [hnone e] at he; cases he
    · rw [hbest]
      rcases bestSlot_spec (s.entryTaken rest) k with ⟨hbest, -⟩ | ⟨e, -, he, -⟩
      · exact hbest
      · rw [hnone e] at he; cases he
  · rcases autoTarget_cases (s.entryTaken rest) k with ⟨d, hd, -, hkept⟩ | ⟨hfalls, -⟩
    · rw [hkept]
      exact hd.symm.trans hslot
    · exact absurd ⟨hrevertive, helig, hmode⟩ (hfalls c hslot)
  · rcases autoTarget_cases (s.entryTaken rest) k with ⟨c, hslot, ⟨hrevertive, helig, hmode⟩, hkept⟩ | ⟨-, hbest⟩
    · exact .inl ⟨c, hslot, hkept, hrevertive, helig, hmode⟩
    · rw [hbest]
      rcases bestSlot_spec (s.entryTaken rest) k with ⟨-, hnone⟩ | ⟨e, hslot, he, hlowest⟩
      · exact .inr (.inl hnone)
      · exact .inr (.inr ⟨e, he, hslot, hlowest⟩)

/-! ### A change of target (R92, R110 to R113) -/

/-- What the mark note and a dropped MANUAL leave for the computed target to be applied to. -/
structure MarkedFrom (s v : State) : Prop where
  frame : sameBut [.shelves, .latches, .noticeState, .control] s v
  shelf : ∀ j : ShelfId, v.shelves[j].target = s.shelves[j].target ∧ v.shelves[j].entries = s.shelves[j].entries

/-- The evaluation of an unparked shelf applies a target to a state that the mark note and a dropped MANUAL left. -/
theorem evaluate_applies (k : ShelfId) (m : Option Slot) (s : State) (hp : s.slices[k].timing ≠ .parked) :
    ∃ x v, MarkedFrom s v ∧ evaluate k m s = applyTarget k x v := by
  refine ⟨_, _, ⟨?_, fun j => ?_⟩, evaluate_unparked k m s hp⟩
  · have hmark : sameBut [.shelves, .latches, .noticeState, .control] s (applyMark k m s) :=
      (applyMark_sameBut k m s).mono
    exact hmark.trans (sameBut.ite ((setShelf_sameBut _ _ _).andThen (raiseEdge_sameBut _ _)) (sameBut.refl _ _))
  · have hmark := applyMark_keeps k m s j
    generalize applyMark k m s = u at hmark ⊢
    have hu : u.shelves[j].target = s.shelves[j].target ∧ u.shelves[j].entries = s.shelves[j].entries := by
      rw [hmark]; exact ⟨rfl, rfl⟩
    split
    · simp only [dropManual_shelves, getElem_set_fin]
      split <;> rename_i hj
      · exact hj ▸ hu
      · exact hu
    · exact hu

namespace MarkedFrom

variable {s v : State}

theorem targetSlot_eq (h : MarkedFrom s v) (k : ShelfId) : targetSlot v k = targetSlot s k := by
  unfold targetSlot
  rw [(h.shelf k).1]

theorem slices_eq (h : MarkedFrom s v) : v.slices = s.slices := h.frame .slices (by decide)

theorem fabric_eq (h : MarkedFrom s v) : v.lane.fabric = s.lane.fabric := h.frame .fabric (by decide)

theorem live_eq (h : MarkedFrom s v) : v.lane.live = s.lane.live := by
  have hlevel : v.lane.resetAsserted = s.lane.resetAsserted := h.frame .resetLevel (by decide)
  unfold Lane.live
  rw [hlevel]

theorem enabled_eq (h : MarkedFrom s v) : v.events.enabled = s.events.enabled :=
  EventUnit.enabled_congr (h.frame .eventSettings (by decide)).1

theorem directiveTo_eq (h : MarkedFrom s v) (k : ShelfId) (seq : Byte) (c : Option Slot) :
    directiveTo v k seq c = directiveTo s k seq c := by
  have hstrap : v.lane.strap = s.lane.strap := h.frame .strap (by decide)
  unfold directiveTo
  rw [h.slices_eq, hstrap]

theorem listsShelfKind_eq (h : MarkedFrom s v) (j : ShelfId) : listsShelfKind v j = listsShelfKind s j :=
  listsShelfKind_congr j (h.shelf j).2 (h.frame .cands (by decide))

end MarkedFrom

/-- A target that differs from the record's slot is applied as a target change: the slice takes it, TARGET is raised, and
the cascade is queued (R92). -/
theorem applyTarget_changes {k : ShelfId} {x : Option Slot} {s : State} (h : x ≠ targetSlot s k) :
    applyTarget k x s = changeTarget k (x.map (freezeTarget s)) s := by
  have hnew : x.map (freezeTarget s) ≠ s.shelves[k].target := fun hh => h (by
    unfold targetSlot; rw [← hh, freezeTarget_slot])
  exact (if_neg hnew).trans (if_neg h)

/-- The slices after a target change: the slice of the shelf takes the slot, on a state in which only the record moved. -/
theorem applyTarget_slices_ne {k : ShelfId} {x : Option Slot} {s : State} (h : x ≠ targetSlot s k) :
    ∃ w, w.slices = s.slices ∧ w.osc = s.osc ∧ w.lane = s.lane ∧ (applyTarget k x s).slices = (takeTarget k x w).slices :=
  ⟨s.setShelf k { s.shelves[k] with target := x.map (freezeTarget s) }, rfl, rfl, rfl, by rw [applyTarget_slices, if_neg h]⟩

theorem applyTarget_otherSlices (k j : ShelfId) (x : Option Slot) (s : State) (hj : j ≠ k) :
    (applyTarget k x s).slices[j] = s.slices[j] := by
  by_cases h : x = targetSlot s k
  · rw [applyTarget_slices, if_pos h]
  · obtain ⟨w, hw, -, -, hslices⟩ := applyTarget_slices_ne h
    rw [hslices, takeTarget_slices k x w j hj, hw]

/-- What a target change leaves of the slice, whatever it names: the next sequence, the target, the history flag, the settle
timer stopped, and the unsent flag set when the Directive found the queue full (R110 to R113). -/
theorem takeTarget_slice (k : ShelfId) (x : Option Slot) (w : State) (hp : w.slices[k].timing ≠ .parked) :
    let v := (takeTarget k x w).slices[k]
    v.seq = w.slices[k].seq + 1 ∧ v.target = x ∧ v.settleTimer = none ∧ v.history = w.slices[k].history ∧
      v.unsent = decide (32 ≤ w.lane.fabric.localQ.length) := by
  cases x with
  | some c =>
    have hat : (takeTarget k (some c) w).slices[k] = _ := targetToSlot_at k k c w hp
    rw [if_pos rfl] at hat
    dsimp only
    rw [hat]
    exact ⟨rfl, rfl, rfl, rfl, rfl⟩
  | none =>
    have hat : (takeTarget k none w).slices[k] = _ := targetToNone_at k k w hp
    rw [if_pos rfl] at hat
    dsimp only at hat ⊢
    rw [hat]
    split <;> exact ⟨rfl, rfl, rfl, rfl, rfl⟩

/-- A target change that names a slot: TRACK, ACQUIRING, and the lock timer started (R112). -/
theorem takeTarget_some_slice (k : ShelfId) (c : Slot) (w : State) (hp : w.slices[k].timing ≠ .parked) :
    let v := (takeTarget k (some c) w).slices[k]
    v.action = .track c ∧ v.timing = .acquiring ∧ v.holdoverSince = none ∧
      v.lockTimer = some (w.osc + w.slices[k].cfg.lockS * 125000000) := by
  have hat : (takeTarget k (some c) w).slices[k] = _ := targetToSlot_at k k c w hp
  rw [if_pos rfl] at hat
  dsimp only
  rw [hat]
  exact ⟨rfl, rfl, rfl, rfl⟩

/-- A target change that names NONE: HOLD, and HOLDOVER or FREERUN by the last report (R113). -/
theorem takeTarget_none_slice (k : ShelfId) (w : State) (hp : w.slices[k].timing ≠ .parked) :
    let v := (takeTarget k none w).slices[k]
    v.action = .hold ∧ v.lockTimer = none ∧
      if w.slices[k].lastReport.map Report.holdoverReady = some true then
        v.timing = .holdover ∧ v.holdoverSince = some w.osc
      else v.timing = .freerun ∧ v.holdoverSince = none := by
  have hat : (takeTarget k none w).slices[k] = _ := targetToNone_at k k w hp
  rw [if_pos rfl] at hat
  dsimp only at hat ⊢
  rw [hat]
  split <;> exact ⟨rfl, rfl, rfl, rfl⟩

/-- Settles O27: the computed target is applied to a state in which slices, lists and target records are those before. -/
theorem targetChangeDirectsModule : Obligations.TargetChangeDirectsModule := by
  intro k m rest s hq hp hturn
  have hexec := exec_evaluation_head hq hturn
  have hframe := (exec_sameBut .evaluation s _ hexec).mono (qs := .count :: .queue :: .shelves :: sliceParts)
  obtain ⟨x, v, hmarked, happlies⟩ := evaluate_applies k m (s.entryTaken rest) hp
  have hparked : v.slices[k].timing ≠ .parked := by rw [hmarked.slices_eq]; exact hp
  have hbefore : targetSlot v k = targetSlot s k := hmarked.targetSlot_eq k
  have hrecord : v.shelves[k].target = s.shelves[k].target := (hmarked.shelf k).1
  have hvqueue : v.engine.queue = rest := hmarked.frame .queue (by decide)
  have hqueued := applyTarget_queued k x v
  have hafter : (applyTarget k x v).shelves[k].target = x.map (freezeTarget v) := by rw [applyTarget_at, if_pos rfl]
  obtain ⟨hquiet, hdirects⟩ := applyTarget_directs k x v hparked
  rw [← hafter, hrecord] at hqueued
  rw [happlies] at hexec hframe
  refine ⟨_, hexec, fun j hj => ?others, fun hsame => ?unchanged, fun hchanged => ?cascade, fun hsame => ?kept,
    fun hchanged => ?change, hframe⟩
  case others => rw [applyTarget_otherSlices k j x v hj, hmarked.slices_eq]; rfl
  case unchanged => rw [if_pos hsame] at hqueued; exact hqueued.trans hvqueue
  case cascade =>
    rw [if_neg hchanged] at hqueued
    exact hqueued.congr (fun j => by rw [hmarked.listsShelfKind_eq j]; rfl) hvqueue
  case kept =>
    rw [applyTarget_targetSlot, ← hbefore] at hsame
    refine ⟨?_, (hquiet hsame).trans hmarked.fabric_eq⟩
    rw [applyTarget_slices, if_pos hsame, hmarked.slices_eq]; rfl
  case change =>
    rw [applyTarget_targetSlot] at hchanged ⊢
    rw [← hbefore] at hchanged
    obtain ⟨hfabric, htiming⟩ := hdirects hchanged
    obtain ⟨w, hw, hosc, hlane, hslices⟩ := applyTarget_slices_ne hchanged
    have hwslices : w.slices = s.slices := hw.trans hmarked.slices_eq
    have hwosc : w.osc = s.osc := hosc.trans (hmarked.frame .osc (by decide))
    have hwfabric : w.lane.fabric = s.lane.fabric := (congrArg Lane.fabric hlane).trans hmarked.fabric_eq
    have hwparked : w.slices[k].timing ≠ .parked := by rw [hwslices]; exact hp
    obtain ⟨hseq, htarget, hsettle, hhistory, hunsent⟩ := takeTarget_slice k x w hwparked
    rw [hmarked.slices_eq, hmarked.live_eq, hmarked.fabric_eq, hmarked.directiveTo_eq] at hfabric
    rw [hmarked.slices_eq, hmarked.enabled_eq] at htiming
    rw [← hslices, hwslices] at hseq hhistory
    rw [← hslices] at htarget hsettle
    rw [← hslices, hwfabric] at hunsent
    refine ⟨hfabric, htiming, hseq, htarget, hsettle, hhistory, hunsent, fun henabled => ?_, fun c hc => ?_, fun hc => ?_⟩
    · rw [applyTarget_changes hchanged]
      exact changeTarget_not_clear k _ v (by rw [hmarked.enabled_eq]; exact henabled)
    · subst hc
      have hslice := takeTarget_some_slice k c w hwparked
      rw [← hslices, hwslices, hwosc] at hslice
      exact hslice
    · subst hc
      have hslice := takeTarget_none_slice k w hwparked
      rw [← hslices, hwslices, hwosc] at hslice
      exact hslice

end Sys2Proof.Machine
end

section
/-! PROOFS. The requests that the engine serves: operator commands (O46, O47) and CLEAR_MARKS (O49). -/

namespace Sys2Proof.Machine

-- One theorem after the other: the joined text would otherwise ask for a thread per waiting proof.
set_option Elab.async false

/-! ### The engine's service of a request (R83, R84) -/

/-- The state in which the engine serves an operation: the budget count is 0 (R83). -/
def State.countCleared (s : State) : State := s.setEngine { s.engine with count := 0 }

theorem countCleared_sameBut (s : State) : sameBut [.count] s s.countCleared := by
  intro p; cases p <;> simp [Part.same, State.countCleared]

/-- A row that the engine serves answers, in its turn, a request that passes its checks with what the service leaves. -/
theorem engine_served {row : Instr} {check : Request → State → Option RefusalAnswer} {run : Request → State → Served}
    {r : Request} {s : State} (hrow : exec row s = .next (serveEngine row check run s)) (htaken : EngineTaken row r s)
    (hcheck : check r s = none) {o : Served} (ho : run r s.countCleared = o) :
    ∃ t, exec row s = .next t ∧ Answered r o.status o.body o.state t :=
  ⟨_, hrow.trans (congrArg Host.Outcome.next (serveEngine_runs check run htaken hcheck)),
    ho ▸ answer_answered r (run r s.countCleared)⟩

/-- A row that the engine serves leaves a request that passes its checks at the engine, while evaluations come first. -/
theorem engine_waits {row : Instr} {check : Request → State → Option RefusalAnswer} {run : Request → State → Served}
    {r : Request} {s : State} (hrow : exec row s = .next (serveEngine row check run s)) (htaken : Taken row r s)
    (hcheck : check r s = none) (hcount : s.engine.count < s.engine.budget) (hqueue : s.engine.queue ≠ []) :
    ∃ t, exec row s = .next t ∧ t.agent.phase = .engineOp ∧ sameBut [.phase] s t := by
  have hturn : operationTurn s = false := by
    rw [Bool.eq_false_iff, ne_eq, operationTurn_iff, not_or, Nat.not_le]
    exact ⟨hcount, hqueue⟩
  have hwaits : serveEngine row check run s = s.setAgent { s.agent with phase := .engineOp } := by
    obtain ⟨hphase, f, rest, hrequests, hspells, hrequest⟩ := htaken
    simp only [serveEngine, hphase, hrequests, hspells, hrequest, hcheck, hturn, if_true, Bool.false_eq_true, if_false]
  refine ⟨_, hrow.trans (congrArg Host.Outcome.next hwaits), rfl, fun p hp => ?_⟩
  cases p <;> simp_all [Part.same]

theorem unguarded_none {c : Option Status} (h : c = none) : unguarded c = none := by rw [h]; rfl

/-- The requests that the engine serves for every masked shelf, none of them refused (R174, R178). -/
theorem masked_served {row : Instr} {check : Request → Option Status} {act : ShelfId → State → State} {r : Request}
    {s : State} (hrow : exec row s = .next (serveEngine row (fun r _ => unguarded (check r)) (runMasked act) s))
    (htaken : EngineTaken row r s) (hcheck : check r = none) :
    ∃ t, exec row s = .next t ∧
      Answered r .done (maskBytes (maskOf r.body) ++ maskBytes 0 ++ [0x00])
        (overMask (maskOf r.body) act s.countCleared) t :=
  engine_served hrow htaken (unguarded_none hcheck) rfl

/-! ### COMMAND (R93 to R98) -/

theorem commandShelf_eq {r : Request} {k : ShelfId} (h : byteAt r.body 0 = k.val) : commandShelf r = k := by
  refine Fin.ext ?_
  simp [commandShelf, h]

theorem commandEntryOf_eq {r : Request} {e : EntryId} (h : byteAt r.body 2 = e.val) : commandEntryOf r = e := by
  refine Fin.ext ?_
  simp [commandEntryOf, h]

theorem countCleared_forceAdmits (s : State) (k : ShelfId) (e : EntryId) :
    forceAdmits s.countCleared k e = forceAdmits s k e := forceAdmits_congr k rfl (fun _ => rfl) rfl rfl rfl e

theorem countCleared_manualAdmits (s : State) (k : ShelfId) (e : EntryId) :
    manualAdmits s.countCleared k e = manualAdmits s k e := by
  have heligible : ∀ f, eligible s.countCleared k f = eligible s k f := eligible_congr rfl rfl rfl rfl k
  rw [Bool.eq_iff_iff, manualAdmits_iff, manualAdmits_iff]
  simp only [heligible]
  exact Iff.rfl

/-- The refusals of R93 in their order; each names the entry that the command names. -/
theorem commandRefusal_eq {k : ShelfId} {e : EntryId} {c : Command} {s : State}
    (hc : c = .hold ∨ c = .force e ∨ c = .manual e) :
    commandRefusal k c s.countCleared =
      if s.slices[k].timing = .parked then some .parked
      else if precedence c < precedence s.shelves[k].command then some .preempted
      else if c = .force e ∧ forceAdmits s k e = false ∨ c = .manual e ∧ manualAdmits s k e = false then some .notEligible
      else none := by
  refine if_congr Iff.rfl rfl (if_congr Iff.rfl rfl ?_)
  rcases hc with rfl | rfl | rfl
  · simp
  · simp only [countCleared_forceAdmits]
    cases forceAdmits s k e <;> simp
  · simp only [countCleared_manualAdmits]
    cases manualAdmits s k e <;> simp

theorem runCommand_refuses {c : Request → Command} {r : Request} {s : State} {st : Status}
    (h : commandRefusal (commandShelf r) (c r) s = some st) : runCommand c r s = ⟨s, st, []⟩ := by
  unfold runCommand
  rw [h]

theorem runCommand_stores {c : Request → Command} {r : Request} {s : State}
    (h : commandRefusal (commandShelf r) (c r) s = none) :
    runCommand c r s = ⟨setCommand (commandShelf r) (c r) s, .done, []⟩ := by
  unfold runCommand
  rw [h]

/-- What the engine leaves after setting a command: the budget count at 0, the command, and a place in the queue on a change
(R83, R93, R97). -/
theorem setCommand_served (k : ShelfId) (c : Command) (s : State) :
    let u := setCommand k c s.countCleared
    u.engine.count = 0 ∧ u.shelves = s.shelves.set k { s.shelves[k] with command := c } ∧
      queuedBy (fun j => j = k ∧ s.shelves[k].command ≠ c) s u ∧ sameBut [.count, .shelves, .queue] s u := by
  obtain ⟨hshelves, hqueued, hframe⟩ := setCommand_spec k c s.countCleared
  exact ⟨hframe .count (by decide), hshelves, hqueued, (countCleared_sameBut s).andThen hframe⟩

/-- HOLD, FORCE e or MANUAL e in its turn: refused by the checks of R93, or stored. -/
theorem command_served {row : Instr} {c : Request → Command} {r : Request} {k : ShelfId} {e : EntryId} {s : State}
    (hrow : exec row s = .next (serveEngine row (fun r _ => unguarded (checkCommand r)) (runCommand c) s))
    (hc : c r = .hold ∨ c r = .force e ∨ c r = .manual e) (hcheck : checkCommand r = none) (hk : commandShelf r = k)
    (htaken : EngineTaken row r s) :
    ∃ u t, exec row s = .next t ∧ u.engine.count = 0 ∧
      if s.slices[k].timing = .parked then Answered r .parked [] u t ∧ sameBut [.count] s u
      else if precedence (c r) < precedence s.shelves[k].command then Answered r .preempted [] u t ∧ sameBut [.count] s u
      else if c r = .force e ∧ forceAdmits s k e = false ∨ c r = .manual e ∧ manualAdmits s k e = false then
        Answered r .notEligible [] u t ∧ sameBut [.count] s u
      else
        Answered r .done [] u t ∧ u.shelves = s.shelves.set k { s.shelves[k] with command := c r } ∧
          queuedBy (fun j => j = k ∧ s.shelves[k].command ≠ c r) s u ∧ sameBut [.count, .shelves, .queue] s u := by
  have hrefusal := commandRefusal_eq (k := k) (s := s) hc
  subst hk
  have hrefused : ∀ st, commandRefusal (commandShelf r) (c r) s.countCleared = some st →
      ∃ t, exec row s = .next t ∧ Answered r st [] s.countCleared t := fun st h =>
    engine_served hrow htaken (unguarded_none hcheck) (runCommand_refuses h)
  have hframe := countCleared_sameBut s
  by_cases hparked : s.slices[commandShelf r].timing = .parked
  · obtain ⟨t, hexec, hanswered⟩ := hrefused .parked (hrefusal.trans (if_pos hparked))
    exact ⟨_, t, hexec, rfl, by rw [if_pos hparked]; exact ⟨hanswered, hframe⟩⟩
  rw [if_neg hparked] at hrefusal
  simp only [if_neg hparked]
  by_cases hpreempted : precedence (c r) < precedence s.shelves[commandShelf r].command
  · obtain ⟨t, hexec, hanswered⟩ := hrefused .preempted (hrefusal.trans (if_pos hpreempted))
    exact ⟨_, t, hexec, rfl, by rw [if_pos hpreempted]; exact ⟨hanswered, hframe⟩⟩
  rw [if_neg hpreempted] at hrefusal
  simp only [if_neg hpreempted]
  by_cases hineligible : c r = .force e ∧ forceAdmits s (commandShelf r) e = false ∨
      c r = .manual e ∧ manualAdmits s (commandShelf r) e = false
  · obtain ⟨t, hexec, hanswered⟩ := hrefused .notEligible (hrefusal.trans (if_pos hineligible))
    exact ⟨_, t, hexec, rfl, by rw [if_pos hineligible]; exact ⟨hanswered, hframe⟩⟩
  rw [if_neg hineligible] at hrefusal
  simp only [if_neg hineligible]
  obtain ⟨t, hexec, hanswered⟩ := engine_served hrow htaken (unguarded_none hcheck) (runCommand_stores hrefusal)
  obtain ⟨hcount, hshelves, hqueued, hkeeps⟩ := setCommand_served (commandShelf r) (c r) s
  exact ⟨_, t, hexec, hcount, hanswered, hshelves, hqueued, hkeeps⟩

theorem runUnranked_parked {act : Request → State → State} {r : Request} {s : State}
    (h : s.slices[commandShelf r].timing = .parked) : runUnranked act r s = ⟨s, .parked, []⟩ := if_pos h

theorem runUnranked_unparked {act : Request → State → State} {r : Request} {s : State}
    (h : s.slices[commandShelf r].timing ≠ .parked) : runUnranked act r s = ⟨act r s, .done, []⟩ := if_neg h

/-- Settles O47: CLEAR stores the command NONE. -/
theorem clearEndsCommand : Obligations.ClearEndsCommand := by
  intro r k s htaken hcheck hk hp
  obtain rfl : commandShelf r = k := commandShelf_eq hk
  have hunparked : s.countCleared.slices[commandShelf r].timing ≠ .parked := hp
  obtain ⟨t, hexec, hanswered⟩ := engine_served rfl htaken (unguarded_none hcheck) (runUnranked_unparked hunparked)
  obtain ⟨hcount, hshelves, hqueued, hkeeps⟩ := setCommand_served (commandShelf r) .none s
  exact ⟨_, t, hexec, hcount, hanswered, hshelves, hqueued, hkeeps⟩

/-- The engine arbiter gives way to a waiting operation once the count has reached E (R83). -/
theorem exec_evaluation_yields {s : State} (hphase : s.agent.phase = .engineOp) (hcount : s.engine.budget ≤ s.engine.count) :
    exec .evaluation s = .next s := by
  have hyields : serveEvaluation s = s := by
    unfold serveEvaluation
    split
    · rfl
    · exact if_pos (Bool.and_eq_true_iff.2 ⟨decide_eq_true hphase, (operationTurn_iff s).2 (.inl hcount)⟩)
  exact congrArg Host.Outcome.next hyields

/-- LOCKOUT e in its turn on a shelf that is not parked (R98, R154). -/
theorem lockout_served {r : Request} {k : ShelfId} {e : EntryId} {s : State} (htaken : EngineTaken .commandLockout r s)
    (hcheck : checkCommand r = none) (hk : commandShelf r = k) (he : commandEntryOf r = e)
    (hp : s.slices[k].timing ≠ .parked) :
    ∃ t, exec .commandLockout s = .next t ∧
      Answered r .done [] (setLockout k e (bitAt r.body 3 0) s.countCleared) t := by
  subst hk he
  exact engine_served rfl htaken (unguarded_none hcheck) (runUnranked_unparked hp)

/-- Settles O46: the service of each command, and the engine arbiter's choice. -/
theorem commandsServed : Obligations.CommandsServed := by
  refine ⟨?waiting, fun s => exec_evaluation_yields, fun r k s htaken hcheck hk hparked => ?clear,
    fun r k e s hcheck hk he => ⟨?ranked, fun htaken => ?lockout⟩⟩
  case waiting =>
    simp only [List.forall_mem_cons]
    refine ⟨fun r s htaken hcheck => engine_waits rfl htaken (hcheck.1 ▸ guarded_unheld hcheck.2),
      fun r s htaken hcheck => engine_waits rfl htaken (hcheck.1 ▸ guarded_unheld hcheck.2),
      fun r s htaken hcheck => engine_waits rfl htaken (unguarded_none hcheck),
      fun r s htaken hcheck => engine_waits rfl htaken (unguarded_none hcheck),
      fun r s htaken hcheck => engine_waits rfl htaken (unguarded_none hcheck),
      fun r s htaken hcheck => engine_waits rfl htaken (unguarded_none hcheck),
      fun r s htaken hcheck => engine_waits rfl htaken (unguarded_none hcheck),
      fun r s htaken hcheck => engine_waits rfl htaken (unguarded_none hcheck),
      fun r s htaken hcheck => engine_waits rfl htaken (unguarded_none hcheck),
      fun r s htaken hcheck => engine_waits rfl htaken (unguarded_none hcheck),
      fun r s htaken hlength => engine_waits rfl htaken (unguarded_none ?_), fun _ h => absurd h List.not_mem_nil⟩
    unfold checkClearMarks checkBody
    rw [decide_eq_true hlength]
    rfl
  case clear =>
    obtain rfl : commandShelf r = k := commandShelf_eq hk
    have hparked : s.countCleared.slices[commandShelf r].timing = .parked := hparked
    obtain ⟨t, hexec, hanswered⟩ := engine_served rfl htaken (unguarded_none hcheck) (runUnranked_parked hparked)
    exact ⟨_, t, hexec, rfl, hanswered, countCleared_sameBut s⟩
  case ranked =>
    have hk := commandShelf_eq hk
    have he := commandEntryOf_eq he
    subst he
    exact List.forall_mem_cons.2 ⟨command_served (c := fun _ => .hold) rfl (.inl rfl) hcheck hk,
      List.forall_mem_cons.2 ⟨command_served (c := fun r => .force (commandEntryOf r)) rfl (.inr (.inl rfl)) hcheck hk,
        List.forall_mem_cons.2
          ⟨command_served (c := fun r => .manual (commandEntryOf r)) rfl (.inr (.inr rfl)) hcheck hk, List.forall_mem_nil _⟩⟩⟩
  case lockout =>
    obtain rfl : commandShelf r = k := commandShelf_eq hk
    by_cases hparked : s.slices[commandShelf r].timing = .parked
    · have hparked' : s.countCleared.slices[commandShelf r].timing = .parked := hparked
      obtain ⟨t, hexec, hanswered⟩ := engine_served rfl htaken (unguarded_none hcheck) (runUnranked_parked hparked')
      exact ⟨_, t, hexec, rfl, by rw [if_pos hparked]; exact ⟨hanswered, countCleared_sameBut s⟩⟩
    obtain ⟨t, hexec, hanswered⟩ := lockout_served htaken hcheck rfl (commandEntryOf_eq he) hparked
    simp only [if_neg hparked]
    by_cases hsame : s.shelves[commandShelf r].entries[e].lockout = bitAt r.body 3 0
    · have hstays : setLockout (commandShelf r) e (bitAt r.body 3 0) s.countCleared = s.countCleared := if_pos hsame
      rw [hstays] at hanswered
      exact ⟨_, t, hexec, rfl, hanswered, fun _ => countCleared_sameBut s, fun hne => absurd hsame hne⟩
    · obtain ⟨hshelves, hqueued, hframe⟩ := setLockout_spec (commandShelf r) e (bitAt r.body 3 0) s.countCleared hsame
      exact ⟨_, t, hexec, hframe .count (by decide), hanswered, fun heq => absurd heq hsame, fun _ =>
        ⟨hshelves, hqueued, setLockout_group _ e _ s.countCleared hsame, (countCleared_sameBut s).andThen hframe⟩⟩

/-! ### CLEAR_MARKS (R100) -/

/-- What CLEAR_MARKS does to each shelf: a masked one is emptied, and queued if it held a slot. -/
theorem overMask_clearMarks (mask : BitVec 16) (s : State) (k : ShelfId) :
    (overMask mask clearMarks s).shelves[k] =
        (if mask.getLsbD k.val then { s.shelves[k] with failed := Vector.replicate 24 false } else s.shelves[k]) ∧
      (k ∈ (overMask mask clearMarks s).engine.queue.map EvalEntry.shelf ↔
        (mask.getLsbD k.val = true ∧ ∃ n : Slot, s.shelves[k].failed[n] = true) ∨
          k ∈ s.engine.queue.map EvalEntry.shelf) := by
  have hothers : ∀ (i j : ShelfId) (t : State), i ≠ j →
      (clearMarks i t).shelves[j] = t.shelves[j] ∧
        (j ∈ (clearMarks i t).engine.queue.map EvalEntry.shelf ↔ j ∈ t.engine.queue.map EvalEntry.shelf) := by
    intro i j t hij
    obtain ⟨hshelves, hqueued, -⟩ := clearMarks_spec i t
    refine ⟨?_, (hqueued j).trans (or_iff_right fun h => hij h.1.symm)⟩
    rw [hshelves, getElem_set_fin, if_neg hij]
  refine overMask_at mask clearMarks
    (fun k t => (t.shelves[k], decide (k ∈ t.engine.queue.map EvalEntry.shelf))) (fun _ => True)
    (fun k t => t.shelves[k] =
        (if mask.getLsbD k.val then { s.shelves[k] with failed := Vector.replicate 24 false } else s.shelves[k]) ∧
      (k ∈ t.engine.queue.map EvalEntry.shelf ↔
        (mask.getLsbD k.val = true ∧ ∃ n : Slot, s.shelves[k].failed[n] = true) ∨
          k ∈ s.engine.queue.map EvalEntry.shelf)) s (fun _ _ _ => trivial) (fun i j t _ hij => ?_)
    (fun i t _ hmask hi => ?_) (fun i t _ hmask hi => ?_) (fun i j t _ hij hj => ?_) trivial k
  · obtain ⟨hshelf, hqueue⟩ := hothers i j t hij
    exact Prod.ext hshelf (decide_eq_decide.2 hqueue)
  · obtain ⟨hshelf, hqueue⟩ := Prod.mk.inj hi
    obtain ⟨hshelves, hqueued, -⟩ := clearMarks_spec i t
    refine ⟨?_, ?_⟩
    · rw [hshelves, getElem_set_fin, if_pos rfl, if_pos hmask, hshelf]
    · rw [hqueued i]
      simp only [hshelf, decide_eq_decide.1 hqueue, hmask, true_and]
  · obtain ⟨hshelf, hqueue⟩ := Prod.mk.inj hi
    rw [hmask, hshelf, decide_eq_decide.1 hqueue]
    exact ⟨rfl, (or_iff_right fun h => Bool.false_ne_true h.1).symm⟩
  · obtain ⟨hshelf, hqueue⟩ := hothers i j t hij
    rw [hshelf, hqueue]
    exact hj

/-- Settles O49: the walk over the masked shelves empties each set. -/
theorem clearMarksEmptiesSets : Obligations.ClearMarksEmptiesSets := by
  intro r mask s htaken hlength hmask
  obtain rfl : mask = maskOf r.body := hmask
  have hcheck : checkClearMarks r = none := by
    unfold checkClearMarks checkBody
    rw [decide_eq_true hlength]
    rfl
  obtain ⟨t, hexec, hanswered⟩ := masked_served rfl htaken hcheck
  have hframe : sameBut [.shelves, .queue] s.countCleared (overMask (maskOf r.body) clearMarks s.countCleared) :=
    overMask_sameBut _ _ (fun k t => (clearMarks_spec k t).2.2) _
  have hshelf := overMask_clearMarks (maskOf r.body) s.countCleared
  exact ⟨_, t, hexec, hframe .count (by decide), hanswered, fun k => (hshelf k).1, fun k => (hshelf k).2,
    (countCleared_sameBut s).andThen hframe⟩

end Sys2Proof.Machine
end

section
/-! PROOFS. SLICE with PARK, UNPARK and RESET (O48): what each leaves of a masked shelf, and the HOLD Directives that the
walk over the mask offers. -/

namespace Sys2Proof.Machine

-- One theorem after the other: the joined text would otherwise ask for a thread per waiting proof.
set_option Elab.async false

/-- The slice and the engine's record of shelf k. -/
def shelfState (k : ShelfId) (t : State) : Slice × Shelf := (t.slices[k], t.shelves[k])

theorem shelfState_eq_iff {k : ShelfId} {s t : State} :
    shelfState k t = shelfState k s ↔ t.slices[k] = s.slices[k] ∧ t.shelves[k] = s.shelves[k] := Prod.mk.injEq .. ▸ Iff.rfl

/-! ### PARK (R102, R125) -/

/-- Shelf k is as in s, or parked from there: the target withdrawn, the timers stopped, and no Directive sent (R102, R125). -/
def parkedFrom (s : State) (k : ShelfId) (t : State) : Prop :=
  t.shelves[k] = { s.shelves[k] with target := none } ∧
    t.slices[k] =
      { s.slices[k].stopTimers with
        timing := .parked
        target := none
        reportTimer := none
        unreachable := false
        unsent := false
        triple := t.slices[k].triple }

theorem parkedFrom_congr {s t u : State} {k : ShelfId} (h : shelfState k u = shelfState k t) (ht : parkedFrom s k t) :
    parkedFrom s k u := by
  obtain ⟨hslice, hshelf⟩ := shelfState_eq_iff.1 h
  unfold parkedFrom
  rw [hslice, hshelf]
  exact ht

theorem parkBoth_other {i j : ShelfId} (t : State) (hij : i ≠ j) : shelfState j (parkBoth i t) = shelfState j t := by
  by_cases hp : t.slices[i].timing = .parked
  · rw [parkBoth_parked i t hp]
  · obtain ⟨hslices, hshelves, -⟩ := parkBoth_spec i t hp
    refine shelfState_eq_iff.2 ⟨?_, ?_⟩
    · rw [hslices, if_neg hij]
    · rw [hshelves, getElem_set_fin, if_neg hij]

theorem parkBoth_parks {k : ShelfId} {s t : State} (h : shelfState k t = shelfState k s)
    (hp : s.slices[k].timing ≠ .parked) : parkedFrom s k (parkBoth k t) := by
  obtain ⟨hslice, hshelf⟩ := shelfState_eq_iff.1 h
  obtain ⟨hslices, hshelves, -⟩ := parkBoth_spec k t (hslice ▸ hp)
  have hk := hslices k
  rw [if_pos rfl, hslice] at hk
  refine ⟨?_, hk⟩
  rw [hshelves, getElem_set_fin, if_pos rfl, hshelf]

theorem parkBoth_sameBut (k : ShelfId) (t : State) :
    sameBut [.shelves, .queue, .slices, .latches, .conditions, .noticeState, .control, .tripleHandovers, .noticeHandovers]
      t (parkBoth k t) := by
  by_cases hp : t.slices[k].timing = .parked
  · rw [parkBoth_parked k t hp]; exact sameBut.refl _ _
  · exact (parkBoth_spec k t hp).2.2

/-- PARK over a mask: the masked shelves that are not parked are parked, and the others stay. -/
theorem overMask_parkBoth (mask : BitVec 16) (s : State) (k : ShelfId) :
    (mask.getLsbD k.val = true → s.slices[k].timing ≠ .parked → parkedFrom s k (overMask mask parkBoth s)) ∧
      (mask.getLsbD k.val = false ∨ s.slices[k].timing = .parked →
        shelfState k (overMask mask parkBoth s) = shelfState k s) := by
  refine overMask_at mask parkBoth shelfState (fun _ => True)
    (fun k t => (mask.getLsbD k.val = true → s.slices[k].timing ≠ .parked → parkedFrom s k t) ∧
      (mask.getLsbD k.val = false ∨ s.slices[k].timing = .parked → shelfState k t = shelfState k s)) s
    (fun _ _ _ => trivial) (fun i j t _ hij => parkBoth_other t hij) (fun i t _ hmask hi => ?_)
    (fun i t _ hmask hi => ?_) (fun i j t _ hij hj => ?_) trivial k
  · refine ⟨fun _ hp => parkBoth_parks hi hp, fun h => ?_⟩
    have hp : s.slices[i].timing = .parked := h.resolve_left (by rw [hmask]; exact Bool.noConfusion)
    rw [parkBoth_parked i t ((shelfState_eq_iff.1 hi).1 ▸ hp)]
    exact hi
  · exact ⟨fun h => absurd (hmask.symm.trans h) Bool.false_ne_true, fun _ => hi⟩
  · have hkept := parkBoth_other t hij
    exact ⟨fun h hp => parkedFrom_congr hkept (hj.1 h hp), fun h => hkept.trans (hj.2 h)⟩

/-! ### UNPARK (R103, R126) -/

/-- Shelf k is woken from s: FREERUN, HOLD under the next sequence, the report timer started, and a place in the queue. -/
def wokenFrom (s : State) (k : ShelfId) (t : State) : Prop :=
  t.slices[k] =
      { s.slices[k] with
        timing := .freerun
        unreachable := false
        reportTimer := some (s.osc + s.slices[k].cfg.reportS * 125000000)
        seq := s.slices[k].seq + 1
        action := .hold
        unsent := t.slices[k].unsent
        triple := t.slices[k].triple } ∧
    k ∈ t.engine.queue.map EvalEntry.shelf

theorem unparkSlice_other {i j : ShelfId} (t : State) (hij : i ≠ j) : (unparkSlice i t).slices[j] = t.slices[j] := by
  by_cases hp : t.slices[i].timing = .parked
  · obtain ⟨hslices, -⟩ := unparkSlice_spec i t hp
    rw [hslices, if_neg hij]
  · rw [unparkSlice_unparked i t hp]

theorem unparkSlice_keepsQueue (i : ShelfId) {j : ShelfId} {t : State} (h : j ∈ t.engine.queue.map EvalEntry.shelf) :
    j ∈ (unparkSlice i t).engine.queue.map EvalEntry.shelf := by
  by_cases hp : t.slices[i].timing = .parked
  · obtain ⟨-, hqueue, -⟩ := unparkSlice_spec i t hp
    exact (hqueue j).2 (.inr h)
  · rw [unparkSlice_unparked i t hp]; exact h

theorem unparkSlice_wakes {k : ShelfId} {s t : State} (h : t.slices[k] = s.slices[k]) (hosc : t.osc = s.osc)
    (hp : s.slices[k].timing = .parked) : wokenFrom s k (unparkSlice k t) := by
  obtain ⟨hslices, hqueue, -⟩ := unparkSlice_spec k t (h ▸ hp)
  have hk := hslices k
  rw [if_pos rfl, h, hosc] at hk
  exact ⟨hk, (hqueue k).2 (.inl rfl)⟩

/-- UNPARK over a mask: the masked shelves that are parked are woken, and the other slices stay. -/
theorem overMask_unparkSlice (mask : BitVec 16) (s : State) (k : ShelfId) :
    (mask.getLsbD k.val = true → s.slices[k].timing = .parked → wokenFrom s k (overMask mask unparkSlice s)) ∧
      (mask.getLsbD k.val = false ∨ s.slices[k].timing ≠ .parked →
        (overMask mask unparkSlice s).slices[k] = s.slices[k]) := by
  refine overMask_at mask unparkSlice (fun k t => t.slices[k]) (fun t => t.osc = s.osc)
    (fun k t => (mask.getLsbD k.val = true → s.slices[k].timing = .parked → wokenFrom s k t) ∧
      (mask.getLsbD k.val = false ∨ s.slices[k].timing ≠ .parked → t.slices[k] = s.slices[k])) s
    (fun i t ht => (unparkSlice_sameBut i t .osc (by decide)).trans ht) (fun i j t _ hij => unparkSlice_other t hij)
    (fun i t ht hmask hi => ?_) (fun i t _ hmask hi => ?_) (fun i j t _ hij hj => ?_) rfl k
  · refine ⟨fun _ hp => unparkSlice_wakes hi ht hp, fun h => ?_⟩
    have hi : t.slices[i] = s.slices[i] := hi
    have hp : s.slices[i].timing ≠ .parked := h.resolve_left (by rw [hmask]; exact Bool.noConfusion)
    rw [unparkSlice_unparked i t (hi ▸ hp)]
    exact hi
  · exact ⟨fun h => absurd (hmask.symm.trans h) Bool.false_ne_true, fun _ => hi⟩
  · have hkept := unparkSlice_other t hij
    refine ⟨fun h hp => ?_, fun h => hkept.trans (hj.2 h)⟩
    obtain ⟨hslice, hqueue⟩ := hj.1 h hp
    refine ⟨?_, unparkSlice_keepsQueue i hqueue⟩
    rw [hkept]
    exact hslice

/-! ### RESET (R104, R127) -/

/-- Shelf k is reset from s: the engine's record cleared, history and report forgotten, and a place in the queue; a PARKED
slice stays so, and another enters FREERUN with HOLD directed under the next sequence. -/
structure ResetFrom (s : State) (k : ShelfId) (t : State) : Prop where
  shelf : t.shelves[k] = { s.shelves[k] with command := .none, failed := Vector.replicate 24 false, target := none }
  history : t.slices[k].history = false
  lastReport : t.slices[k].lastReport = none
  queued : k ∈ t.engine.queue.map EvalEntry.shelf
  parked : s.slices[k].timing = .parked → t.slices[k].timing = .parked ∧ t.slices[k].seq = s.slices[k].seq
  unparked : s.slices[k].timing ≠ .parked →
    t.slices[k].timing = .freerun ∧ t.slices[k].target = none ∧ t.slices[k].seq = s.slices[k].seq + 1 ∧
      t.slices[k].action = .hold ∧ t.slices[k].unreachable = false ∧
      t.slices[k].reportTimer = some (s.osc + s.slices[k].cfg.reportS * 125000000)

theorem resetBoth_other {i j : ShelfId} (t : State) (hij : i ≠ j) : shelfState j (resetBoth i t) = shelfState j t := by
  obtain ⟨hslices, -, -, -, -, hshelves, -⟩ := resetBoth_spec i t
  refine shelfState_eq_iff.2 ⟨hslices j (Ne.symm hij), ?_⟩
  rw [hshelves, getElem_set_fin, if_neg hij]

theorem resetBoth_resets {k : ShelfId} {s t : State} (h : shelfState k t = shelfState k s) (hosc : t.osc = s.osc) :
    ResetFrom s k (resetBoth k t) := by
  obtain ⟨hslice, hshelf⟩ := shelfState_eq_iff.1 h
  obtain ⟨-, hhistory, hreport, hparked, hunparked, hshelves, hqueue, -⟩ := resetBoth_spec k t
  rw [hslice] at hparked hunparked
  rw [hosc] at hunparked
  refine ⟨?_, hhistory, hreport, hqueue k (.inl rfl), hparked, hunparked⟩
  rw [hshelves, getElem_set_fin, if_pos rfl, hshelf]

theorem ResetFrom.kept {s t u : State} {k : ShelfId} (ht : ResetFrom s k t) (h : shelfState k u = shelfState k t)
    (hqueue : k ∈ u.engine.queue.map EvalEntry.shelf) : ResetFrom s k u := by
  obtain ⟨hslice, hshelf⟩ := shelfState_eq_iff.1 h
  exact ⟨hshelf.trans ht.shelf, by rw [hslice]; exact ht.history, by rw [hslice]; exact ht.lastReport, hqueue,
    by rw [hslice]; exact ht.parked, by rw [hslice]; exact ht.unparked⟩

theorem resetBoth_sameBut (k : ShelfId) (t : State) : sameBut (.shelves :: .queue :: sliceParts) t (resetBoth k t) := by
  obtain ⟨-, -, -, -, -, -, -, hframe⟩ := resetBoth_spec k t
  exact hframe

/-- RESET over a mask: the masked shelves are reset, and the others stay. -/
theorem overMask_resetBoth (mask : BitVec 16) (s : State) (k : ShelfId) :
    (mask.getLsbD k.val = true → ResetFrom s k (overMask mask resetBoth s)) ∧
      (mask.getLsbD k.val = false → shelfState k (overMask mask resetBoth s) = shelfState k s) := by
  refine overMask_at mask resetBoth shelfState (fun t => t.osc = s.osc)
    (fun k t => (mask.getLsbD k.val = true → ResetFrom s k t) ∧
      (mask.getLsbD k.val = false → shelfState k t = shelfState k s)) s
    (fun i t ht => (resetBoth_sameBut i t .osc (by decide)).trans ht) (fun i j t _ hij => resetBoth_other t hij)
    (fun i t ht hmask hi => ?_) (fun i t _ hmask hi => ?_) (fun i j t _ hij hj => ?_) rfl k
  · exact ⟨fun _ => resetBoth_resets hi ht, fun h => absurd (h.symm.trans hmask) Bool.false_ne_true⟩
  · exact ⟨fun h => absurd (hmask.symm.trans h) Bool.false_ne_true, fun _ => hi⟩
  · have hkept := resetBoth_other t hij
    obtain ⟨-, -, -, -, -, -, hqueue, -⟩ := resetBoth_spec i t
    exact ⟨fun h => (hj.1 h).kept hkept (hqueue j (.inr (hj.1 h).queued)), fun h => hkept.trans (hj.2 h)⟩

/-! ### The settled statement -/

/-- Settles O48, action by action. -/
theorem sliceRequestsServed : Obligations.SliceRequestsServed := by
  intro r mask s hcheck hmask
  obtain rfl : mask = maskOf r.body := hmask
  have hcleared := countCleared_sameBut s
  refine ⟨fun htaken => ?park, fun htaken => ?unpark, fun htaken => ?reset⟩
  case park =>
    obtain ⟨t, hexec, hanswered⟩ := masked_served (act := parkBoth) rfl htaken hcheck
    have hwalk := overMask_parkBoth (maskOf r.body) s.countCleared
    have hframe := overMask_sameBut (maskOf r.body) parkBoth parkBoth_sameBut s.countCleared
    refine ⟨_, t, hexec, hframe .count (by decide), hanswered, fun k hmasked hp => ?_, fun k hstays => ?_,
      hframe .fabric (by decide), hcleared.andThen hframe⟩
    · obtain ⟨hshelf, hslice⟩ := (hwalk k).1 hmasked hp
      unfold targetSlot
      rw [hshelf, hslice]
      exact ⟨rfl, rfl, rfl, rfl, rfl, rfl, rfl, rfl, rfl, rfl, rfl, rfl, rfl, rfl⟩
    · exact shelfState_eq_iff.1 ((hwalk k).2 hstays)
  case unpark =>
    obtain ⟨t, hexec, hanswered⟩ := masked_served (act := unparkSlice) rfl htaken hcheck
    have hwalk := overMask_unparkSlice (maskOf r.body) s.countCleared
    have hframe := overMask_sameBut (maskOf r.body) unparkSlice unparkSlice_sameBut s.countCleared
    obtain ⟨hfabric, hunsent⟩ := overMask_sends (maskOf r.body) unparkSlice
      (fun k => decide (s.slices[k].timing = .parked)) s.countCleared (fun k t => (unparkSlice_sameBut k t).mono)
      (fun _ _ t hij => unparkSlice_other t hij)
      (fun k t ht hk => unparkSlice_sends k t (ht ▸ of_decide_eq_true hk))
      (fun k t ht hk => by rw [unparkSlice_unparked k t (ht ▸ of_decide_eq_false hk)])
    refine ⟨_, t, hexec, hframe .count (by decide), hanswered, fun k hmasked hp => ?_, fun k => (hwalk k).2, hfabric,
      hcleared.andThen hframe⟩
    obtain ⟨hslice, hqueued⟩ := (hwalk k).1 hmasked hp
    have hunsent := hunsent k hmasked (decide_eq_true hp)
    rw [hslice] at hunsent ⊢
    exact ⟨rfl, rfl, rfl, rfl, rfl, rfl, hqueued, hunsent⟩
  case reset =>
    obtain ⟨t, hexec, hanswered⟩ := masked_served (act := resetBoth) rfl htaken hcheck
    have hwalk := overMask_resetBoth (maskOf r.body) s.countCleared
    have hframe := overMask_sameBut (maskOf r.body) resetBoth resetBoth_sameBut s.countCleared
    obtain ⟨hfabric, hunsent⟩ := overMask_sends (maskOf r.body) resetBoth
      (fun k => decide (s.slices[k].timing ≠ .parked)) s.countCleared (fun k t => (resetBoth_sameBut k t).mono)
      (fun _ _ t hij => (shelfState_eq_iff.1 (resetBoth_other t hij)).1)
      (fun k t ht hk => (resetBoth_sends k t).1 (ht ▸ of_decide_eq_true hk))
      (fun k t ht hk => (resetBoth_sends k t).2 (ht ▸ not_not.1 (of_decide_eq_false hk)))
    refine ⟨_, t, hexec, hframe .count (by decide), hanswered, fun k hmasked => ?_,
      fun k hstays => shelfState_eq_iff.1 ((hwalk k).2 hstays), hfabric, hcleared.andThen hframe⟩
    obtain ⟨hshelf, hhistory, hreport, hqueued, hparked, hunparked⟩ := (hwalk k).1 hmasked
    refine ⟨hshelf, hhistory, hreport, hqueued, hparked, fun hp => ?_⟩
    obtain ⟨htiming, htarget, hseq, haction, hunreachable, hreportTimer⟩ := hunparked hp
    exact ⟨htiming, htarget, hseq, haction, hunreachable, hreportTimer, hunsent k hmasked (decide_eq_true hp)⟩

end Sys2Proof.Machine
end

section
/-! PROOFS. The shelf-masked writes: WRITE_LIST_ENTRY (O40) and WRITE_SHELF (O41). -/

namespace Sys2Proof.Machine

-- One theorem after the other: the joined text would otherwise ask for a thread per waiting proof.
set_option Elab.async false

/-- A row that the engine serves under a semaphore answers, in its turn, a request that passes its checks with what the
service leaves. -/
theorem engine_served_guarded {row : Instr} {bank : Fin 5} {check : Request → Option Status}
    {run : Request → State → Served} {r : Request} {s : State}
    (hrow : exec row s = .next (serveEngine row (fun r t => guarded bank (check r) r t) run s))
    (htaken : EngineTaken row r s) (hcheck : check r = none) (hunheld : Unheld bank r s) {o : Served}
    (ho : run r s.countCleared = o) : ∃ t, exec row s = .next t ∧ Answered r o.status o.body o.state t :=
  engine_served hrow htaken (hcheck ▸ guarded_unheld hunheld) ho

/-! ### WRITE_LIST_ENTRY (R78) -/

/-- Entry e of shelf k is written with w, from s to u: the entry, the place in the queue of a changed shelf, the target that
goes with an overwritten entry, and the rest of the record (R78). -/
structure ListWritten (k : ShelfId) (e : EntryId) (w : Entry) (s u : State) : Prop where
  entries : u.shelves[k].entries = s.shelves[k].entries.set e w
  queued : w ≠ s.shelves[k].entries[e] → k ∈ u.engine.queue.map EvalEntry.shelf
  dropped : s.shelves[k].entries[e].priority ≠ 0 → targetSlot s k = some s.shelves[k].entries[e].slot →
    w.slot ≠ s.shelves[k].entries[e].slot ∨ w.priority = 0 → targetSlot u k = none
  written : entryWritten k e w s u

theorem writeEntry_listWritten (k : ShelfId) (e : EntryId) (w : Entry) (s : State) :
    ListWritten k e w s (writeEntry k e w s) := by
  obtain ⟨-, hentries, hqueued, -, hdropped, -⟩ := writeEntry_spec k e w s
  exact ⟨hentries, hqueued, hdropped, writeEntry_written k e w s⟩

/-- A write reads of the state before it only the shelf and its slice. -/
theorem ListWritten.from_same {k : ShelfId} {e : EntryId} {w : Entry} {s t u : State} (hu : ListWritten k e w t u)
    (h : shelfState k t = shelfState k s) : ListWritten k e w s u := by
  obtain ⟨hslice, hshelf⟩ := shelfState_eq_iff.1 h
  have htarget : targetSlot t k = targetSlot s k := by unfold targetSlot; rw [hshelf]
  obtain ⟨hentries, hqueued, hdropped, hwritten⟩ := hu
  unfold entryWritten at hwritten
  rw [hshelf] at hentries hqueued
  rw [hshelf, htarget] at hdropped
  rw [hshelf, hslice, htarget] at hwritten
  exact ⟨hentries, hqueued, hdropped, hwritten⟩

/-- The write of an entry of another shelf leaves what a write has left of shelf k. -/
theorem ListWritten.kept {i k : ShelfId} {e : EntryId} {w : Entry} {s u : State} (hu : ListWritten k e w s u) (hik : i ≠ k) :
    ListWritten k e w s (writeEntry i e w u) := by
  obtain ⟨hothers, -, -, hqueue, -, hframe⟩ := writeEntry_spec i e w u
  obtain ⟨hslice, hcopy⟩ := writeEntry_others i e w u k (Ne.symm hik)
  have hshelf := hothers k (Ne.symm hik)
  have htarget : targetSlot (writeEntry i e w u) k = targetSlot u k := by unfold targetSlot; rw [hshelf]
  have hgroup : groupPresent (writeEntry i e w u) k = groupPresent u k :=
    groupPresent_congr k (by rw [hshelf]) (hframe .cands (by decide))
  obtain ⟨hentries, hqueued, hdropped, hwritten⟩ := hu
  unfold entryWritten at hwritten
  rw [← hshelf] at hentries
  rw [← htarget] at hdropped
  rw [← hshelf, ← hslice, ← hcopy, ← hgroup] at hwritten
  exact ⟨hentries, fun hw => hqueue k (hqueued hw), hdropped, hwritten⟩

/-- A list write over a mask: the masked shelves have the entry written, and the others keep their record. -/
theorem overMask_writeEntry (mask : BitVec 16) (e : EntryId) (w : Entry) (s : State) (k : ShelfId) :
    (mask.getLsbD k.val = true → ListWritten k e w s (overMask mask (fun k t => writeEntry k e w t) s)) ∧
      (mask.getLsbD k.val = false → (overMask mask (fun k t => writeEntry k e w t) s).shelves[k] = s.shelves[k]) := by
  have hothers : ∀ (i j : ShelfId) (t : State), i ≠ j → shelfState j (writeEntry i e w t) = shelfState j t :=
    fun i j t hij => shelfState_eq_iff.2
      ⟨(writeEntry_others i e w t j (Ne.symm hij)).1, (writeEntry_spec i e w t).1 j (Ne.symm hij)⟩
  refine overMask_at mask (fun k t => writeEntry k e w t) shelfState (fun _ => True)
    (fun k t => (mask.getLsbD k.val = true → ListWritten k e w s t) ∧
      (mask.getLsbD k.val = false → t.shelves[k] = s.shelves[k])) s (fun _ _ _ => trivial)
    (fun i j t _ hij => hothers i j t hij) (fun i t _ hmask hi => ?_) (fun i t _ hmask hi => ?_)
    (fun i j t _ hij hj => ?_) trivial k
  · exact ⟨fun _ => (writeEntry_listWritten i e w t).from_same hi, fun h => absurd (h.symm.trans hmask) Bool.false_ne_true⟩
  · exact ⟨fun h => absurd (hmask.symm.trans h) Bool.false_ne_true, fun _ => (shelfState_eq_iff.1 hi).2⟩
  · exact ⟨fun h => (hj.1 h).kept hij, fun h => (shelfState_eq_iff.1 (hothers i j t hij)).2.trans (hj.2 h)⟩

/-- What serving a WRITE_LIST_ENTRY of entry e leaves: the walk over the masked shelves that do not refuse it (R78, R174). -/
theorem runWriteListEntry_eq {r : Request} {e : EntryId} {refused : BitVec 16} {s : State} (he : byteAt r.body 2 = e.val)
    (hrefused : refused = refusedMask (maskOf r.body) e (entryOf r.body) s) :
    runWriteListEntry r s.countCleared =
      ⟨overMask (maskOf r.body &&& ~~~refused) (fun k t => writeEntry k e (entryOf r.body) t) s.countCleared,
        if refused = 0 then .done else if refused = maskOf r.body then .duplicate else .partialDone,
        maskBytes (maskOf r.body &&& ~~~refused) ++ maskBytes refused ++ [if refused = 0 then 0x00 else 0x16]⟩ := by
  have hentry : (Fin.ofNat 8 (byteAt r.body 2) : EntryId) = e := commandEntryOf_eq he
  have hreason : byteOf (if refused = 0 then 0 else statusCode .duplicate) = if refused = 0 then 0x00 else 0x16 := by
    split <;> rfl
  subst hentry
  rw [← hreason, hrefused]
  rfl

/-- Settles O40: the entry is written at each masked shelf whose own list does not refuse it. -/
theorem listEntryWriteStores : Obligations.ListEntryWriteStores := by
  intro r e w m s htaken hcheck hunheld he hw hm
  obtain rfl : m = maskOf r.body := hm
  subst hw
  obtain ⟨refused, hrefused⟩ : ∃ refused, refused = refusedMask (maskOf r.body) e (entryOf r.body) s := ⟨_, rfl⟩
  obtain ⟨t, hexec, hanswered⟩ :=
    engine_served_guarded rfl htaken hcheck hunheld (runWriteListEntry_eq he hrefused)
  have hbit : ∀ k : ShelfId, (maskOf r.body &&& ~~~refused).getLsbD k.val =
      ((maskOf r.body).getLsbD k.val && !refused.getLsbD k.val) := fun k => by
    rw [BitVec.getLsbD_and, BitVec.getLsbD_not, decide_eq_true k.isLt, Bool.true_and]
  have hwalk := overMask_writeEntry (maskOf r.body &&& ~~~refused) e (entryOf r.body) s.countCleared
  have hframe := overMask_sameBut (maskOf r.body &&& ~~~refused) (fun k t => writeEntry k e (entryOf r.body) t)
    (fun k t => by obtain ⟨-, -, -, -, -, hframe⟩ := writeEntry_spec k e (entryOf r.body) t; exact hframe) s.countCleared
  refine ⟨_, t, refused, hexec, hframe .count (by decide), fun k => hrefused ▸ refusedMask_bit _ e _ s k, hanswered,
    fun k hmasked hfree => ?_, fun k hstays => (hwalk k).2 ?_, (countCleared_sameBut s).andThen hframe⟩
  · obtain ⟨hentries, hqueued, hdropped, hwritten⟩ := (hwalk k).1 (by rw [hbit, hmasked, hfree]; rfl)
    exact ⟨hentries, hqueued, hdropped, hwritten⟩
  · rw [hbit]
    rcases hstays with h | h <;> rw [h]
    · exact Bool.false_and _
    · exact Bool.and_false _

/-! ### WRITE_SHELF (R79, R109, R133) -/

/-- The settings v and w are stored at shelf k, from s to u: list, command, lock-failed set and target kept, and the shelf
queued when its selection settings changed (R79, R109). -/
structure ShelfWritten (k : ShelfId) (v : Selection) (w : SliceSettings) (s u : State) : Prop where
  shelf : u.shelves[k] = { s.shelves[k] with sel := v }
  cfg : u.slices[k].cfg = w
  timing : u.slices[k].timing = s.slices[k].timing
  target : u.slices[k].target = s.slices[k].target
  seq : u.slices[k].seq = s.slices[k].seq
  queued : v ≠ s.shelves[k].sel → k ∈ u.engine.queue.map EvalEntry.shelf

/-- WRITE_SHELF at one shelf: the selection settings, then the slice settings (R174). -/
def writeBoth (v : Selection) (w : SliceSettings) (k : ShelfId) (t : State) : State := writeSlice k w (writeSelection k v t)

theorem writeBoth_sameBut (v : Selection) (w : SliceSettings) (k : ShelfId) (t : State) :
    sameBut [.shelves, .queue, .slices, .fabric, .tripleHandovers, .noticeHandovers] t (writeBoth v w k t) := by
  obtain ⟨-, -, hselection⟩ := writeSelection_spec k v t
  obtain ⟨-, -, -, -, -, hslice⟩ := writeSlice_spec k w (writeSelection k v t)
  exact hselection.andThen hslice

theorem writeBoth_other (v : Selection) (w : SliceSettings) {i j : ShelfId} (t : State) (hij : i ≠ j) :
    shelfState j (writeBoth v w i t) = shelfState j t := by
  obtain ⟨hshelves, -, hselection⟩ := writeSelection_spec i v t
  obtain ⟨hothers, -, -, -, -, hslice⟩ := writeSlice_spec i w (writeSelection i v t)
  have hkept : (writeBoth v w i t).shelves = (writeSelection i v t).shelves := hslice .shelves (by decide)
  have hslices : (writeSelection i v t).slices = t.slices := hselection .slices (by decide)
  refine shelfState_eq_iff.2 ⟨(hothers j (Ne.symm hij)).trans (by rw [hslices]), ?_⟩
  rw [hkept, hshelves, getElem_set_fin, if_neg hij]

theorem writeBoth_queued (v : Selection) (w : SliceSettings) (i j : ShelfId) (t : State) :
    j ∈ (writeBoth v w i t).engine.queue.map EvalEntry.shelf ↔
      (j = i ∧ v ≠ t.shelves[i].sel) ∨ j ∈ t.engine.queue.map EvalEntry.shelf := by
  obtain ⟨-, hqueued, -⟩ := writeSelection_spec i v t
  obtain ⟨-, -, -, -, -, hslice⟩ := writeSlice_spec i w (writeSelection i v t)
  have hkept : (writeBoth v w i t).engine.queue = (writeSelection i v t).engine.queue := hslice .queue (by decide)
  rw [hkept]
  exact hqueued j

theorem writeBoth_written (v : Selection) (w : SliceSettings) {k : ShelfId} {s t : State}
    (h : shelfState k t = shelfState k s) : ShelfWritten k v w s (writeBoth v w k t) := by
  obtain ⟨hslice, hshelf⟩ := shelfState_eq_iff.1 h
  obtain ⟨hshelves, -, hselection⟩ := writeSelection_spec k v t
  obtain ⟨-, hcfg, htiming, htarget, hseq, hslices⟩ := writeSlice_spec k w (writeSelection k v t)
  have hkept : (writeBoth v w k t).shelves = (writeSelection k v t).shelves := hslices .shelves (by decide)
  have hbefore : (writeSelection k v t).slices[k] = s.slices[k] := by
    rw [show (writeSelection k v t).slices = t.slices from hselection .slices (by decide)]
    exact hslice
  rw [hbefore] at htiming htarget hseq
  refine ⟨?_, hcfg, htiming, htarget, hseq, fun hchanged => (writeBoth_queued v w k k t).2 (.inl ⟨rfl, ?_⟩)⟩
  · rw [hkept, hshelves, getElem_set_fin, if_pos rfl, hshelf]
  · rw [hshelf]; exact hchanged

theorem ShelfWritten.kept {k : ShelfId} {v : Selection} {w : SliceSettings} {s t u : State} (ht : ShelfWritten k v w s t)
    (h : shelfState k u = shelfState k t)
    (hqueue : k ∈ t.engine.queue.map EvalEntry.shelf → k ∈ u.engine.queue.map EvalEntry.shelf) :
    ShelfWritten k v w s u := by
  obtain ⟨hslice, hshelf⟩ := shelfState_eq_iff.1 h
  exact ⟨hshelf.trans ht.shelf, by rw [hslice]; exact ht.cfg, by rw [hslice]; exact ht.timing,
    by rw [hslice]; exact ht.target, by rw [hslice]; exact ht.seq, fun hchanged => hqueue (ht.queued hchanged)⟩

/-- WRITE_SHELF over a mask: the masked shelves have the settings stored, and the others stay. -/
theorem overMask_writeBoth (mask : BitVec 16) (v : Selection) (w : SliceSettings) (s : State) (k : ShelfId) :
    (mask.getLsbD k.val = true → ShelfWritten k v w s (overMask mask (writeBoth v w) s)) ∧
      (mask.getLsbD k.val = false → shelfState k (overMask mask (writeBoth v w) s) = shelfState k s) := by
  refine overMask_at mask (writeBoth v w) shelfState (fun _ => True)
    (fun k t => (mask.getLsbD k.val = true → ShelfWritten k v w s t) ∧
      (mask.getLsbD k.val = false → shelfState k t = shelfState k s)) s (fun _ _ _ => trivial)
    (fun i j t _ hij => writeBoth_other v w t hij) (fun i t _ hmask hi => ?_) (fun i t _ hmask hi => ?_)
    (fun i j t _ hij hj => ?_) trivial k
  · exact ⟨fun _ => writeBoth_written v w hi, fun h => absurd (h.symm.trans hmask) Bool.false_ne_true⟩
  · exact ⟨fun h => absurd (hmask.symm.trans h) Bool.false_ne_true, fun _ => hi⟩
  · have hkept := writeBoth_other v w t hij
    exact ⟨fun h => (hj.1 h).kept hkept fun hq => (writeBoth_queued v w i j t).2 (.inr hq), fun h => hkept.trans (hj.2 h)⟩

/-- The selection settings as a WRITE_SHELF stores them (R79, Table 5-2). -/
theorem selectionOf_values (b : List Byte) :
    (selectionOf b).minRank.val = min (byteAt b 4) 14 ∧ (selectionOf b).hopLimit.val = max 1 (min (byteAt b 5) 31) := by
  constructor
  · show min (byteAt b 4) 14 % 16 = _
    omega
  · show max 1 (min (byteAt b 5) 31) % 32 = _
    omega

/-- The ranks of a WRITE_SHELF that passes its checks, as stored: the freerun rank never below the holdover rank (R133). -/
theorem sliceSettingsOf_ranks {r : Request} (hcheck : checkWriteShelf r = none) :
    (sliceSettingsOf r.body).holdoverRank.val = byteAt r.body 11 ∧
      (sliceSettingsOf r.body).freerunRank.val = max (byteAt r.body 11) (byteAt r.body 12) := by
  obtain ⟨-, -, hvalues⟩ := checkBody_none hcheck
  simp only [Bool.and_eq_true, decide_eq_true_eq] at hvalues
  obtain ⟨⟨⟨-, hholdover⟩, hfreerun⟩, -⟩ := hvalues
  constructor
  · show byteAt r.body 11 % 16 = _
    omega
  · show max (byteAt r.body 11) (byteAt r.body 12) % 16 = _
    omega

/-- A mask has no shelf set exactly when its two bytes are 0. -/
theorem maskOf_eq_zero (b : List Byte) : maskOf b = 0 ↔ numAt b 0 2 = 0 := by
  have hlt : numAt b 0 2 < 65536 := numAt_lt b 0 2
  unfold maskOf
  rw [← BitVec.toNat_inj, BitVec.toNat_ofNat]
  show numAt b 0 2 % 65536 = 0 ↔ _
  omega

/-- A WRITE_SHELF with no shelf set clamps nothing (R174). -/
theorem writeShelf_status (b : List Byte) :
    doneStatus (shelfClamped b && decide (maskOf b ≠ 0)) =
      if numAt b 0 2 = 0 then .done else doneStatus (shelfClamped b) := by
  by_cases h : numAt b 0 2 = 0
  · rw [if_pos h, decide_eq_false (not_not.2 ((maskOf_eq_zero b).2 h)), Bool.and_false]; rfl
  · rw [if_neg h, decide_eq_true (mt (maskOf_eq_zero b).1 h), Bool.and_true]

theorem runWriteShelf_eq (r : Request) (s : State) :
    runWriteShelf r s =
      ⟨overMask (maskOf r.body) (writeBoth (selectionOf r.body) (sliceSettingsOf r.body)) s,
        if numAt r.body 0 2 = 0 then .done else doneStatus (shelfClamped r.body),
        maskBytes (maskOf r.body) ++ maskBytes 0 ++ [0x00]⟩ := by
  rw [← writeShelf_status]
  rfl

/-- Settles O41: the settings are stored at each masked shelf. -/
theorem shelfWriteStores : Obligations.ShelfWriteStores := by
  intro r s htaken hcheck hunheld
  obtain ⟨t, hexec, hanswered⟩ := engine_served_guarded rfl htaken hcheck hunheld (runWriteShelf_eq r s.countCleared)
  have hwalk := overMask_writeBoth (maskOf r.body) (selectionOf r.body) (sliceSettingsOf r.body) s.countCleared
  have hframe := overMask_sameBut (maskOf r.body) (writeBoth (selectionOf r.body) (sliceSettingsOf r.body))
    (writeBoth_sameBut (selectionOf r.body) (sliceSettingsOf r.body)) s.countCleared
  obtain ⟨hminRank, hhopLimit⟩ := selectionOf_values r.body
  obtain ⟨hholdover, hfreerun⟩ := sliceSettingsOf_ranks hcheck
  refine ⟨_, t, hexec, hframe .count (by decide), hanswered, fun k hmasked => ?_,
    fun k hstays => (shelfState_eq_iff.1 ((hwalk k).2 hstays)).symm, (countCleared_sameBut s).andThen hframe⟩
  obtain ⟨hshelf, hcfg, htiming, htarget, hseq, hqueued⟩ := (hwalk k).1 hmasked
  refine ⟨by rw [hshelf]; rfl, ?_⟩
  rw [hshelf, hcfg]
  exact ⟨rfl, rfl, hminRank, hhopLimit, rfl, rfl, rfl, rfl, hholdover, hfreerun, rfl, htiming, htarget, hseq, hqueued⟩

end Sys2Proof.Machine
end

section
/-! PROOFS. Slice and engine agree on the target, and the timers of a slice run in their states (O57): every event
is, at each shelf, a run of few moves, and each move keeps both. -/

namespace Sys2Proof.Machine

-- One theorem after the other: the joined text would otherwise ask for a thread per waiting proof.
set_option Elab.async false

/-! ### The moves of one shelf's timing (Chapter 6) -/

/-- What the engine and the slice of one shelf hold of its timing: the slot of the target record, and the slice. -/
structure ShelfTiming where
  recorded : Option Slot
  slice : Slice

def shelfTiming (s : State) (k : ShelfId) : ShelfTiming := ⟨targetSlot s k, s.slices[k]⟩

/-- From v to w neither the timing state, nor the target and the action, nor a timer moves. -/
def Slice.Quiet (v w : Slice) : Prop :=
  w = { v with
    cfg := w.cfg
    seq := w.seq
    unsent := w.unsent
    lastReport := w.lastReport
    history := w.history
    triple := w.triple }

/-- The slice with the target change to a slot taken and its lock timer started (R112). -/
def Slice.tracking (c : Slot) (due : Nat) (v : Slice) : Slice :=
  { v with
    target := some c
    action := .track c
    timing := .acquiring
    settleTimer := none
    holdoverSince := none
    exhausted := false
    lockTimer := some due }

/-- The slice with the target change to NONE taken, before it enters HOLDOVER or FREERUN (R113). -/
def Slice.untargeted (v : Slice) : Slice :=
  { v with target := none, action := .hold, lockTimer := none, settleTimer := none }

/-- The slice when it is PARKED, with the action that its record then holds (R125). -/
def Slice.parkedWith (a : Action) (v : Slice) : Slice :=
  { v.stopTimers with timing := .parked, target := none, action := a, reportTimer := none, unreachable := false }

/-- The slice after its lock timer expired (R120). -/
def Slice.lockExpired (v : Slice) : Slice := { v with lockTimer := none }

/-- The slice after its settle timer expired, its triple apart (R121). -/
def Slice.settled (v : Slice) : Slice := { v with timing := .locked, history := true, settleTimer := none }

/-- The slice after its report timer expired, its triple apart (R122). -/
def Slice.silenced (v : Slice) : Slice := { v with unreachable := true, reportTimer := none }

/-- One move of a shelf's timing, as the rules of Chapter 6 allow it. -/
inductive SliceMove : ShelfTiming → ShelfTiming → Prop
  /-- Settings, the sending of a Directive, the last report, the history flag, the triple (R109, R111, R115, R131). -/
  | quiet (r v w) (h : v.Quiet w) : SliceMove ⟨r, v⟩ ⟨r, w⟩
  /-- The report timer of an unparked slice starts anew (R115, R127, R130). -/
  | heard (r v due) (h : v.timing ≠ .parked) :
    SliceMove ⟨r, v⟩ ⟨r, { v with reportTimer := some due, unreachable := false }⟩
  /-- A current report is judged (R117, R118). -/
  | judged (r v now report) : SliceMove ⟨r, v⟩ ⟨r, v.currentReport now report⟩
  /-- The lock timer expires (R120). -/
  | lockExpired (r v) : SliceMove ⟨r, v⟩ ⟨r, v.lockExpired⟩
  /-- The settle timer expires (R121). -/
  | settled (r v) (h : v.timing = .settling) : SliceMove ⟨r, v⟩ ⟨r, v.settled⟩
  /-- The report timer expires (R122). -/
  | silenced (r v) (h : v.reportTimer.isSome = true) : SliceMove ⟨r, v⟩ ⟨r, v.silenced⟩
  /-- The holdover clock is compared with the budget (R134). -/
  | budgeted (r v b) (h : b = true → v.timing = .holdover) : SliceMove ⟨r, v⟩ ⟨r, { v with exhausted := b }⟩
  /-- A target change names a slot (R112). -/
  | tracks (r v c due) (h : v.timing ≠ .parked) : SliceMove ⟨r, v⟩ ⟨some c, v.tracking c due⟩
  /-- The target goes, and the slice enters HOLDOVER (R113, R123). -/
  | holdsOver (r v now) (h : v.timing ≠ .parked) : SliceMove ⟨r, v⟩ ⟨none, v.untargeted.enterHoldover now⟩
  /-- The target goes, and the slice enters FREERUN (R113, R127, R130). -/
  | runsFree (r v) (h : v.timing ≠ .parked) : SliceMove ⟨r, v⟩ ⟨none, v.untargeted.enterFreerun⟩
  /-- The slice is PARKED, or stays so in a restart (R125, R130). -/
  | parked (r v a) : SliceMove ⟨r, v⟩ ⟨none, v.parkedWith a⟩
  /-- A PARKED slice is unparked (R126). -/
  | unparked (r v due) (h : v.timing = .parked) :
    SliceMove ⟨r, v⟩ ⟨r, { v with timing := .freerun, action := .hold, reportTimer := some due, unreachable := false }⟩
  /-- The engine withdraws the record of a shelf whose slice is PARKED (R78, R104). -/
  | withdrawn (r v) (h : v.timing = .parked) : SliceMove ⟨r, v⟩ ⟨none, v⟩

/-! ### A current report (R117, R118) -/

/-- A current report under TRACK moves the slice among the three states that have a target, and in no other state. -/
theorem trackReport_cases (now : Nat) (lock : Bool) (v : Slice) :
    v.trackReport now lock = v ∨
      (v.timing = .acquiring ∧
        v.trackReport now lock = { v with timing := .settling, lockTimer := none, settleTimer := v.startSettle now }) ∨
      (v.timing = .settling ∧
        v.trackReport now lock =
          { v with timing := .acquiring, settleTimer := none, lockTimer := startMs now (v.cfg.lockS * 1000) }) ∨
      (v.timing = .locked ∧
        v.trackReport now lock = { v with timing := .acquiring, lockTimer := startMs now (v.cfg.lockS * 1000) }) := by
  unfold Slice.trackReport
  split <;> rename_i htiming
  · exact .inr (.inl ⟨htiming, rfl⟩)
  · exact .inr (.inr (.inl ⟨htiming, rfl⟩))
  · exact .inr (.inr (.inr ⟨htiming, rfl⟩))
  · exact .inl rfl

/-- A current report under HOLD moves the slice between FREERUN and HOLDOVER only (R118). -/
theorem holdReport_cases (now : Nat) (ready : Bool) (v : Slice) :
    v.holdReport now ready = v ∨ (v.timing = .freerun ∧ v.holdReport now ready = v.enterHoldover now) ∨
      (v.timing = .holdover ∧ v.holdReport now ready = v.enterFreerun) := by
  unfold Slice.holdReport
  split <;> rename_i htiming
  · exact .inr (.inl ⟨htiming, rfl⟩)
  · exact .inr (.inr ⟨htiming, rfl⟩)
  · exact .inl rfl

/-- A current report is judged under TRACK or under HOLD. -/
theorem currentReport_cases (now : Nat) (report : Report) (v : Slice) :
    (∃ lock, v.currentReport now report = v.trackReport now lock) ∨
      ∃ ready, v.currentReport now report = v.holdReport now ready := by
  unfold Slice.currentReport
  cases v.action with
  | track c => exact .inl ⟨_, rfl⟩
  | hold => exact .inr ⟨_, rfl⟩

/-! ### What the moves keep -/

/-- Slice and record agree on the target, and the slice directs its module to it (R112, R113, R125, Table 6-3). -/
def ShelfTiming.Agrees (p : ShelfTiming) : Prop :=
  p.slice.target = p.recorded ∧ p.slice.target.isSome = p.slice.timing.hasTarget ∧
    (p.slice.timing ≠ .parked →
      p.slice.action =
        match p.slice.target with
        | some c => .track c
        | none => .hold)

theorem slicesFollowTargets_iff (s : State) : SlicesFollowTargets s ↔ ∀ k : ShelfId, (shelfTiming s k).Agrees := Iff.rfl

/-- The timers of the slice run only in their states (R119 to R125). -/
def Slice.TimersOk (v : Slice) : Prop :=
  (v.lockTimer.isSome = true → v.timing = .acquiring) ∧ v.settleTimer.isSome = decide (v.timing = .settling) ∧
    v.holdoverSince.isSome = decide (v.timing = .holdover) ∧ (v.exhausted = true → v.timing = .holdover) ∧
    (v.timing = .parked → v.reportTimer = none ∧ v.unreachable = false) ∧
    (v.timing ≠ .parked → v.unreachable = v.reportTimer.isNone)

theorem sliceTimersOk_iff (s : State) : SliceTimersOk s ↔ ∀ k : ShelfId, (shelfTiming s k).slice.TimersOk := Iff.rfl

/-- A slice with as much a target as before, and the same target and action. -/
theorem ShelfTiming.Agrees.of_timing {r : Option Slot} {v w : Slice} (h : (ShelfTiming.mk r v).Agrees)
    (htiming : w.timing.hasTarget = v.timing.hasTarget) (hparked : w.timing ≠ .parked → v.timing ≠ .parked)
    (htarget : w.target = v.target) (haction : w.action = v.action) : (ShelfTiming.mk r w).Agrees := by
  obtain ⟨hrecord, hhas, hdirected⟩ := h
  dsimp only at hrecord hhas hdirected
  refine ⟨htarget.trans hrecord, ?_, fun hw => ?_⟩
  · dsimp only; rw [htarget, htiming, hhas]
  · dsimp only; rw [haction, htarget]; exact hdirected (hparked hw)

/-- A PARKED slice has no target (Table 6-3). -/
theorem ShelfTiming.Agrees.parked_target {p : ShelfTiming} (h : p.Agrees) (hp : p.slice.timing = .parked) :
    p.slice.target = none := by
  obtain ⟨-, hhas, -⟩ := h
  rw [hp] at hhas
  exact Option.isSome_eq_false_iff.1 hhas |> Option.isNone_iff_eq_none.1

theorem currentReport_agrees {r : Option Slot} {v : Slice} (now : Nat) (report : Report)
    (h : (ShelfTiming.mk r v).Agrees) : (ShelfTiming.mk r (v.currentReport now report)).Agrees := by
  rcases currentReport_cases now report v with ⟨lock, hjudged⟩ | ⟨ready, hjudged⟩ <;> rw [hjudged]
  · rcases trackReport_cases now lock v with hv | ⟨ht, hv⟩ | ⟨ht, hv⟩ | ⟨ht, hv⟩ <;> rw [hv]
    · exact h
    all_goals exact h.of_timing (by rw [ht]; rfl) (fun _ => by rw [ht]; decide) rfl rfl
  · rcases holdReport_cases now ready v with hv | ⟨ht, hv⟩ | ⟨ht, hv⟩ <;> rw [hv]
    · exact h
    all_goals exact h.of_timing (by rw [ht]; rfl) (fun _ => by rw [ht]; decide) rfl rfl

/-- Slice and engine agree after every move (R112, R113, R125). -/
theorem SliceMove.keeps_agrees {p q : ShelfTiming} (h : SliceMove p q) (hp : p.Agrees) : q.Agrees := by
  cases h with
  | quiet r v w hw => rw [hw]; exact hp
  | heard => exact hp
  | judged r v now report => exact currentReport_agrees now report hp
  | lockExpired => exact hp
  | settled r v ht => exact hp.of_timing (by rw [ht]; rfl) (fun _ => by rw [ht]; decide) rfl rfl
  | silenced => exact hp
  | budgeted => exact hp
  | tracks => exact ⟨rfl, rfl, fun _ => rfl⟩
  | holdsOver => exact ⟨rfl, rfl, fun _ => rfl⟩
  | runsFree => exact ⟨rfl, rfl, fun _ => rfl⟩
  | parked => exact ⟨rfl, rfl, fun hn => absurd rfl hn⟩
  | unparked r v due ht =>
    have hnone : v.target = none := hp.parked_target ht
    obtain ⟨hrecord, -, -⟩ := hp
    exact ⟨hrecord, by rw [hnone]; rfl, fun _ => by dsimp only; rw [hnone]⟩
  | withdrawn r v ht =>
    have hnone : v.target = none := hp.parked_target ht
    obtain ⟨-, hhas, hdirected⟩ := hp
    exact ⟨hnone, hhas, hdirected⟩

theorem currentReport_timersOk {v : Slice} (now : Nat) (report : Report) (h : v.TimersOk) :
    (v.currentReport now report).TimersOk := by
  have hbefore := h
  obtain ⟨hlock, hsettle, hholdover, hexhausted, -, hunparked⟩ := hbefore
  rcases currentReport_cases now report v with ⟨lock, hjudged⟩ | ⟨ready, hjudged⟩ <;> rw [hjudged]
  · rcases trackReport_cases now lock v with hv | ⟨ht, hv⟩ | ⟨ht, hv⟩ | ⟨ht, hv⟩ <;> rw [hv]
    · exact h
    all_goals rw [ht] at hsettle hholdover hexhausted hunparked
    · exact ⟨nofun, rfl, hholdover, fun he => absurd (hexhausted he) nofun, nofun, fun _ => hunparked nofun⟩
    · exact ⟨fun _ => rfl, rfl, hholdover, fun he => absurd (hexhausted he) nofun, nofun, fun _ => hunparked nofun⟩
    · exact ⟨fun _ => rfl, hsettle, hholdover, fun he => absurd (hexhausted he) nofun, nofun, fun _ => hunparked nofun⟩
  · rcases holdReport_cases now ready v with hv | ⟨ht, hv⟩ | ⟨ht, hv⟩ <;> rw [hv]
    · exact h
    all_goals rw [ht] at hlock hsettle hunparked
    · exact ⟨fun hs => absurd (hlock hs) nofun, hsettle, rfl, fun _ => rfl, nofun, fun _ => hunparked nofun⟩
    · exact ⟨fun hs => absurd (hlock hs) nofun, hsettle, rfl, nofun, nofun, fun _ => hunparked nofun⟩

/-- The timers run only in their states after every move (R119 to R125). -/
theorem SliceMove.keeps_timersOk {p q : ShelfTiming} (h : SliceMove p q) (hp : p.slice.TimersOk) :
    q.slice.TimersOk := by
  have hbefore := hp
  obtain ⟨hlock, hsettle, hholdover, hexhausted, hparked, hunparked⟩ := hbefore
  cases h with
  | quiet r v w hw => rw [hw]; exact hp
  | heard r v due hv => exact ⟨hlock, hsettle, hholdover, hexhausted, fun ht => absurd ht hv, fun _ => rfl⟩
  | judged r v now report => exact currentReport_timersOk now report hp
  | lockExpired => exact ⟨nofun, hsettle, hholdover, hexhausted, hparked, hunparked⟩
  | settled r v ht =>
    dsimp only at *
    rw [ht] at hlock hholdover hexhausted hunparked
    exact ⟨fun hs => absurd (hlock hs) nofun, rfl, hholdover, fun he => absurd (hexhausted he) nofun, nofun,
      fun _ => hunparked nofun⟩
  | silenced r v hdue =>
    refine ⟨hlock, hsettle, hholdover, hexhausted, fun ht => ?_, fun _ => rfl⟩
    dsimp only at *
    rw [(hparked ht).1] at hdue
    cases hdue
  | budgeted r v b hb => exact ⟨hlock, hsettle, hholdover, hb, hparked, hunparked⟩
  | tracks r v c due hv => exact ⟨fun _ => rfl, rfl, rfl, nofun, nofun, fun _ => hunparked hv⟩
  | holdsOver r v now hv => exact ⟨nofun, rfl, rfl, fun _ => rfl, nofun, fun _ => hunparked hv⟩
  | runsFree r v hv => exact ⟨nofun, rfl, rfl, nofun, nofun, fun _ => hunparked hv⟩
  | parked => exact ⟨nofun, rfl, rfl, nofun, fun _ => ⟨rfl, rfl⟩, fun hn => absurd rfl hn⟩
  | unparked r v due ht =>
    dsimp only at *
    rw [ht] at hlock hsettle hholdover hexhausted
    exact ⟨fun hs => absurd (hlock hs) nofun, hsettle, hholdover, fun he => absurd (hexhausted he) nofun, nofun,
      fun _ => rfl⟩
  | withdrawn => exact hp

/-! ### Runs of moves at every shelf -/

/-- The state in which slice k holds v, the clock at the expiry of its timer or later. -/
def State.expired (s : State) (due : Nat) (k : ShelfId) (v : Slice) : State := (s.advanceTo due).setSlice k v

theorem expired_sameBut (s : State) (due : Nat) (k : ShelfId) (v : Slice) :
    sameBut [.osc, .slices] s (s.expired due k v) :=
  (advanceTo_sameBut s due).andThen (setSlice_sameBut _ k v)

theorem expired_slices (s : State) (due : Nat) (k : ShelfId) (v : Slice) :
    (s.expired due k v).slices = s.slices.set k v := rfl

theorem expired_slice (s : State) (due : Nat) (k : ShelfId) (v : Slice) : (s.expired due k v).slices[k] = v := by
  rw [expired_slices, getElem_set_fin, if_pos rfl]

/-- A run of moves of one shelf's timing. -/
abbrev SliceRun : ShelfTiming → ShelfTiming → Prop := Relation.ReflTransGen SliceMove

/-- From s to t every shelf's timing goes through a run of moves. -/
def SlicesMove (s t : State) : Prop := ∀ k : ShelfId, SliceRun (shelfTiming s k) (shelfTiming t k)

/-- What every move keeps, an event keeps at every shelf. -/
theorem SlicesMove.keeps {s t : State} (h : SlicesMove s t) (P : ShelfTiming → Prop)
    (hP : ∀ p q, SliceMove p q → P p → P q) (hs : ∀ k, P (shelfTiming s k)) (k : ShelfId) : P (shelfTiming t k) := by
  refine Relation.ReflTransGen.head_induction_on (motive := fun p _ => P p → P (shelfTiming t k)) (h k) id ?_ (hs k)
  exact fun hmove _ ih hp => ih (hP _ _ hmove hp)

/-- A run whose last move is a quiet one. -/
theorem quietly {p : ShelfTiming} {r : Option Slot} {v w : Slice} (h : SliceRun p ⟨r, v⟩)
    (hw : v.Quiet w := by exact rfl) : SliceRun p ⟨r, w⟩ := h.tail (.quiet r v w hw)

namespace SlicesMove

theorem refl (s : State) : SlicesMove s s := fun _ => .refl

theorem trans {s t u : State} (h : SlicesMove s t) (g : SlicesMove t u) : SlicesMove s u := fun k => (h k).trans (g k)

theorem ite {c : Prop} [Decidable c] {s t u : State} (h : SlicesMove s t) (g : SlicesMove s u) :
    SlicesMove s (if c then t else u) := by split <;> assumption

/-- The records name the same slots, and every slice is quiet. -/
theorem of_quiet {s t : State} (hrecorded : ∀ k, targetSlot t k = targetSlot s k)
    (hslice : ∀ k : ShelfId, s.slices[k].Quiet t.slices[k]) : SlicesMove s t := fun k => by
  unfold shelfTiming
  rw [hrecorded k]
  exact quietly .refl (hslice k)

theorem targetSlot_of_shelves {s t : State} (h : t.shelves = s.shelves) (k : ShelfId) :
    targetSlot t k = targetSlot s k := by
  unfold targetSlot; rw [h]

/-- An event that stores one shelf's record anew, with the same target. -/
theorem targetSlot_of_set {s t : State} {k : ShelfId} {x : Shelf} (h : t.shelves = s.shelves.set k x)
    (hx : x.target = s.shelves[k].target) (j : ShelfId) : targetSlot t j = targetSlot s j := by
  unfold targetSlot
  rw [h, getElem_set_fin]
  split <;> rename_i hj
  · rw [hx, hj]
  · rfl

theorem of_records {s t : State} (hslices : t.slices = s.slices) (hrecorded : ∀ k, targetSlot t k = targetSlot s k) :
    SlicesMove s t := of_quiet hrecorded fun k => by rw [hslices]; rfl

theorem of_same {s t : State} (hslices : t.slices = s.slices) (hshelves : t.shelves = s.shelves) : SlicesMove s t :=
  of_records hslices (targetSlot_of_shelves hshelves)

theorem of_sameBut {ps : List Part} {s t : State} (h : sameBut ps s t)
    (hd : Part.slices ∉ ps ∧ Part.shelves ∉ ps := by decide) : SlicesMove s t :=
  of_same (h .slices hd.1) (h .shelves hd.2)

/-- An event at one shelf. -/
theorem of_shelf {s t : State} (k : ShelfId) (hslices : ∀ j : ShelfId, j ≠ k → t.slices[j] = s.slices[j])
    (hrecorded : ∀ j : ShelfId, j ≠ k → targetSlot t j = targetSlot s j)
    (hrun : SliceRun (shelfTiming s k) ⟨targetSlot t k, t.slices[k]⟩) : SlicesMove s t := fun j => by
  by_cases hj : j = k
  · rw [hj]; exact hrun
  · unfold shelfTiming
    rw [hslices j hj, hrecorded j hj]

/-- A shelf's record stored with its target. -/
theorem setShelf (k : ShelfId) (x : Shelf) (s : State) (h : x.target = s.shelves[k].target) :
    SlicesMove s (s.setShelf k x) := of_records rfl (targetSlot_of_set rfl h)

theorem setLane (l : Lane) (s : State) : SlicesMove s (s.setLane l) := of_same rfl rfl

theorem setFlight (f : InFlight) (s : State) : SlicesMove s (s.setFlight f) := of_same rfl rfl

theorem setEngine (e : Engine) (s : State) : SlicesMove s (s.setEngine e) := of_same rfl rfl

theorem requestEvaluation (k : ShelfId) (m : Option Slot) (s : State) : SlicesMove s (requestEvaluation k m s) :=
  of_sameBut (requestEvaluation_sameBut k m s)

theorem setSlice (k : ShelfId) (v : Slice) (s : State) (h : SliceRun (shelfTiming s k) ⟨targetSlot s k, v⟩) :
    SlicesMove s (s.setSlice k v) := by
  refine of_shelf k (fun j hj => ?_) (fun _ _ => rfl) ?_
  · rw [State.setSlice_slices_at, if_neg (Ne.symm hj)]
  · rw [State.setSlice_slices_at, if_pos rfl]; exact h

theorem foldl {α : Type} (f : α → State → State) (h : ∀ a t, SlicesMove t (f a t)) (l : List α) (s : State) :
    SlicesMove s (l.foldl (fun t a => f a t) s) :=
  foldl_keeps _ (SlicesMove s) (fun a t ht => ht.trans (h a t)) l s (refl s)

theorem overMask (m : BitVec 16) (f : ShelfId → State → State) (h : ∀ k t, SlicesMove t (f k t)) (s : State) :
    SlicesMove s (overMask m f s) :=
  foldl _ (fun k t => (h k t).ite (refl t)) _ s

/-! ### The operations of a slice -/

/-- An operation that stores slice k anew, quietly. -/
theorem of_quietSlice {s t : State} {w : Slice} (k : ShelfId) (hshelves : t.shelves = s.shelves)
    (hslices : ∀ j : ShelfId, t.slices[j] = if k = j then w else s.slices[j]) (hw : s.slices[k].Quiet w) :
    SlicesMove s t := of_quiet (targetSlot_of_shelves hshelves) fun j => by
  rw [hslices j]
  split <;> rename_i hj
  · exact hj ▸ hw
  · rfl

theorem sendDirective (k : ShelfId) (s : State) : SlicesMove s (sendDirective k s) :=
  of_quietSlice k (sendDirective_sameBut k s .shelves (by decide)) (fun j => sendDirective_at k j s) rfl

theorem retriple (k : ShelfId) (tell : Bool) (s : State) : SlicesMove s (retriple k tell s) :=
  of_quietSlice k (retriple_sameBut k tell s .shelves (by decide)) (fun j => retriple_at k j tell s) rfl

theorem closeSlice (k : ShelfId) (old : Slice) (s : State) : SlicesMove s (closeSlice k old s) :=
  of_quietSlice k (closeSlice_sameBut k old s .shelves (by decide)) (fun j => closeSlice_triple_at k j old s) rfl

/-- A report that is accepted is recorded, and the report timer starts anew (R115). -/
theorem hearReport_run (r : Option Slot) (now : Nat) (report : Report) (v : Slice) (h : v.timing ≠ .parked) :
    SliceRun ⟨r, v⟩ ⟨r, v.hearReport now report⟩ :=
  quietly (.single (.heard r v (now + v.cfg.reportS * 1000 * Config.periodsPerMs) h))

theorem takeReport (k : ShelfId) (f : Frame) (s : State) : SlicesMove s (takeReport k f s) := by
  unfold Machine.takeReport
  dsimp only
  split <;> rename_i haccepted
  · obtain ⟨-, hparked⟩ := Bool.and_eq_true_iff.1 haccepted
    have hheard := hearReport_run (targetSlot s k) s.osc (reportOf f) s.slices[k] (of_decide_eq_true hparked)
    refine ite ?_ ?_
    · exact ((setSlice k _ s hheard).trans (sendDirective k _)).trans (closeSlice k _ _)
    · exact (setSlice k _ s (hheard.tail (.judged _ _ _ _))).trans (closeSlice k _ _)
  · exact refl s

theorem takeLockReport (s : State) : SlicesMove s (takeLockReport s) := by
  unfold Machine.takeLockReport
  split
  · refine ite ?_ (refl s)
    dsimp only
    split
    · exact (setLane _ s).trans (takeReport _ _ _)
    · exact setLane _ s
  · exact refl s

theorem takeTargetGrade (k : ShelfId) (s : State) : SlicesMove s (takeTargetGrade k s) := by
  unfold Machine.takeTargetGrade
  split
  · exact refl s
  · exact ite ((setFlight _ s).trans (retriple k false _)) (setFlight _ s)

/-- Time moves no slice but the one whose timer expires. -/
theorem expired (k : ShelfId) (due : Nat) (v : Slice) (s : State)
    (h : SliceRun (shelfTiming s k) ⟨targetSlot s k, v⟩) : SlicesMove s (s.expired due k v) :=
  SlicesMove.trans (t := s.advanceTo due) (of_same rfl rfl) (setSlice k v (s.advanceTo due) h)

theorem expireLock (k : ShelfId) (s : State) : SlicesMove s (expireLock k s) := by
  unfold Machine.expireLock
  dsimp only
  split
  · exact ((expired k _ _ s (.single (.lockExpired _ _))).trans
      (requestEvaluation k _ _)).trans (of_sameBut (raiseEdge_sameBut _ _))
  · exact refl s

theorem expireSettle (k : ShelfId) (s : State) : SlicesMove s (expireSettle k s) := by
  unfold Machine.expireSettle
  dsimp only
  split <;> rename_i htiming _
  · exact (expired k _ _ s (.single (.settled _ _ htiming))).trans (closeSlice k _ _)
  · exact refl s

theorem expireReport (k : ShelfId) (s : State) : SlicesMove s (expireReport k s) := by
  unfold Machine.expireReport
  dsimp only
  split <;> rename_i hdue
  · exact (expired k _ _ s (.single (.silenced _ _ (by rw [hdue]; rfl)))).trans (closeSlice k _ _)
  · exact refl s

theorem exhaustionDue_holdover {v : Slice} {due : Nat} (h : v.exhaustionDue = some due) : v.timing = .holdover := by
  unfold Slice.exhaustionDue at h
  split at h
  · assumption
  · cases h

theorem exhaustBudget (k : ShelfId) (s : State) : SlicesMove s (exhaustBudget k s) := by
  unfold Machine.exhaustBudget
  split <;> rename_i hdue
  · exact (expired k _ _ s (.single (.budgeted _ _ true fun _ => exhaustionDue_holdover hdue))).trans
      (retriple k false _)
  · exact refl s

/-! ### Settings (R109, R124, R133 to R135) -/

theorem budgetReached_holdover {now : Nat} {v : Slice} (h : v.budgetReached now = true) : v.timing = .holdover := by
  unfold Slice.budgetReached at h
  split at h
  · assumption
  · cases h

/-- Settings are stored, and a new budget is compared with the holdover clock (R109, R134). -/
theorem writeSettings_run (r : Option Slot) (now : Nat) (w : SliceSettings) (v : Slice) :
    SliceRun ⟨r, v⟩ ⟨r, v.writeSettings now w⟩ := by
  have hstored : SliceRun ⟨r, v⟩ ⟨r, { v with cfg := w }⟩ := quietly .refl
  unfold Slice.writeSettings
  dsimp only
  split
  · exact hstored
  · exact hstored.tail (.budgeted _ _ _ fun hb => budgetReached_holdover hb)

theorem writeSlice (k : ShelfId) (w : SliceSettings) (s : State) : SlicesMove s (writeSlice k w s) := by
  have hstored : SlicesMove s (s.setSlice k (s.slices[k].writeSettings s.osc w)) :=
    setSlice k _ s (writeSettings_run _ _ _ _)
  have hsent := (hstored.trans (sendDirective k _)).ite hstored
    (c := (decide (w.module ≠ s.slices[k].cfg.module) && decide (s.slices[k].timing ≠ .parked)) = true)
  exact (hsent.trans (retriple k false _)).ite hsent

theorem writeSelection (k : ShelfId) (w : Selection) (s : State) : SlicesMove s (writeSelection k w s) := by
  obtain ⟨hshelves, -, hframe⟩ := writeSelection_spec k w s
  exact of_records (hframe .slices (by decide)) (targetSlot_of_set hshelves rfl)

theorem writeNode (w : NodeWrite) (s : State) : SlicesMove s (writeNode w s) := by
  by_cases htag : w.baseTag = s.baseTag
  · exact of_sameBut (writeNode_sameTag w s htag)
  · exact of_quiet (targetSlot_of_shelves (writeNode_sameBut w s .shelves (by decide))) fun k => by
      rw [(writeNode_newTag w s htag k).2]; rfl

/-! ### Target changes (R92, R112, R113) -/

/-- A target change at an unparked slice (R112, R113). -/
theorem takeTarget_run (r : Option Slot) (k : ShelfId) (x : Option Slot) (s : State)
    (hp : s.slices[k].timing ≠ .parked) : SliceRun ⟨r, s.slices[k]⟩ ⟨x, (takeTarget k x s).slices[k]⟩ := by
  cases x with
  | some c =>
    have hat : (takeTarget k (some c) s).slices[k] = _ := targetToSlot_at k k c s hp
    rw [if_pos rfl] at hat
    rw [hat]
    exact quietly (.single (.tracks r _ c _ hp))
  | none =>
    have hat : (takeTarget k none s).slices[k] = _ := targetToNone_at k k s hp
    rw [if_pos rfl] at hat
    dsimp only at hat
    rw [hat]
    split
    · exact quietly (.single (.holdsOver r _ s.osc hp))
    · exact quietly (.single (.runsFree r _ hp))

/-- A PARKED slice takes no target change (R112, R113). -/
theorem takeTarget_parked (k : ShelfId) (x : Option Slot) (s : State) (hp : s.slices[k].timing = .parked) :
    takeTarget k x s = s := by
  cases x with
  | some c => exact if_pos hp
  | none => exact if_pos hp

/-- A target change; at a PARKED slice the target only goes. -/
theorem changeTarget (k : ShelfId) (x : Option Target) (s : State) (h : s.slices[k].timing = .parked → x = none) :
    SlicesMove s (changeTarget k x s) := by
  have hshelves := changeTarget_shelves k x s
  have hslices := changeTarget_slices k x s
  have hrecorded : targetSlot (Machine.changeTarget k x s) k = x.map Target.slot := by
    unfold targetSlot; rw [hshelves, getElem_set_fin, if_pos rfl]
  refine of_shelf k (fun j hj => ?_) (fun j hj => ?_) ?_
  · rw [hslices, takeTarget_slices k _ _ j hj]; rfl
  · unfold targetSlot; rw [hshelves, getElem_set_fin, if_neg (Ne.symm hj)]
  · rw [hrecorded, hslices]
    by_cases hp : s.slices[k].timing = .parked
    · have hstays := takeTarget_parked k (x.map Target.slot) (s.setShelf k { s.shelves[k] with target := x }) hp
      rw [hstays, h hp]
      exact .single (.withdrawn _ _ hp)
    · exact takeTarget_run _ k _ (s.setShelf k { s.shelves[k] with target := x }) hp

theorem applyTarget (k : ShelfId) (x : Option Slot) (s : State) (hp : s.slices[k].timing ≠ .parked) :
    SlicesMove s (applyTarget k x s) := by
  by_cases hx : x = targetSlot s k
  · refine of_records (by rw [applyTarget_slices, if_pos hx]) fun j => ?_
    by_cases hj : k = j
    · rw [← hj, applyTarget_targetSlot, hx]
    · unfold targetSlot; rw [applyTarget_at, if_neg hj]
  · rw [applyTarget_changes hx]
    exact changeTarget k _ s fun h => absurd h hp

theorem evaluate (k : ShelfId) (m : Option Slot) (s : State) : SlicesMove s (evaluate k m s) := by
  by_cases hp : s.slices[k].timing = .parked
  · have hsame : Machine.evaluate k m s = s := if_pos hp
    rw [hsame]; exact refl s
  · obtain ⟨x, v, hmarked, happlies⟩ := evaluate_applies k m s hp
    rw [happlies]
    exact (of_records hmarked.slices_eq hmarked.targetSlot_eq).trans
      (applyTarget k x v (by rw [hmarked.slices_eq]; exact hp))

theorem serveEvaluation (s : State) : SlicesMove s (serveEvaluation s) := by
  unfold Machine.serveEvaluation
  split
  · exact refl s
  · exact ite (refl s) ((setEngine _ s).trans (evaluate _ _ _))

/-! ### The operations of the engine -/

theorem takeRemoval (n : Slot) (s : State) : SlicesMove s (takeRemoval n s) := by
  have hremoved : ∀ k t, SlicesMove t (t.setShelf k { t.shelves[k] with failed := t.shelves[k].failed.set n false }) :=
    fun k t => setShelf k _ t rfl
  unfold Machine.takeRemoval
  split
  · exact refl s
  · exact (setFlight _ s).trans (foldl _ hremoved _ _)

/-- A shelf's record is stored with its target, and the Event Unit and the queue are told. -/
theorem listChange (k : ShelfId) (x : Shelf) (s : State) (h : x.target = s.shelves[k].target) :
    SlicesMove s (Machine.requestEvaluation k none (raiseListChange k (s.setShelf k x))) :=
  ((setShelf k x s h).trans (of_sameBut (raiseListChange_sameBut k _))).trans (requestEvaluation k none _)

theorem writeEntry (k : ShelfId) (e : EntryId) (w : Entry) (s : State) : SlicesMove s (writeEntry k e w s) := by
  have hset : SlicesMove s (s.setShelf k { s.shelves[k] with entries := s.shelves[k].entries.set e w }) :=
    setShelf k _ s rfl
  exact (refl s).ite (((hset.trans (changeTarget k none _ fun _ => rfl)).ite hset).trans (listChange k _ _ rfl))

theorem setCommand (k : ShelfId) (c : Command) (s : State) : SlicesMove s (setCommand k c s) := by
  obtain ⟨hshelves, -, hframe⟩ := setCommand_spec k c s
  exact of_records (hframe .slices (by decide)) (targetSlot_of_set hshelves rfl)

theorem setLockout (k : ShelfId) (e : EntryId) (on : Bool) (s : State) : SlicesMove s (setLockout k e on s) :=
  (refl s).ite (listChange k _ s rfl)

theorem clearMarks (k : ShelfId) (s : State) : SlicesMove s (clearMarks k s) := by
  obtain ⟨hshelves, -, hframe⟩ := clearMarks_spec k s
  exact of_records (hframe .slices (by decide)) (targetSlot_of_set hshelves rfl)

theorem runCommand (c : Request → Command) (r : Request) (s : State) : SlicesMove s (runCommand c r s).state := by
  unfold Machine.runCommand
  split
  · exact refl s
  · exact setCommand _ _ s

theorem runUnranked {act : Request → State → State} (h : ∀ r t, SlicesMove t (act r t)) (r : Request) (s : State) :
    SlicesMove s (runUnranked act r s).state := by
  unfold Machine.runUnranked
  split
  · exact refl s
  · exact h r s

/-! ### Park, unpark and slice reset (R102 to R104, R125 to R127) -/

/-- The record of a shelf that loses its target. -/
theorem targetSlot_of_withdrawn {s t : State} {k : ShelfId} {x : Shelf} (h : t.shelves = s.shelves.set k x)
    (hx : x.target = none) (j : ShelfId) : targetSlot t j = if k = j then none else targetSlot s j := by
  unfold targetSlot
  rw [h, getElem_set_fin]
  split
  · rw [hx]; rfl
  · rfl

theorem parkBoth (k : ShelfId) (s : State) : SlicesMove s (parkBoth k s) := by
  by_cases hp : s.slices[k].timing = .parked
  · rw [parkBoth_parked k s hp]; exact refl s
  · obtain ⟨hslices, hshelves, -⟩ := parkBoth_spec k s hp
    have hrecorded := targetSlot_of_withdrawn hshelves rfl
    refine of_shelf k (fun j hj => ?_) (fun j hj => ?_) ?_
    · rw [hslices, if_neg (Ne.symm hj)]
    · rw [hrecorded, if_neg (Ne.symm hj)]
    · rw [hrecorded, if_pos rfl, hslices k, if_pos rfl]
      exact quietly (.single (.parked _ _ s.slices[k].action))

theorem unparkSlice (k : ShelfId) (s : State) : SlicesMove s (unparkSlice k s) := by
  by_cases hp : s.slices[k].timing = .parked
  · obtain ⟨hslices, -, hframe⟩ := unparkSlice_spec k s hp
    have hrecorded := targetSlot_of_shelves (hframe .shelves (by decide))
    refine of_shelf k (fun j hj => ?_) (fun j _ => hrecorded j) ?_
    · rw [hslices, if_neg (Ne.symm hj)]
    · rw [hrecorded, hslices k, if_pos rfl]
      exact quietly (.single (.unparked _ _ _ hp))
  · rw [unparkSlice_unparked k s hp]; exact refl s

/-- The slice half of a slice reset, at an unparked slice (R127). -/
theorem resetSliceHalf_at (k j : ShelfId) (s : State) (hp : s.slices[k].timing ≠ .parked) :
    (resetSliceHalf k s).slices[j] =
      if k = j then
        { s.slices[k].stopTimers with
          timing := .freerun
          target := none
          reportTimer := some (s.osc + s.slices[k].cfg.reportS * 125000000)
          history := false
          unreachable := false
          lastReport := none
          seq := s.slices[k].seq + 1
          action := .hold
          unsent := (resetSliceHalf k s).slices[k].unsent
          triple := (resetSliceHalf k s).slices[k].triple }
      else s.slices[j] := by
  have hrun : (resetSliceHalf k s).slices = (Machine.closeSlice k s.slices[k] (newDirective k .hold (s.setSlice k
      { s.slices[k].stopTimers with
        timing := .freerun
        target := none
        reportTimer := startMs s.osc (s.slices[k].cfg.reportS * 1000)
        history := false
        unreachable := false
        lastReport := none }))).slices := by
    unfold resetSliceHalf
    dsimp only
    rw [if_neg hp, requestEvaluation_sameBut _ _ _ .slices (by decide)]
  rw [hrun, closeDirective_at]
  split
  · rw [closeDirective_at, if_pos rfl, startMs_s]; rfl
  · rfl

/-- The slice half of a slice reset, at a PARKED slice (R127). -/
theorem resetSliceHalf_parked (k j : ShelfId) (s : State) (hp : s.slices[k].timing = .parked) :
    s.slices[j].Quiet (resetSliceHalf k s).slices[j] := by
  have hrun : (resetSliceHalf k s).slices = (Machine.closeSlice k s.slices[k] (s.setSlice k
      { s.slices[k] with history := false, lastReport := none })).slices := by
    unfold resetSliceHalf
    dsimp only
    rw [if_pos hp, requestEvaluation_sameBut _ _ _ .slices (by decide)]
  rw [hrun, closeSlice_triple_at]
  split <;> rename_i hj
  · rw [State.setSlice_slices_at, if_pos rfl, hj]; rfl
  · rw [State.setSlice_slices_at, if_neg hj]; rfl

theorem resetEngineHalf_sameBut (k : ShelfId) (s : State) :
    sameBut [.shelves, .queue, .latches, .noticeState, .control] s (resetEngineHalf k s) :=
  (withdrawTarget_spec k s).2.1.trans (setShelf_sameBut _ _ _).mono

theorem resetBoth (k : ShelfId) (s : State) : SlicesMove s (resetBoth k s) := by
  obtain ⟨hslices, -, -, -, -, hshelves, -⟩ := resetBoth_spec k s
  have hrecorded := targetSlot_of_withdrawn hshelves rfl
  have hbefore : (resetEngineHalf k s).slices = s.slices := resetEngineHalf_sameBut k s .slices (by decide)
  refine of_shelf k hslices (fun j hj => ?_) ?_
  · rw [hrecorded, if_neg (Ne.symm hj)]
  rw [hrecorded, if_pos rfl]
  show SliceRun _ ⟨none, (resetSliceHalf k (resetEngineHalf k s)).slices[k]⟩
  by_cases hp : s.slices[k].timing = .parked
  · have hquiet := resetSliceHalf_parked k k (resetEngineHalf k s) (by rw [hbefore]; exact hp)
    rw [hbefore] at hquiet
    exact quietly (.single (.withdrawn _ _ hp)) hquiet
  · have hat := resetSliceHalf_at k k (resetEngineHalf k s) (by rw [hbefore]; exact hp)
    rw [if_pos rfl, hbefore] at hat
    rw [hat]
    exact quietly ((Relation.ReflTransGen.single (.runsFree _ _ hp)).tail (.heard _ _ _ nofun))

/-! ### The restart (R108, R130) -/

/-- A restarted slice is PARKED as before, or in FREERUN without a target (R130). -/
theorem restartedWith_run (r : Option Slot) (now : Nat) (triple : Triple) (v : Slice) :
    SliceRun ⟨r, v⟩ ⟨none, v.restartedWith now triple⟩ := by
  unfold Slice.restartedWith
  by_cases hp : v.timing = .parked
  · simp only [if_pos hp]
    exact quietly (.single (.parked r v .hold))
  · simp only [if_neg hp]
    exact quietly ((Relation.ReflTransGen.single (.runsFree r v hp)).tail
      (.heard _ _ (now + v.cfg.reportS * 125000000) nofun))

theorem deviceRestart (s : State) : SlicesMove s (deviceRestart s) := fun k => by
  have hshelves : (Machine.deviceRestart s).shelves = s.restarted.shelves :=
    deviceRestart_directs s .shelves (by decide)
  have hrecorded : targetSlot (Machine.deviceRestart s) k = none := by
    unfold targetSlot; rw [hshelves, restarted_shelves]; rfl
  unfold shelfTiming
  rw [hrecorded, (deviceRestart_sends s _ rfl).2 k]
  exact restartedWith_run _ _ _ _

/-! ### Every command -/

theorem answered (s t : State) (h : sameBut answerParts s t) : SlicesMove s t := of_sameBut h

/-- A row of the engine, where its service moves every shelf's timing by moves. -/
theorem of_engine {c row : Instr} {check : Request → State → Option RefusalAnswer} {run : Request → State → Served}
    {s t : State} (h : exec c s = .next t) (hc : exec c s = .next (serveEngine row check run s))
    (hrun : ∀ r t, SlicesMove t (run r t).state) : SlicesMove s t :=
  exec_eq_of_next h hc ▸
    serveEngine_keeps (SlicesMove s) (fun _ _ h ht => ht.trans (answered _ _ h))
      (fun _ ht => ht.trans (setEngine _ _)) (fun _ => True) (fun _ _ _ => trivial)
      (fun r t _ ht => ht.trans (hrun r t)) s (fun _ _ _ _ _ _ _ => trivial) (refl s)

theorem of_masked {c row : Instr} {check : Request → State → Option RefusalAnswer} {act : ShelfId → State → State}
    {s t : State} (h : exec c s = .next t) (hc : exec c s = .next (serveEngine row check (runMasked act) s))
    (hact : ∀ k t, SlicesMove t (act k t)) : SlicesMove s t :=
  of_engine h hc fun _ t => overMask _ act hact t

theorem of_agent {c row : Instr} {check : Request → State → Option RefusalAnswer} {run : Request → State → Served}
    {s t : State} (h : exec c s = .next t) (hc : exec c s = .next (serveAgent row check run s))
    (hrun : ∀ r t, SlicesMove t (run r t).state) : SlicesMove s t :=
  exec_agent_keeps (SlicesMove s) (fun _ _ h ht => ht.trans (answered _ _ h)) h hc
    (fun r t ht => ht.trans (hrun r t)) (refl s)

/-- A command whose frame names neither the slices nor the shelves. -/
theorem of_frame {c : Instr} {s t : State} (h : exec c s = .next t)
    (hd : decide (Part.slices ∉ commandParts c ∧ Part.shelves ∉ commandParts c) = true := by rfl) : SlicesMove s t :=
  of_sameBut (exec_sameBut c s t h) (of_decide_eq_true hd)

end SlicesMove

/-- A command that does not start the part over moves every shelf's timing by moves. -/
theorem exec_slicesMove (c : Instr) (s t : State) (hstart : Instr.startsOver c = false) (h : exec c s = .next t) :
    SlicesMove s t := by
  cases c with
  | powerOn | resetLineReleased | transmissionEnd | deviceRestart => cases hstart
  | lockReport => exact exec_eq_of_next h rfl ▸ SlicesMove.takeLockReport s
  | lockFailedRemoval n => exact exec_eq_of_next h rfl ▸ SlicesMove.takeRemoval n s
  | targetGradeHandover k => exact exec_eq_of_next h rfl ▸ SlicesMove.takeTargetGrade k s
  | evaluation => exact exec_eq_of_next h rfl ▸ SlicesMove.serveEvaluation s
  | lockTimerExpiry k => exact exec_eq_of_next h rfl ▸ SlicesMove.expireLock k s
  | settleTimerExpiry k => exact exec_eq_of_next h rfl ▸ SlicesMove.expireSettle k s
  | reportTimerExpiry k => exact exec_eq_of_next h rfl ▸ SlicesMove.expireReport k s
  | holdoverBudgetExhausted k => exact exec_eq_of_next h rfl ▸ SlicesMove.exhaustBudget k s
  | writeListEntry => exact .of_engine h rfl fun _ t => .overMask _ _ (fun k t => .writeEntry k _ _ t) t
  | writeShelf =>
    exact .of_engine h rfl fun _ t =>
      .overMask _ _ (fun k t => (SlicesMove.writeSelection k _ t).trans (.writeSlice k _ _)) t
  | writeNode => exact .of_agent h rfl fun _ t => SlicesMove.writeNode _ t
  | commandHold | commandForce | commandManual => exact .of_engine h rfl (SlicesMove.runCommand _)
  | commandClear => exact .of_engine h rfl (SlicesMove.runUnranked fun _ t => .setCommand _ _ t)
  | commandLockout => exact .of_engine h rfl (SlicesMove.runUnranked fun _ t => .setLockout _ _ _ t)
  | park => exact .of_masked h rfl SlicesMove.parkBoth
  | unpark => exact .of_masked h rfl SlicesMove.unparkSlice
  | sliceReset => exact .of_masked h rfl SlicesMove.resetBoth
  | clearMarks => exact .of_masked h rfl SlicesMove.clearMarks
  | _ => exact SlicesMove.of_frame h

/-- What holds of every shelf's timing at power-on, and every move keeps, every command keeps. -/
theorem exec_keeps_shelfTiming (P : ShelfTiming → Prop) (hpower : ∀ now k, P ⟨none, resetSlice now k⟩)
    (hP : ∀ p q, SliceMove p q → P p → P q) (c : Instr) (s t : State) (h : exec c s = .next t)
    (hs : ∀ k, P (shelfTiming s k)) : ∀ k, P (shelfTiming t k) := by
  by_cases hstart : Instr.startsOver c = true
  · refine exec_startsOver_keeps (fun s => ∀ k, P (shelfTiming s k)) (fun now strap level record pending k => ?_)
      (fun s hs => (SlicesMove.deviceRestart s).keeps P hP hs) (fun _ _ hs => hs) hstart h hs
    have hrecorded : targetSlot (State.powerOn now strap level record pending) k = none := reset_targetSlot k
    have hslice : (State.powerOn now strap level record pending).slices[k] = resetSlice now k := Vector.getElem_ofFn ..
    unfold shelfTiming
    rw [hrecorded, hslice]
    exact hpower now k
  · exact (exec_slicesMove c s t (Bool.eq_false_iff.2 hstart) h).keeps P hP hs

theorem exec_keeps_slicesFollowTargets (c : Instr) (s t : State) (h : exec c s = .next t) (hs : SlicesFollowTargets s) :
    SlicesFollowTargets t :=
  exec_keeps_shelfTiming ShelfTiming.Agrees (fun _ _ => ⟨rfl, rfl, fun _ => rfl⟩) (fun _ _ hmove => hmove.keeps_agrees)
    c s t h hs

theorem exec_keeps_sliceTimersOk (c : Instr) (s t : State) (h : exec c s = .next t) (hs : SliceTimersOk s) :
    SliceTimersOk t :=
  exec_keeps_shelfTiming (fun p => p.slice.TimersOk) (fun _ _ => ⟨nofun, rfl, rfl, nofun, nofun, fun _ => rfl⟩)
    (fun _ _ hmove => hmove.keeps_timersOk) c s t h hs

/-! ### The settled statement -/

/-- Settles O57: every event runs each shelf's timing through moves that keep both. -/
theorem stepKeepsSlicesFollowingTargets : Obligations.StepKeepsSlicesFollowingTargets :=
  ⟨step_keeps SlicesFollowTargets exec_keeps_slicesFollowTargets fun _ _ h => h,
    step_keeps SliceTimersOk exec_keeps_sliceTimersOk fun _ _ h => h⟩

end Sys2Proof.Machine
end

section
/-! PROOFS. The events of a slice: a Lock Report that is accepted (O29), and the slice timers (O30). -/

namespace Sys2Proof.Machine

-- One theorem after the other: the joined text would otherwise ask for a thread per waiting proof.
set_option Elab.async false

/-! ### The closing of a slice event (R110, R122, R136) -/

/-- An event that moves the timing state raises TIMING_STATE, recomputes the triple and tells the Notice Unit. -/
theorem closeSlice_moved (k : ShelfId) (old : Slice) (s : State) (htiming : s.slices[k].timing ≠ old.timing)
    (hunreachable : s.slices[k].unreachable = old.unreachable) :
    closeSlice k old s = retriple k true (raiseEdge (shelfLatch 1 k) s) := by
  unfold closeSlice
  dsimp only
  rw [if_neg htiming, decide_eq_true htiming, hunreachable]
  unfold raiseCondition
  rw [if_pos rfl]
  rfl

/-- An event that sets the unreachable flag alone raises MODULE_SILENT and recomputes the triple. -/
theorem closeSlice_silenced (k : ShelfId) (old : Slice) (s : State) (htiming : s.slices[k].timing = old.timing)
    (htarget : s.slices[k].target = old.target) (hnow : s.slices[k].unreachable = true)
    (hold : old.unreachable = false) :
    closeSlice k old s = retriple k false (raiseCondition (condModuleSilent k) false true s) := by
  unfold closeSlice
  dsimp only
  rw [if_pos htiming, htiming, htarget, hnow, hold, decide_eq_false (not_not.2 rfl), decide_eq_false (not_not.2 rfl)]
  rfl

/-- The triple that a recomputation stores is the one that the state after it gives. -/
theorem retriple_sliceTriple (k : ShelfId) (tell : Bool) (s : State) :
    sliceTriple (retriple k tell s) k = sliceTriple s k :=
  sliceTriple_congr k rfl rfl (by rw [retriple_at, if_pos rfl])

/-- A changed triple goes to the Grade Receiver (R136). -/
theorem retriple_triples (k : ShelfId) (tell : Bool) (s : State) :
    (retriple k tell s).flight.triples =
      if sliceTriple s k = s.slices[k].triple then s.flight.triples
      else s.flight.triples ++ [(k, sliceTriple s k)] := by
  show (if decide (sliceTriple s k ≠ s.slices[k].triple) = true then s.flight.triples ++ [(k, sliceTriple s k)]
    else s.flight.triples) = _
  by_cases h : sliceTriple s k = s.slices[k].triple
  · rw [if_pos h, decide_eq_false (not_not.2 h)]; rfl
  · rw [if_neg h, decide_eq_true h]; rfl

/-- A change of the timing state or of the target goes to the Notice Unit, whatever the triple (R136). -/
theorem retriple_notices (k : ShelfId) (s : State) :
    (retriple k true s).flight.notices =
      s.flight.notices ++
        [(k, { triple := sliceTriple s k, target := s.slices[k].target, timing := s.slices[k].timing })] := by
  show (if (decide (sliceTriple s k ≠ s.slices[k].triple) || true) = true then _ else _) = _
  rw [Bool.or_true]
  rfl

/-- A slice that is unreachable advertises rank 15, hop 0 and its own tag (R131). -/
theorem sliceTriple_unreachable (k : ShelfId) (s : State) (h : s.slices[k].unreachable = true) :
    sliceTriple s k = { rank := 15, hop := 0, origin := { tag := ownTag s.baseTag k, isPartial := false } } := by
  unfold sliceTriple
  dsimp only
  rw [if_pos h, ite_self]
  rfl

/-! ### The slice timers (R120 to R122) -/

theorem expireLock_acquiring {k : ShelfId} {due : Nat} {s : State} (htiming : s.slices[k].timing = .acquiring)
    (hdue : s.slices[k].lockTimer = some due) :
    expireLock k s =
      raiseEdge (shelfLatch 2 k)
        (requestEvaluation k s.slices[k].target (s.expired due k s.slices[k].lockExpired)) := by
  unfold expireLock
  dsimp only
  split
  · rename_i hexpiry
    rw [Option.some.inj (hdue.symm.trans hexpiry)]
    rfl
  · rename_i hstopped
    exact absurd hdue (hstopped due htiming)

theorem expireSettle_settling {k : ShelfId} {due : Nat} {s : State} (htiming : s.slices[k].timing = .settling)
    (hdue : s.slices[k].settleTimer = some due) :
    expireSettle k s = retriple k true (raiseEdge (shelfLatch 1 k) (s.expired due k s.slices[k].settled)) := by
  have hmoved : s.slices[k].settled.timing ≠ s.slices[k].timing := by rw [htiming]; exact nofun
  have hclosed : expireSettle k s = closeSlice k s.slices[k] (s.expired due k s.slices[k].settled) := by
    unfold expireSettle
    dsimp only
    split
    · rename_i hexpiry
      rw [Option.some.inj (hdue.symm.trans hexpiry)]
      rfl
    · rename_i hstopped
      exact absurd hdue (hstopped due htiming)
  rw [hclosed, closeSlice_moved] <;> rw [expired_slice]
  · exact hmoved
  · rfl

theorem expireReport_reachable {k : ShelfId} {due : Nat} {s : State} (hdue : s.slices[k].reportTimer = some due)
    (hreachable : s.slices[k].unreachable = false) :
    expireReport k s =
      retriple k false
        (raiseCondition (condModuleSilent k) false true (s.expired due k s.slices[k].silenced)) := by
  have hclosed : expireReport k s = closeSlice k s.slices[k] (s.expired due k s.slices[k].silenced) := by
    unfold expireReport
    dsimp only
    rw [hdue]
    rfl
  rw [hclosed]
  exact closeSlice_silenced _ _ _ (by rw [expired_slice]; rfl) (by rw [expired_slice]; rfl) (by rw [expired_slice]; rfl)
    hreachable

/-- Settles O30: each expiry is a store of the slice, then what the rules hand on. -/
theorem sliceTimersExpire : Obligations.SliceTimersExpire := by
  refine ⟨fun k due c s htiming hdue htarget => ⟨expireLock k s, rfl, ?lock⟩,
    fun k due s htiming hdue => ⟨expireSettle k s, rfl, ?settle⟩,
    fun k due s hdue hreachable => ⟨expireReport k s, rfl, ?report⟩⟩
  case lock =>
    rw [expireLock_acquiring htiming hdue, htarget]
    have hexpired := expired_sameBut s due k s.slices[k].lockExpired
    generalize hu : s.expired due k s.slices[k].lockExpired = u at *
    have hrequested := requestEvaluation_sameBut k (some c) u
    have hraised := raiseEdge_sameBut (shelfLatch 2 k) (requestEvaluation k (some c) u)
    have hqueue : (raiseEdge (shelfLatch 2 k) (requestEvaluation k (some c) u)).engine.queue =
        joinQueue k (some c) s.engine.queue := by rw [hraised .queue (by decide), ← hu]; rfl
    refine ⟨?_, ?_, fun j => ?_, ?_, ?_, ?_⟩
    · rw [hraised .osc (by decide), ← hu]; rfl
    · rw [hraised .slices (by decide), ← hu]; rfl
    · rw [hqueue]; exact mem_joinQueue k j (some c) s.engine.queue
    · rw [hqueue]; exact joinQueue_mark k c s.engine.queue
    · rw [← hu]; exact raiseEdge_raisedBy _ _
    · exact (hexpired.andThen hrequested (rs := [.osc, .slices, .queue, .latches, .noticeState, .control])).andThen
        hraised (hp := fun _ h => h)
  case settle =>
    rw [expireSettle_settling htiming hdue, retriple_sliceTriple]
    have hexpired := expired_sameBut s due k s.slices[k].settled
    have hraised := raiseEdge_sameBut (shelfLatch 1 k) (s.expired due k s.slices[k].settled)
    have hlatches := raiseEdge_raisedBy (shelfLatch 1 k) (s.expired due k s.slices[k].settled)
    generalize raiseEdge (shelfLatch 1 k) (s.expired due k s.slices[k].settled) = u at *
    have hslices : u.slices = s.slices.set k s.slices[k].settled := hraised .slices (by decide)
    have hslice : u.slices[k] = s.slices[k].settled := by rw [hslices, getElem_set_fin, if_pos rfl]
    have hretripled := retriple_sameBut k true u
    refine ⟨?_, ?_, fun m => ?_, ?_, ?_, ?_⟩
    · rw [hretripled .osc (by decide), hraised .osc (by decide)]; rfl
    · rw [retriple_slices, hslice, hslices]; exact Vector.set_set ..
    · rw [hretripled .latches (by decide)]; exact hlatches m
    · rw [retriple_notices, hslice, hraised .noticeHandovers (by decide)]; rfl
    · rw [retriple_triples, hslice, hraised .tripleHandovers (by decide)]; rfl
    · exact (hexpired.andThen hraised
        (rs := [.osc, .slices, .latches, .noticeState, .control, .tripleHandovers, .noticeHandovers])).andThen
        hretripled (hp := fun _ h => h)
  case report =>
    rw [expireReport_reachable hdue hreachable]
    have hexpired := expired_sameBut s due k s.slices[k].silenced
    have hraised := raiseCondition_sameBut (condModuleSilent k) false true (s.expired due k s.slices[k].silenced)
    have hcopies := raiseCondition_copies (condModuleSilent k) false true (s.expired due k s.slices[k].silenced)
    generalize raiseCondition (condModuleSilent k) false true (s.expired due k s.slices[k].silenced) = u at *
    have hslices : u.slices = s.slices.set k s.slices[k].silenced := hraised .slices (by decide)
    have hslice : u.slices[k] = s.slices[k].silenced := by rw [hslices, getElem_set_fin, if_pos rfl]
    have hbaseTag : u.baseTag = s.baseTag := hraised .baseTag (by decide)
    have hretripled := retriple_sameBut k false u
    have hkept : (retriple k false u).events.copies = u.events.copies := hretripled .conditions (by decide)
    refine ⟨?_, ?_, ?_, ?_⟩
    · rw [hretripled .osc (by decide), hraised .osc (by decide)]; rfl
    · rw [retriple_slices, sliceTriple_unreachable k u (by rw [hslice]; rfl), hslice, hslices, hbaseTag]
      exact Vector.set_set ..
    · rw [hkept, hcopies, if_neg Bool.false_ne_true, getElem_set_fin, if_pos rfl]
    · exact (hexpired.andThen hraised (rs := [.osc, .slices, .latches, .conditions, .noticeState, .control,
        .tripleHandovers, .noticeHandovers])).andThen hretripled (hp := fun _ h => h)

/-! ### Lock Reports that are accepted (R115 to R118) -/

/-- A report from the module of an unparked slice is accepted: stale it is answered by a resend, current it is judged
(R115, R116). -/
theorem takeReport_accepted (k : ShelfId) (f : Frame) (s : State) (hsource : frameSource f = s.slices[k].cfg.module)
    (hparked : s.slices[k].timing ≠ .parked) :
    takeReport k f s =
      if s.slices[k].stale (reportOf f) = true then
        closeSlice k s.slices[k] (sendDirective k (s.setSlice k (s.slices[k].hearReport s.osc (reportOf f))))
      else
        closeSlice k s.slices[k]
          (s.setSlice k ((s.slices[k].hearReport s.osc (reportOf f)).currentReport s.osc (reportOf f))) := by
  unfold takeReport
  dsimp only
  rw [decide_eq_true hsource, decide_eq_true hparked]
  rfl

theorem stale_iff (r : Report) (v : Slice) : v.stale r = true ↔ r.echo ≠ v.seq ∨ v.unsent = true := by
  unfold Slice.stale
  rw [Bool.or_eq_true, decide_eq_true_eq]

/-- A stale report is recorded, and the record is sent once more as it stands (R116). -/
theorem takeReport_stale (k : ShelfId) (f : Frame) (s : State) (hsource : frameSource f = s.slices[k].cfg.module)
    (hparked : s.slices[k].timing ≠ .parked) (hstale : s.slices[k].stale (reportOf f) = true) :
    (∃ triple, (takeReport k f s).slices[k] =
        { s.slices[k].hearReport s.osc (reportOf f) with
          unsent := decide (32 ≤ s.lane.fabric.localQ.length), triple := triple }) ∧
      (takeReport k f s).lane.fabric =
        if s.lane.fabric.localQ.length < 32 then
          OutPort.serve s.lane.live
            { s.lane.fabric with localQ := s.lane.fabric.localQ ++ [⟨directiveFrame s k, false⟩] }
        else s.lane.fabric := by
  have hframe : directiveFrame (s.setSlice k (s.slices[k].hearReport s.osc (reportOf f))) k = directiveFrame s k := by
    unfold directiveFrame
    rw [State.setSlice_slices_at, if_pos rfl]
    rfl
  rw [takeReport_accepted k f s hsource hparked, if_pos hstale]
  constructor
  · rw [closeSlice_triple_at, if_pos rfl, sendDirective_at, if_pos rfl, State.setSlice_slices_at, if_pos rfl]
    exact ⟨_, rfl⟩
  · rw [closeSlice_keeps _ _ _ .fabric (by decide), sendDirective_fabric, hframe]
    rfl

/-- A current report is recorded and judged, and sends nothing (R117, R118). -/
theorem takeReport_current (k : ShelfId) (f : Frame) (s : State) (hsource : frameSource f = s.slices[k].cfg.module)
    (hparked : s.slices[k].timing ≠ .parked) (hstale : ¬ s.slices[k].stale (reportOf f) = true) :
    (∃ triple, (takeReport k f s).slices[k] =
        { (s.slices[k].hearReport s.osc (reportOf f)).currentReport s.osc (reportOf f) with triple := triple }) ∧
      (takeReport k f s).lane.fabric = s.lane.fabric := by
  rw [takeReport_accepted k f s hsource hparked, if_neg hstale]
  constructor
  · rw [closeSlice_triple_at, if_pos rfl, State.setSlice_slices_at, if_pos rfl]
    exact ⟨_, rfl⟩
  · exact closeSlice_keeps _ _ _ .fabric (by decide)

/-- A report reaches no other slice. -/
theorem takeReport_others (k : ShelfId) (f : Frame) (s : State) (j : ShelfId) (hj : j ≠ k) :
    (takeReport k f s).slices[j] = s.slices[j] := by
  have hkj : ¬ k = j := Ne.symm hj
  unfold takeReport
  dsimp only
  split
  · split
    · rw [closeSlice_triple_at, if_neg hkj, sendDirective_at, if_neg hkj, State.setSlice_slices_at, if_neg hkj]
    · rw [closeSlice_triple_at, if_neg hkj, State.setSlice_slices_at, if_neg hkj]
  · rfl

/-- The judging of a current report keeps what the report recorded, the directive record, the target and the history
flag. -/
theorem currentReport_keeps (now : Nat) (r : Report) (v : Slice) :
    let w := v.currentReport now r
    w.reportTimer = v.reportTimer ∧ w.unreachable = v.unreachable ∧ w.lastReport = v.lastReport ∧ w.seq = v.seq ∧
      w.action = v.action ∧ w.target = v.target ∧ w.history = v.history := by
  dsimp only
  rcases currentReport_cases now r v with ⟨lock, hjudged⟩ | ⟨ready, hjudged⟩ <;> rw [hjudged]
  · rcases trackReport_cases now lock v with hv | ⟨-, hv⟩ | ⟨-, hv⟩ | ⟨-, hv⟩ <;> rw [hv] <;>
      exact ⟨rfl, rfl, rfl, rfl, rfl, rfl, rfl⟩
  · rcases holdReport_cases now ready v with hv | ⟨-, hv⟩ | ⟨-, hv⟩ <;> rw [hv] <;>
      exact ⟨rfl, rfl, rfl, rfl, rfl, rfl, rfl⟩

theorem currentReport_track {v : Slice} {c : Slot} (now : Nat) (r : Report) (h : v.action = .track c) :
    v.currentReport now r = v.trackReport now (v.seesLock r) := by
  unfold Slice.currentReport
  rw [h]

theorem currentReport_hold {v : Slice} (now : Nat) (r : Report) (h : v.action = .hold) :
    v.currentReport now r = v.holdReport now r.holdoverReady := by
  unfold Slice.currentReport
  rw [h]

/-- Under TRACK in ACQUIRING, lock leads to SETTLING (R117, Table 6-4). -/
theorem trackReport_acquiring (now : Nat) (lock : Bool) (v : Slice) (h : v.timing = .acquiring) :
    if lock = true then
      (v.trackReport now lock).timing = .settling ∧ (v.trackReport now lock).lockTimer = none ∧
        (v.trackReport now lock).settleTimer = some (now + max 1 v.cfg.settleS * 125000000)
    else (v.trackReport now lock).timing = .acquiring ∧ (v.trackReport now lock).lockTimer = v.lockTimer := by
  unfold Slice.trackReport
  cases lock with
  | true => rw [h]; exact ⟨rfl, rfl, startMs_s now _⟩
  | false => simp only [h, Bool.false_eq_true, if_false, and_self]

/-- Under TRACK in SETTLING and LOCKED, the loss of lock leads back to ACQUIRING (R117, Table 6-4). -/
theorem trackReport_tracking (now : Nat) (lock : Bool) (v : Slice) (h : v.timing = .settling ∨ v.timing = .locked) :
    if lock = true then
      (v.trackReport now lock).timing = v.timing ∧ (v.trackReport now lock).settleTimer = v.settleTimer
    else
      (v.trackReport now lock).timing = .acquiring ∧
        (v.trackReport now lock).lockTimer = some (now + v.cfg.lockS * 125000000) := by
  unfold Slice.trackReport
  rcases h with h | h <;> rw [h] <;> cases lock
  · exact ⟨rfl, startMs_s now _⟩
  · exact ⟨h, rfl⟩
  · exact ⟨rfl, startMs_s now _⟩
  · exact ⟨h, rfl⟩

/-- Under HOLD a module that is ready leads from FREERUN to HOLDOVER (R118). -/
theorem holdReport_freerun (now : Nat) (ready : Bool) (v : Slice) (h : v.timing = .freerun) :
    if ready = true then
      (v.holdReport now ready).timing = .holdover ∧ (v.holdReport now ready).holdoverSince = some now
    else (v.holdReport now ready).timing = .freerun := by
  unfold Slice.holdReport
  rw [h]
  cases ready with
  | true => exact ⟨rfl, rfl⟩
  | false => exact h

/-- Under HOLD a module that is no longer ready leads from HOLDOVER to FREERUN (R118). -/
theorem holdReport_holdover (now : Nat) (ready : Bool) (v : Slice) (h : v.timing = .holdover) :
    if ready = true then
      (v.holdReport now ready).timing = .holdover ∧ (v.holdReport now ready).holdoverSince = v.holdoverSince
    else (v.holdReport now ready).timing = .freerun ∧ (v.holdReport now ready).holdoverSince = none := by
  unfold Slice.holdReport
  rw [h]
  cases ready with
  | true => exact ⟨h, rfl⟩
  | false => exact ⟨rfl, rfl⟩

/-- What every accepted report leaves of its slice: the report timer started anew, the slice reachable, the report
recorded, and the directive record, the target and the history flag kept (R115). -/
def reportRecorded (now : Nat) (r : Report) (v w : Slice) : Prop :=
  w.reportTimer = some (now + v.cfg.reportS * 125000000) ∧ w.unreachable = false ∧ w.lastReport = some r ∧
    w.seq = v.seq ∧ w.action = v.action ∧ w.target = v.target ∧ w.history = v.history

theorem takeReport_records (k : ShelfId) (f : Frame) (s : State) (hsource : frameSource f = s.slices[k].cfg.module)
    (hparked : s.slices[k].timing ≠ .parked) :
    reportRecorded s.osc (reportOf f) s.slices[k] (takeReport k f s).slices[k] := by
  have htimer := startMs_s s.osc s.slices[k].cfg.reportS
  by_cases hstale : s.slices[k].stale (reportOf f) = true
  · obtain ⟨⟨triple, hslice⟩, -⟩ := takeReport_stale k f s hsource hparked hstale
    rw [hslice]
    exact ⟨htimer, rfl, rfl, rfl, rfl, rfl, rfl⟩
  · obtain ⟨⟨triple, hslice⟩, -⟩ := takeReport_current k f s hsource hparked hstale
    obtain ⟨hreport, hunreachable, hlast, hseq, haction, htarget, hhistory⟩ :=
      currentReport_keeps s.osc (reportOf f) (s.slices[k].hearReport s.osc (reportOf f))
    rw [hslice]
    exact ⟨hreport.trans htimer, hunreachable, hlast, hseq, haction, htarget, hhistory⟩

/-- Settles O29: the slice takes the report on the state with the head of the local inbound queue gone. -/
theorem acceptedReportMovesSlice : Obligations.AcceptedReportMovesSlice := by
  intro f rest k s r hq hkind hshelf hsource hparked hr
  subst hr
  obtain ⟨u, hu⟩ : ∃ u, u = s.withLocalIn rest := ⟨_, rfl⟩
  have hrun : takeLockReport s = takeReport k f u := by
    have hlt : byteAt (frameBody f) 0 < 16 := hshelf ▸ k.isLt
    have hindex : (⟨byteAt (frameBody f) 0, hlt⟩ : ShelfId) = k := Fin.ext hshelf.symm
    rw [takeLockReport_head f rest s hq hkind, dif_pos hlt, hindex, hu]
  have hframe := takeLockReport_sameBut s
  have hslices : u.slices = s.slices := by rw [hu]; rfl
  have hosc : u.osc = s.osc := by rw [hu]; rfl
  have hfabric : u.lane.fabric = s.lane.fabric := by rw [hu]; rfl
  have hlive : u.lane.live = s.lane.live := by rw [hu]; rfl
  have hdirective : directiveFrame u k = directiveFrame s k := by rw [hu]; rfl
  have hlocalIn : (takeReport k f u).lane.localIn = rest := by
    rw [takeReport_sameBut k f u .localIn (by decide), hu]; rfl
  have hrecords := takeReport_records k f u
  have hstale := takeReport_stale k f u
  have hcurrent := takeReport_current k f u
  have hothers := takeReport_others k f u
  simp only [hslices, hosc, hfabric, hlive, hdirective] at hrecords hstale hcurrent hothers
  obtain ⟨htimer, hunreachable, hlast, hseq, haction, htarget, hhistory⟩ := hrecords hsource hparked
  rw [hrun] at hframe
  refine ⟨takeReport k f u, congrArg Host.Outcome.next hrun, hlocalIn, htimer, hunreachable, hlast, hseq, haction,
    htarget, hhistory, fun hold => ?stale, fun hecho hsent => ?current, hothers, hframe⟩
  case stale =>
    obtain ⟨⟨triple, hslice⟩, hport⟩ := hstale hsource hparked ((stale_iff _ _).2 hold)
    rw [hslice]
    exact ⟨rfl, rfl, rfl, rfl, fun hroom => by rw [hport, if_pos hroom]⟩
  case current =>
    have hfresh : ¬ s.slices[k].stale (reportOf f) = true := fun h =>
      ((stale_iff _ _).1 h).elim (fun h => h hecho) fun h => absurd (hsent ▸ h) Bool.false_ne_true
    obtain ⟨⟨triple, hslice⟩, hport⟩ := hcurrent hsource hparked hfresh
    rw [hslice]
    refine ⟨hport, fun c htrack => ?_, fun hhold => ?_⟩
    · rw [currentReport_track (v := s.slices[k].hearReport s.osc (reportOf f)) s.osc (reportOf f) htrack]
      exact ⟨trackReport_acquiring s.osc _ (s.slices[k].hearReport s.osc (reportOf f)),
        trackReport_tracking s.osc _ (s.slices[k].hearReport s.osc (reportOf f))⟩
    · rw [currentReport_hold (v := s.slices[k].hearReport s.osc (reportOf f)) s.osc (reportOf f) hhold]
      exact ⟨holdReport_freerun s.osc _ (s.slices[k].hearReport s.osc (reportOf f)),
        holdReport_holdover s.osc _ (s.slices[k].hearReport s.osc (reportOf f))⟩

end Sys2Proof.Machine
end

section
/-! PROOFS. The advertised grades (Chapter 7): what a slice advertises when its holdover budget runs out (O31) and when its
target's grade changes (O32), and the notices that hand-overs, periodic timers and budget windows send (O21, O22). -/

namespace Sys2Proof.Machine

-- One theorem after the other: the joined text would otherwise ask for a thread per waiting proof.
set_option Elab.async false

/-! ### The holdover budget (R134) -/

/-- The slice with its holdover budget spent, its triple apart (R134). -/
def Slice.budgetSpent (v : Slice) : Slice := { v with exhausted := true }

/-- A holdover clock that runs reaches the budget that many minutes after it started (R134). -/
theorem exhaustionDue_running {v : Slice} {since : Nat} (htiming : v.timing = .holdover)
    (hsince : v.holdoverSince = some since) (hspent : v.exhausted = false) :
    v.exhaustionDue = some (since + v.cfg.budgetMin * 60 * 125000000) := by
  unfold Slice.exhaustionDue
  rw [htiming, hsince, hspent, show v.cfg.budgetMin * 60000 = v.cfg.budgetMin * 60 * 1000 by omega]
  exact startMs_s since _

theorem exhaustBudget_due {k : ShelfId} {due : Nat} {s : State} (h : s.slices[k].exhaustionDue = some due) :
    exhaustBudget k s = retriple k false (s.expired due k s.slices[k].budgetSpent) := by
  unfold exhaustBudget
  rw [h]
  rfl

/-- A reachable slice in HOLDOVER whose budget is spent advertises the freerun rank under its own tag (R131, R134). -/
theorem sliceTriple_budgetSpent {k : ShelfId} {s : State} (htiming : s.slices[k].timing = .holdover)
    (hreachable : s.slices[k].unreachable = false) (hspent : s.slices[k].exhausted = true) :
    sliceTriple s k = ownTriple s k s.slices[k].cfg.freerunRank := by
  simp only [sliceTriple, htiming, hreachable, hspent]
  rfl

/-- Settles O31: the clock moves to the budget's end, and the spent slice recomputes its triple. -/
theorem holdoverBudgetRunsOut : Obligations.HoldoverBudgetRunsOut := by
  intro k since s htiming hsince hspent hreachable
  have hrun := exhaustBudget_due (exhaustionDue_running htiming hsince hspent)
  have hframe := exhaustBudget_sameBut k s
  refine ⟨exhaustBudget k s, rfl, ?_, ?_, hframe⟩
  · rw [hrun]; rfl
  · have htriple := sliceTriple_budgetSpent (k := k)
      (s := s.expired (since + s.slices[k].cfg.budgetMin * 60 * 125000000) k s.slices[k].budgetSpent)
      (by rw [expired_slice]; exact htiming) (by rw [expired_slice]; exact hreachable) (by rw [expired_slice]; rfl)
    rw [hrun, retriple_slices, htriple, expired_slice, expired_slices]
    exact Vector.set_set ..

/-! ### Grade hand-overs to the slices (R132) -/

/-- The state with a grade hand-over taken, before any triple is recomputed. -/
def State.withGradeHandovers (s : State) (rest : List (ShelfId × Slot)) : State :=
  s.setFlight { s.flight with grades := rest }

theorem withGradeHandovers_sameBut (s : State) (rest : List (ShelfId × Slot)) :
    sameBut [.gradeHandovers] s (s.withGradeHandovers rest) := by
  intro p hp; cases p <;> simp_all [Part.same, State.withGradeHandovers]

theorem takeTargetGrade_taken {k : ShelfId} {s : State} {r : ShelfId × Slot} {rest : List (ShelfId × Slot)}
    (h : takeFirst (fun r => decide (r.1 = k)) s.flight.grades = some (r, rest)) :
    takeTargetGrade k s =
      if s.slices[k].target = some r.2 then retriple k false (s.withGradeHandovers rest)
      else s.withGradeHandovers rest := by
  unfold takeTargetGrade
  rw [h]
  rfl

/-- A LOCKED, reachable slice advertises its target's effective grade, one hop further on (R131, R132). -/
theorem sliceTriple_locked {k : ShelfId} {c : Slot} {s : State} (htiming : s.slices[k].timing = .locked)
    (hreachable : s.slices[k].unreachable = false) (htarget : s.slices[k].target = some c) :
    sliceTriple s k = lockedTriple s k c := by
  simp only [sliceTriple, htiming, hreachable, htarget]
  rfl

/-- Settles O32: a hand-over of the target's grade recomputes the triple, and any other is consumed. -/
theorem targetGradeReachesTriple : Obligations.TargetGradeReachesTriple := by
  intro k n before after s hflight hfirst
  have htake : takeFirst (fun r => decide (r.1 = k)) s.flight.grades = some ((k, n), before ++ after) := by
    rw [hflight]
    exact takeFirst_append _ before after (k, n) (decide_eq_true rfl) fun x hx => decide_eq_false (hfirst x hx)
  have hrun := takeTargetGrade_taken htake
  refine ⟨takeTargetGrade k s, rfl, ?taken, fun hother => ?other, fun htarget => ?target, takeTargetGrade_sameBut k s⟩
  case taken =>
    rw [hrun]
    split
    · exact retriple_sameBut k false _ .gradeHandovers (by decide)
    · rfl
  case other =>
    rw [hrun, if_neg hother]
    exact withGradeHandovers_sameBut s _
  case target =>
    have hslices : (takeTargetGrade k s).slices = s.slices.set k { s.slices[k] with triple := sliceTriple s k } := by
      rw [hrun, if_pos htarget]; rfl
    refine ⟨hslices, fun htiming hreachable => ?_⟩
    rw [hslices, getElem_set_fin, if_pos rfl, sliceTriple_locked htiming hreachable htarget]
    exact ⟨rfl, Hop.succ_val _, rfl⟩

/-! ### Hand-overs to the Notice Unit (R142) -/

/-- The state with the copy of shelf k replaced, before any port is compared. -/
def State.withCopy (s : State) (k : ShelfId) (c : NoticeCopy) (rest : List (ShelfId × NoticeCopy)) : State :=
  { s with copies := s.copies.set k c, flight := { s.flight with notices := rest } }

theorem takeNoticeCopy_taken {k : ShelfId} {s : State} {r : ShelfId × NoticeCopy} {rest : List (ShelfId × NoticeCopy)}
    (h : takeFirst (fun r => decide (r.1 = k)) s.flight.notices = some (r, rest)) :
    takeNoticeCopy k s =
      overPorts (fun p t => if portShelf p = k && t.txPorts[p].inUse then recomputePort p t else t)
        (s.withCopy k r.2 rest) := by
  unfold takeNoticeCopy
  rw [h]
  rfl

/-- Settles O21: the walk compares the shelf's ports in use, and its comparisons leave the use of every port alone. -/
theorem noticeUnitTakesCopy : Obligations.NoticeUnitTakesCopy := by
  intro k c before after s hflight hfirst
  have htake : takeFirst (fun r => decide (r.1 = k)) s.flight.notices = some ((k, c), before ++ after) := by
    rw [hflight]
    exact takeFirst_append _ before after (k, c) (decide_eq_true rfl) fun x hx => decide_eq_false (hfirst x hx)
  obtain ⟨hframe, horder, hothers⟩ := overPorts_recompute
    (fun p t => decide (portShelf p = k) && t.txPorts[p].inUse) (s.withCopy k c (before ++ after)) fun p t ht => by
      rw [(ht.2 p).1]
  rw [← takeNoticeCopy_taken htake] at hframe horder hothers
  refine ⟨takeNoticeCopy k s, rfl, horder, fun p hp => hothers p ?_, hframe .noticeHandovers (by decide),
    hframe .copies (by decide), takeNoticeCopy_sameBut k s⟩
  exact Bool.and_eq_false_iff.2 (hp.imp_left decide_eq_false)

/-! ### PERIODIC notices (R143, R145) -/

/-- The port with its content built and its periodic timer started again (R140, R143). -/
def TxPort.periodicRestarted (held : Option Code) (now : Nat) (v : TxPort) : TxPort :=
  { v with heldCode := held, periodic := some (now + v.intervalS * 125000000) }

/-- A PERIODIC notice that is taken is what was last sent, and is not counted (R143). -/
theorem afterOffer_periodic_taken (c : Content) (v : TxPort) :
    v.afterOffer .periodic c true = { v with lastSent := some c, changePending := false } := rfl

/-- A notice that is refused leaves a change pending when it differs from what was last sent (R145). -/
theorem afterOffer_refused (ty : NoticeType) (c : Content) (v : TxPort) :
    v.afterOffer ty c false = { v with changePending := decide (v.lastSent ≠ some c) } := rfl

/-- The FABRIC port after a notice was offered: the frame joins the queue when it has a free place (R11, R145). -/
theorem offerNotice_fabric (p : PortId) (ty : NoticeType) (c : Content) (s : State) :
    (offerNotice p ty c s).lane.fabric =
      if s.lane.fabric.localQ.length < 32 then
        OutPort.serve s.lane.live
          { s.lane.fabric with localQ := s.lane.fabric.localQ ++ [⟨transmitFrame s p ty c, false⟩] }
      else s.lane.fabric := by
  unfold offerNotice
  rw [offerFabric_eq]
  by_cases hroom : s.lane.fabric.localQ.length < 32
  · simp only [if_pos hroom]; rfl
  · simp only [if_neg hroom]; rfl

theorem expirePeriodic_running {p : PortId} {due : Nat} {s : State} (h : s.txPorts[p].periodic = some due) :
    expirePeriodic p s =
      offerNotice p .periodic (portContent s p)
        ((s.advanceTo due).setTx p (s.txPorts[p].periodicRestarted (portHeld s p) (max s.osc due))) := by
  have htimer := startMs_s (max s.osc due) s.txPorts[p].intervalS
  unfold expirePeriodic
  rw [h]
  dsimp only [State.advanceTo]
  rw [htimer]
  rfl

/-- The frame of a notice reads the strap address and the port's own address only (R184). -/
theorem transmitFrame_congr {s t : State} {p : PortId} (ty : NoticeType) (c : Content)
    (haddress : t.txPorts[p].address = s.txPorts[p].address) (hstrap : t.lane.strap = s.lane.strap) :
    transmitFrame t p ty c = transmitFrame s p ty c := by
  unfold transmitFrame
  rw [haddress, hstrap]

/-- The ports after a periodic timer expired. -/
theorem expirePeriodic_at {p : PortId} {due : Nat} {s : State} (h : s.txPorts[p].periodic = some due) (q : PortId) :
    (expirePeriodic p s).txPorts[q] =
      if p = q then
        (s.txPorts[p].periodicRestarted (portHeld s p) (max s.osc due)).afterOffer .periodic (portContent s p)
          (decide (s.lane.fabric.localQ.length < 32))
      else s.txPorts[q] := by
  rw [expirePeriodic_running h, offerNotice_at, State.setTx_txPorts_at, State.setTx_txPorts_at, if_pos rfl]
  split <;> rfl

/-- The FABRIC port after a periodic timer expired. -/
theorem expirePeriodic_fabric {p : PortId} {due : Nat} {s : State} (h : s.txPorts[p].periodic = some due) :
    (expirePeriodic p s).lane.fabric =
      if s.lane.fabric.localQ.length < 32 then
        OutPort.serve s.lane.live
          { s.lane.fabric with
            localQ := s.lane.fabric.localQ ++ [⟨transmitFrame s p .periodic (portContent s p), false⟩] }
      else s.lane.fabric := by
  have hframe := transmitFrame_congr (s := s) (p := p)
    (t := (s.advanceTo due).setTx p (s.txPorts[p].periodicRestarted (portHeld s p) (max s.osc due)))
    .periodic (portContent s p) (by rw [State.setTx_txPorts_at, if_pos rfl]; rfl) rfl
  rw [expirePeriodic_running h, offerNotice_fabric, hframe]
  rfl

/-! ### Budget windows (R144) -/

/-- A comparison counts at most one notice (R141). -/
theorem recomputePort_count (p : PortId) (s : State) :
    (recomputePort p s).txPorts[p].count ≤ s.txPorts[p].count + 1 := by
  rw [recomputePort_at, if_pos rfl]
  split
  · exact Nat.le_succ _
  · split
    · exact (TxPort.afterOffer_keeps .event _ _ _).2.2.2
    · exact Nat.le_succ _

/-- What a window start leaves of a port record v: a port out of use stays, the count of one without a change pending is
0, and one that compared has sent at most one notice (R144). -/
def WindowEntered (v w : TxPort) : Prop :=
  (v.inUse = false → w = v) ∧
    (v.inUse = true → (v.changePending = false → w = { v with count := 0 }) ∧ (v.changePending = true → w.count ≤ 1))

theorem startWindow_settled {p : PortId} {s : State} (h : s.txPorts[p].changePending = false) :
    startWindow p s = s.setTx p { s.txPorts[p] with count := 0 } := if_neg (by rw [h]; exact Bool.false_ne_true)

theorem startWindow_pending {p : PortId} {s : State} (h : s.txPorts[p].changePending = true) :
    startWindow p s = recomputePort p (s.setTx p { s.txPorts[p] with count := 0 }) := if_pos h

theorem startWindow_other {p q : PortId} (h : p ≠ q) (s : State) : (startWindow p s).txPorts[q] = s.txPorts[q] := by
  have hset : (s.setTx p { s.txPorts[p] with count := 0 }).txPorts[q] = s.txPorts[q] := by
    rw [State.setTx_txPorts_at, if_neg h]
  cases hpending : s.txPorts[p].changePending with
  | false => rw [startWindow_settled hpending]; exact hset
  | true => rw [startWindow_pending hpending, recomputePort_at, if_neg h]; exact hset

theorem startWindow_entered (p : PortId) (s : State) (hu : s.txPorts[p].inUse = true) :
    WindowEntered s.txPorts[p] (startWindow p s).txPorts[p] := by
  have hset : (s.setTx p { s.txPorts[p] with count := 0 }).txPorts[p] = { s.txPorts[p] with count := 0 } := by
    rw [State.setTx_txPorts_at, if_pos rfl]
  refine ⟨fun h => absurd (h.symm.trans hu) Bool.false_ne_true, fun _ => ⟨fun hsettled => ?_, fun hpending => ?_⟩⟩
  · rw [startWindow_settled hsettled]
    exact hset
  · have hcount := recomputePort_count p (s.setTx p { s.txPorts[p] with count := 0 })
    rw [hset] at hcount
    rw [startWindow_pending hpending]
    exact hcount

theorem portsKept.setTx {s t : State} (p : PortId) (v : TxPort) (h : portsKept s t) (huse : v.inUse = t.txPorts[p].inUse)
    (hmap : v.tmap = t.txPorts[p].tmap) : portsKept s (t.setTx p v) := by
  refine ⟨h.1.trans (setTx_sameBut t p v).mono, fun q => ?_⟩
  rw [State.setTx_txPorts_at]
  split <;> rename_i hq
  · subst hq
    exact ⟨huse.trans (h.2 p).1, hmap.trans (h.2 p).2⟩
  · exact h.2 q

theorem portsKept.startWindow {s t : State} (p : PortId) (h : portsKept s t) : portsKept s (startWindow p t) := by
  have hset := h.setTx p { t.txPorts[p] with count := 0 } rfl rfl
  exact iteInduction (motive := portsKept s) (fun _ => hset.recompute p) fun _ => hset

/-- The state at the start of a budget window, before any port is served. -/
def State.windowOpened (s : State) : State :=
  { s with osc := max s.osc (s.windowStart + 125000000), windowStart := max s.osc (s.windowStart + 125000000) }

theorem startBudgetWindow_walk (s : State) :
    startBudgetWindow s = overPorts (fun p t => if t.txPorts[p].inUse then startWindow p t else t) s.windowOpened := rfl

/-- The window starts at every port in use, in increasing table index (R144). -/
theorem startBudgetWindow_inOrder (s : State) :
    inOrder windowStarted ((List.finRange 256).filter fun p => s.txPorts[p].inUse) s.windowOpened
        (startBudgetWindow s) ∧ portsKept s.windowOpened (startBudgetWindow s) := by
  rw [startBudgetWindow_walk]
  exact foldl_inOrder startWindow (fun p t => t.txPorts[p].inUse) windowStarted (portsKept s.windowOpened) s.windowOpened
    (fun p _ ht _ => ht.startWindow p) (fun p _ ht => (ht.2 p).1) (fun p t _ => startWindow_started p t)
    (List.finRange 256) s.windowOpened ⟨sameBut.refl _ _, fun _ => ⟨rfl, rfl⟩⟩

/-- What the start of a budget window leaves of every port: each is served once, from the record that it had. -/
theorem startBudgetWindow_entered (s : State) (p : PortId) :
    WindowEntered s.txPorts[p] (startBudgetWindow s).txPorts[p] := by
  rw [startBudgetWindow_walk]
  refine overPorts_at (fun p t => if t.txPorts[p].inUse then startWindow p t else t) (fun p t => t.txPorts[p])
    (fun _ => True) (fun p t => WindowEntered s.txPorts[p] t.txPorts[p]) s.windowOpened (fun _ _ _ => trivial) ?_ ?_ ?_
    trivial p
  · intro i j t _ hij
    split
    · exact startWindow_other hij t
    · rfl
  · intro i t _ hsame
    have hrecord : t.txPorts[i] = s.txPorts[i] := hsame
    split <;> rename_i huse
    · exact hrecord ▸ startWindow_entered i t huse
    · exact ⟨fun _ => hrecord, fun h => absurd (hrecord ▸ h) huse⟩
  · intro i j t _ hij hentered
    split
    · rw [startWindow_other hij]; exact hentered
    · exact hentered

/-- Settles O22: the periodic expiry is one offer; the window start is a walk over the ports in use. -/
theorem noticeTimersSend : Obligations.NoticeTimersSend := by
  refine ⟨fun p due s hdue => ⟨expirePeriodic p s, rfl, ?periodic⟩, fun s => ⟨startBudgetWindow s, rfl, ?window⟩⟩
  case periodic =>
    have hport := expirePeriodic_at hdue
    have hfabric := expirePeriodic_fabric hdue
    have hframe := expirePeriodic_sameBut p s
    have hosc : (expirePeriodic p s).osc = max s.osc due := by
      rw [expirePeriodic_running hdue]
      exact offerNotice_sameBut _ _ _ _ .osc (by decide)
    have hothers : ∀ q : PortId, q ≠ p → (expirePeriodic p s).txPorts[q] = s.txPorts[q] := fun q hq =>
      (hport q).trans (if_neg hq.symm)
    have hself := (hport p).trans (if_pos rfl)
    by_cases hroom : s.lane.fabric.localQ.length < 32
    · rw [decide_eq_true hroom, afterOffer_periodic_taken] at hself
      rw [if_pos hroom] at hfabric
      rw [hself, if_pos hroom]
      exact ⟨hosc, rfl, rfl, rfl, ⟨hfabric, rfl, rfl⟩, hothers, hframe⟩
    · rw [decide_eq_false hroom, afterOffer_refused] at hself
      rw [if_neg hroom] at hfabric
      rw [hself, if_neg hroom]
      exact ⟨hosc, rfl, rfl, rfl, ⟨hfabric, rfl, rfl⟩, hothers, hframe⟩
  case window =>
    obtain ⟨horder, hkept, -⟩ := startBudgetWindow_inOrder s
    have hosc : (startBudgetWindow s).osc = max s.osc (s.windowStart + 125000000) := hkept .osc (by decide)
    have hstart : (startBudgetWindow s).windowStart = max s.osc (s.windowStart + 125000000) :=
      hkept .windowStart (by decide)
    exact ⟨hosc, hstart.trans hosc.symm, fun p => (startBudgetWindow_entered s p).1,
      fun p => (startBudgetWindow_entered s p).2, horder, startBudgetWindow_sameBut s⟩

end Sys2Proof.Machine
end

section
/-! PROOFS. The Event Unit (Chapter 8): every latch legal and every condition copy up to date (O60). An event moves one
latch by the rules of R155 to R158, and a block tells each change of a condition in the event that makes it (R153). -/

namespace Sys2Proof.Machine

-- One theorem after the other: the joined text would otherwise ask for a thread per waiting proof.
set_option Elab.async false

/-! ### Conditions and their latches (R153) -/

theorem latchCond_eq_some_iff (l : LatchId) (c : CondId) : latchCond l = some c ↔ condLatch c = l := by
  rw [Fin.ext_iff, condLatch_val]
  unfold latchCond
  split
  · rw [Option.some.injEq, Fin.ext_iff]
    split <;> dsimp only <;> omega
  · split
    · rw [Option.some.injEq, Fin.ext_iff]
      split <;> dsimp only <;> omega
    · refine iff_of_false nofun ?_
      split <;> omega

/-- The condition of a latch is present exactly when the copy of a condition with that latch says so. -/
theorem EventUnit.present_iff (e : EventUnit) (l : LatchId) :
    e.present l = true ↔ ∃ c : CondId, condLatch c = l ∧ e.copies[c] = true := by
  simp only [← latchCond_eq_some_iff]
  unfold EventUnit.present
  cases latchCond l <;> simp

theorem EventUnit.present_congr {e x : EventUnit} (h : x.copies = e.copies) : x.present = e.present := by
  funext l
  unfold EventUnit.present
  rw [h]

/-- What holds of the four kinds of condition holds of every condition. -/
theorem forall_condition {P : CondId → Prop} (hnotice : ∀ n, P (condNoticeLost n)) (hfreq : ∀ n, P (condFreqFail n))
    (hsilent : ∀ k, P (condModuleSilent k)) (hgroup : ∀ k, P (condGroup k)) (c : CondId) : P c := by
  have hval : ∀ (m : Nat) (h : m < 80), m = c.val → (⟨m, h⟩ : CondId) = c := fun _ _ h => Fin.ext h
  by_cases h24 : c.val < 24
  · exact hnotice ⟨c.val, h24⟩
  by_cases h48 : c.val < 48
  · exact hval (24 + (c.val - 24)) (by omega) (by omega) ▸ hfreq ⟨c.val - 24, by omega⟩
  by_cases h64 : c.val < 64
  · exact hval (48 + (c.val - 48)) (by omega) (by omega) ▸ hsilent ⟨c.val - 48, by omega⟩
  · exact hval (64 + (c.val - 64)) (by omega) (by omega) ▸ hgroup ⟨c.val - 64, by omega⟩

theorem conditionNow_noticeLost (s : State) (n : Slot) :
    conditionNow s (condNoticeLost n) = s.grades[n].noticeLost := dif_pos n.isLt

theorem conditionNow_freqFail (s : State) (n : Slot) : conditionNow s (condFreqFail n) = s.inputs[n].freqFail := by
  have hval : (condFreqFail n).val = 24 + n.val := rfl
  have hindex : (⟨(condFreqFail n).val - 24, by omega⟩ : Slot) = n := Fin.ext (by dsimp only; omega)
  unfold conditionNow
  rw [dif_neg (by omega), dif_pos (by omega)]
  exact congrArg (fun m : Slot => s.inputs[m].freqFail) hindex

theorem conditionNow_moduleSilent (s : State) (k : ShelfId) :
    conditionNow s (condModuleSilent k) = s.slices[k].unreachable := by
  have hval : (condModuleSilent k).val = 48 + k.val := rfl
  have hindex : (⟨(condModuleSilent k).val - 48, by omega⟩ : ShelfId) = k := Fin.ext (by dsimp only; omega)
  unfold conditionNow
  rw [dif_neg (by omega), dif_neg (by omega), dif_pos (by omega)]
  exact congrArg (fun j : ShelfId => s.slices[j].unreachable) hindex

theorem conditionNow_group (s : State) (k : ShelfId) : conditionNow s (condGroup k) = groupPresent s k := by
  have hval : (condGroup k).val = 64 + k.val := rfl
  have hindex : (⟨(condGroup k).val - 64, by omega⟩ : ShelfId) = k := Fin.ext (by dsimp only; omega)
  unfold conditionNow
  rw [dif_neg (by omega), dif_neg (by omega), dif_neg (by omega), hindex]

theorem condGroup_inj {k j : ShelfId} (h : condGroup k = condGroup j) : k = j :=
  Fin.ext (Nat.add_left_cancel (Fin.val_eq_of_eq h))

/-! ### Legal latches (R155 to R158) -/

/-- The value v is legal for latch l: CLEAR when the kind is disabled, ACKED_WAITING only on a level latch whose
condition is present (R155 to R157). -/
def EventUnit.LegalAt (e : EventUnit) (l : LatchId) (v : Latch) : Prop :=
  (e.enabled l = false → v = .clear) ∧ (v = .ackedWaiting → e.isLevel l = true ∧ e.present l = true)

/-- Only condition kinds are LEVEL, and every latch is legal. -/
def EventUnit.Legal (e : EventUnit) : Prop :=
  e.levels &&& ~~~conditionKinds = 0 ∧ ∀ l : LatchId, e.LegalAt l e.latches[l]

theorem latchesOk_iff (s : State) : LatchesOk s ↔ s.events.Legal := Iff.rfl

namespace EventUnit

theorem LegalAt.clear (e : EventUnit) (l : LatchId) : e.LegalAt l .clear := ⟨fun _ => rfl, nofun⟩

theorem LegalAt.set {e : EventUnit} {l : LatchId} (h : e.enabled l = true) : e.LegalAt l .set :=
  ⟨fun hno => (Bool.false_ne_true (hno.symm.trans h)).elim, nofun⟩

/-- A latch that is not CLEAR is of an enabled kind (R155). -/
theorem LegalAt.enabled {e : EventUnit} {l : LatchId} {v : Latch} (h : e.LegalAt l v) (hv : v ≠ .clear) :
    e.enabled l = true := by
  obtain ⟨hdisabled, -⟩ := h
  exact Bool.eq_true_of_not_eq_false fun hno => hv (hdisabled hno)

/-- Legality reads the enables, the modes and the copies only. -/
theorem LegalAt.congr {e x : EventUnit} {l : LatchId} {v : Latch} (h : e.LegalAt l v) (henables : x.enables = e.enables)
    (hlevels : x.levels = e.levels) (hpresent : v = .ackedWaiting → e.present l = true → x.present l = true) :
    x.LegalAt l v := by
  obtain ⟨hdisabled, hwaiting⟩ := h
  unfold LegalAt
  rw [enabled_congr henables, isLevel_congr hlevels]
  refine ⟨hdisabled, fun hv => ?_⟩
  obtain ⟨hlevel, hnow⟩ := hwaiting hv
  exact ⟨hlevel, hpresent hv hnow⟩

/-- The settings kept, with every latch legal under the new copies. -/
theorem Legal.of_latches {e x : EventUnit} (he : e.Legal) (hlevels : x.levels = e.levels)
    (h : ∀ l : LatchId, x.LegalAt l x.latches[l]) : x.Legal := by
  obtain ⟨hkinds, -⟩ := he
  exact ⟨hlevels ▸ hkinds, h⟩

theorem Legal.congr {e x : EventUnit} (he : e.Legal) (hlatches : x.latches = e.latches) (hcopies : x.copies = e.copies)
    (henables : x.enables = e.enables) (hlevels : x.levels = e.levels) : x.Legal := by
  refine he.of_latches hlevels fun l => ?_
  obtain ⟨-, hlegal⟩ := he
  rw [hlatches]
  exact (hlegal l).congr henables hlevels fun _ h => by rw [present_congr hcopies]; exact h

/-- An occurrence sets a CLEAR latch of an enabled kind only (R156, R157). -/
theorem Legal.occur {e : EventUnit} (he : e.Legal) (l : LatchId) : (e.occur l).Legal := by
  obtain ⟨hcopies, henables, hlevels, -⟩ := occur_keeps l e
  refine he.of_latches hlevels fun m => ?_
  obtain ⟨-, hlegal⟩ := he
  have hm : e.LegalAt m (e.occur l).latches[m] := by
    rw [occur_latches]
    split <;> rename_i hset
    · obtain ⟨rfl, henabled, -⟩ := hset
      exact .set henabled
    · exact hlegal m
  exact hm.congr henables hlevels fun _ h => by rw [present_congr hcopies]; exact h

/-- A condition that becomes present takes no latch's condition away. -/
theorem Legal.appears {e : EventUnit} (he : e.Legal) (c : CondId) :
    ({ e with copies := e.copies.set c true } : EventUnit).Legal := by
  refine he.of_latches rfl fun l => ?_
  obtain ⟨-, hlegal⟩ := he
  refine (hlegal l).congr rfl rfl fun _ hnow => ?_
  obtain ⟨d, hd, hcopy⟩ := (present_iff _ _).1 hnow
  refine (present_iff _ _).2 ⟨d, hd, ?_⟩
  dsimp only
  rw [getElem_set_fin]
  split
  · rfl
  · exact hcopy

/-- The latches after a condition goes absent: its level latch leaves ACKED_WAITING (R157). -/
theorem condition_absent_latches (c : CondId) (e : EventUnit) (l : LatchId) :
    (e.condition c false).latches[l] =
      if l = condLatch c ∧ e.enabled l = true ∧ e.isLevel l = true ∧ e.latches[l] = .ackedWaiting then .clear
      else e.latches[l] := by
  have hrun : e.condition c false =
      if (e.enabled (condLatch c) && e.isLevel (condLatch c) &&
          decide (e.latches[condLatch c] = .ackedWaiting)) = true then
        { e with copies := e.copies.set c false, latches := e.latches.set (condLatch c) .clear }
      else { e with copies := e.copies.set c false } := rfl
  rw [hrun]
  split <;> rename_i hleaves
  · simp only [Bool.and_eq_true, decide_eq_true_eq, and_assoc] at hleaves
    rw [getElem_set_fin]
    by_cases hl : condLatch c = l
    · rw [if_pos hl, if_pos ⟨hl.symm, hl ▸ hleaves⟩]
    · rw [if_neg hl, if_neg fun h => hl h.1.symm]
  · simp only [Bool.and_eq_true, decide_eq_true_eq, and_assoc] at hleaves
    refine (if_neg ?_).symm
    rintro ⟨rfl, h⟩
    exact hleaves h

/-- A condition that goes absent leaves no latch waiting for it (R157). -/
theorem Legal.disappears {e : EventUnit} (he : e.Legal) (c : CondId) : (e.condition c false).Legal := by
  obtain ⟨hcopies, henables, hlevels, -⟩ := condition_keeps c false e
  refine he.of_latches hlevels fun l => ?_
  obtain ⟨-, hlegal⟩ := he
  rw [condition_absent_latches]
  split <;> rename_i hleaves
  · exact .clear _ l
  · refine (hlegal l).congr henables hlevels fun hwaits hnow => ?_
    obtain ⟨d, hd, hcopy⟩ := (present_iff _ _).1 hnow
    refine (present_iff _ _).2 ⟨d, hd, ?_⟩
    have hdc : c ≠ d := fun h => hleaves
      ⟨h ▸ hd.symm, (hlegal l).enabled (by rw [hwaits]; nofun), ((hlegal l).2 hwaits).1, hwaits⟩
    rw [hcopies, getElem_set_fin, if_neg hdc]
    exact hcopy

theorem Legal.condition {e : EventUnit} (he : e.Legal) (c : CondId) (b : Bool) : (e.condition c b).Legal := by
  cases b with
  | false => exact he.disappears c
  | true => exact (he.appears c).occur (condLatch c)

/-- An acknowledged latch waits only for a present condition of a level latch (R156 to R158). -/
theorem Legal.ack {e : EventUnit} (he : e.Legal) (l : LatchId) : (e.ack l).Legal := by
  have hkeeps := ack_keeps l e
  refine he.of_latches (by rw [hkeeps]) fun m => ?_
  obtain ⟨-, hlegal⟩ := he
  have hm : e.LegalAt m (e.ack l).latches[m] := by
    rw [ack_latches]
    split <;> rename_i hacked
    · obtain ⟨rfl, hset⟩ := hacked
      split <;> rename_i hwaits
      · have henabled : e.enabled m = true := (hlegal m).enabled (by rw [hset]; nofun)
        exact ⟨fun hno => (Bool.false_ne_true (hno.symm.trans henabled)).elim, fun _ => Bool.and_eq_true_iff.1 hwaits⟩
      · exact .clear e m
    · exact hlegal m
  exact hm.congr (by rw [hkeeps]) (by rw [hkeeps]) fun _ h => by rw [present_congr (by rw [hkeeps])]; exact h

theorem Legal.regroup {e : EventUnit} (he : e.Legal) (s : State) (k : ShelfId) : (e.regroup s k).Legal := by
  unfold EventUnit.regroup
  split
  · exact he
  · exact he.condition _ _

/-- A write clears the latches of disabled kinds, and leaves a latch waiting only in the mode in which it waited
(R155). -/
theorem Legal.write {e : EventUnit} (he : e.Legal) (now : Nat) (w : NodeWrite)
    (hkinds : w.levels &&& ~~~conditionKinds = 0) : (e.write now w).Legal := by
  obtain ⟨-, hlevels, -, -, -, hcopies, hdisabled⟩ := write_fields now w e
  obtain ⟨henabled, -⟩ := write_moves now w e _ rfl
  obtain ⟨-, hlegal⟩ := he
  refine ⟨hlevels ▸ hkinds, fun l => ⟨hdisabled l, fun hwaits => ?_⟩⟩
  have hon : (e.write now w).enabled l = true := Bool.eq_true_of_not_eq_false fun hno => by
    rw [hdisabled l hno] at hwaits
    cases hwaits
  rw [henabled l hon] at hwaits
  split at hwaits <;> rename_i hsame
  · obtain ⟨hlevel, hnow⟩ := (hlegal l).2 hwaits
    rw [present_congr hcopies]
    exact ⟨hsame.2.symm.trans hlevel, hnow⟩
  · split at hwaits <;> cases hwaits

end EventUnit

end Sys2Proof.Machine
end

section
/-! PROOFS. Every event follows the conditions (O60): it keeps the latches legal, and tells the Event Unit each
condition that it moves. -/

namespace Sys2Proof.Machine

-- One theorem after the other: the joined text would otherwise ask for a thread per waiting proof.
set_option Elab.async false

/-! ### States between which the conditions are followed (R153, R154) -/

/-- From s to t the copy of condition c is brought up to date, or neither the copy nor the condition moves. -/
def CopyFollows (c : CondId) (s t : State) : Prop :=
  t.events.copies[c] = conditionNow t c ∨
    t.events.copies[c] = s.events.copies[c] ∧ conditionNow t c = conditionNow s c

theorem CopyFollows.trans {c : CondId} {s t u : State} (h : CopyFollows c s t) (g : CopyFollows c t u) :
    CopyFollows c s u := by
  rcases g with hnew | ⟨hcopy, hnow⟩
  · exact .inl hnew
  · rcases h with hold | ⟨hcopy', hnow'⟩
    · exact .inl (hcopy.trans (hold.trans hnow.symm))
    · exact .inr ⟨hcopy.trans hcopy', hnow.trans hnow'⟩

/-- From s to t the latches stay legal, and the copies follow the conditions. -/
structure EventsFollow (s t : State) : Prop where
  latches : LatchesOk s → LatchesOk t
  copies : ∀ c : CondId, CopyFollows c s t

/-- The same with the copy of condition c left out: its change is still to be told. -/
structure FollowsBut (c : CondId) (s t : State) : Prop where
  latches : LatchesOk s → LatchesOk t
  copies : ∀ d : CondId, d ≠ c → CopyFollows d s t

/-- The conditions that p picks read four tables: the grade records, the inputs, the slices, and the lists with the
candidates. -/
theorem conditionNow_congr_of {p : CondId → Prop} {s t : State}
    (hgrades : ∀ n : Slot, p (condNoticeLost n) → t.grades[n].noticeLost = s.grades[n].noticeLost)
    (hinputs : ∀ n : Slot, p (condFreqFail n) → t.inputs[n].freqFail = s.inputs[n].freqFail)
    (hslices : ∀ k : ShelfId, p (condModuleSilent k) → t.slices[k].unreachable = s.slices[k].unreachable)
    (hgroups : ∀ k : ShelfId, p (condGroup k) → groupPresent t k = groupPresent s k) :
    ∀ c, p c → conditionNow t c = conditionNow s c := by
  refine forall_condition (fun n hp => ?_) (fun n hp => ?_) (fun k hp => ?_) fun k hp => ?_
  · rw [conditionNow_noticeLost, conditionNow_noticeLost]; exact hgrades n hp
  · rw [conditionNow_freqFail, conditionNow_freqFail]; exact hinputs n hp
  · rw [conditionNow_moduleSilent, conditionNow_moduleSilent]; exact hslices k hp
  · rw [conditionNow_group, conditionNow_group]; exact hgroups k hp

theorem conditionNow_congr {s t : State} (hgrades : ∀ n : Slot, t.grades[n].noticeLost = s.grades[n].noticeLost)
    (hinputs : ∀ n : Slot, t.inputs[n].freqFail = s.inputs[n].freqFail)
    (hslices : ∀ k : ShelfId, t.slices[k].unreachable = s.slices[k].unreachable)
    (hgroups : ∀ k : ShelfId, groupPresent t k = groupPresent s k) (c : CondId) : conditionNow t c = conditionNow s c :=
  conditionNow_congr_of (p := fun _ => True) (fun n _ => hgrades n) (fun n _ => hinputs n) (fun k _ => hslices k)
    (fun k _ => hgroups k) c trivial

/-- The parts that hold the conditions. -/
def conditionParts : List Part := [.cands, .inputs, .grades, .shelves, .slices]

/-- A frame that names no part that holds conditions moves none. -/
theorem sameBut.conditionNow_eq {ps : List Part} {s t : State} (h : sameBut ps s t) (c : CondId)
    (hd : ∀ p ∈ conditionParts, p ∉ ps := by decide) : conditionNow t c = conditionNow s c := by
  have hcands : t.cands = s.cands := h .cands (hd _ (by decide))
  have hinputs : t.inputs = s.inputs := h .inputs (hd _ (by decide))
  have hgrades : t.grades = s.grades := h .grades (hd _ (by decide))
  have hshelves : t.shelves = s.shelves := h .shelves (hd _ (by decide))
  have hslices : t.slices = s.slices := h .slices (hd _ (by decide))
  exact conditionNow_congr (fun n => by rw [hgrades]) (fun n => by rw [hinputs]) (fun k => by rw [hslices])
    (fun k => groupPresent_congr k (by rw [hshelves]) hcands) c

/-- GROUP reads of the candidates their states only (R154). -/
theorem groupPresent_of_states {s t : State} (k : ShelfId) (hs : t.shelves[k].entries = s.shelves[k].entries)
    (hc : ∀ e : EntryId, t.cands[s.shelves[k].entries[e].slot].state = s.cands[s.shelves[k].entries[e].slot].state) :
    groupPresent t k = groupPresent s k := by
  unfold groupPresent
  simp only [hs, hc]

namespace EventsFollow

theorem refl (s : State) : EventsFollow s s := ⟨id, fun _ => .inr ⟨rfl, rfl⟩⟩

theorem trans {s t u : State} (h : EventsFollow s t) (g : EventsFollow t u) : EventsFollow s u :=
  ⟨g.latches ∘ h.latches, fun c => (h.copies c).trans (g.copies c)⟩

theorem ite {c : Prop} [Decidable c] {s t u : State} (h : EventsFollow s t) (g : EventsFollow s u) :
    EventsFollow s (if c then t else u) := by split <;> assumption

theorem foldl {α : Type} (f : α → State → State) (h : ∀ a t, EventsFollow t (f a t)) (l : List α) (s : State) :
    EventsFollow s (l.foldl (fun t a => f a t) s) :=
  foldl_keeps f (EventsFollow s) (fun a t ht => ht.trans (h a t)) l s (refl s)

theorem overSlots (f : Slot → State → State) (h : ∀ n t, EventsFollow t (f n t)) (s : State) :
    EventsFollow s (overSlots f s) := foldl f h _ s

theorem overShelves (f : ShelfId → State → State) (h : ∀ k t, EventsFollow t (f k t)) (s : State) :
    EventsFollow s (overShelves f s) := foldl f h _ s

theorem overPorts (f : PortId → State → State) (h : ∀ p t, EventsFollow t (f p t)) (s : State) :
    EventsFollow s (overPorts f s) := foldl f h _ s

theorem overMask (m : BitVec 16) (f : ShelfId → State → State) (h : ∀ k t, EventsFollow t (f k t)) (s : State) :
    EventsFollow s (overMask m f s) := overShelves _ (fun k t => (h k t).ite (refl t)) s

/-- An event that leaves the Event Unit alone and moves no condition. -/
theorem of_still {s t : State} (he : t.events = s.events) (hnow : ∀ c, conditionNow t c = conditionNow s c) :
    EventsFollow s t := by
  refine ⟨fun hs => ?_, fun c => .inr ⟨by rw [he], hnow c⟩⟩
  rw [latchesOk_iff, he]
  exact hs

/-- A frame that names neither the Event Unit's latches, copies and settings nor a part that holds conditions. -/
theorem of_sameBut {ps : List Part} {s t : State} (h : sameBut ps s t)
    (hd : ∀ p ∈ [.latches, .conditions, .eventSettings] ++ conditionParts, p ∉ ps := by decide) : EventsFollow s t := by
  have hlatches : t.events.latches = s.events.latches := h .latches (hd _ (by decide))
  have hcopies : t.events.copies = s.events.copies := h .conditions (hd _ (by decide))
  obtain ⟨henables, hlevels, -⟩ := h .eventSettings (hd _ (by decide))
  exact ⟨fun hs => ((latchesOk_iff s).1 hs).congr hlatches hcopies henables hlevels,
    fun c => .inr ⟨by rw [hcopies], h.conditionNow_eq c fun p hp => hd p (List.mem_append_right _ hp)⟩⟩

/-- What holds at the start holds at the end: every copy is up to date (R153). -/
theorem conditionsCurrent {s t : State} (h : EventsFollow s t) (hs : ConditionsCurrent s) :
    ConditionsCurrent t := fun c => by
  rcases h.copies c with hnew | ⟨hcopy, hnow⟩
  · exact hnew
  · rw [hcopy, hnow]
    exact hs c

end EventsFollow

namespace FollowsBut

/-- An event that leaves the Event Unit alone and moves no condition but c. -/
theorem of_still {c : CondId} {s t : State} (he : t.events = s.events)
    (hgrades : ∀ n : Slot, condNoticeLost n ≠ c → t.grades[n].noticeLost = s.grades[n].noticeLost)
    (hinputs : ∀ n : Slot, condFreqFail n ≠ c → t.inputs[n].freqFail = s.inputs[n].freqFail)
    (hslices : ∀ k : ShelfId, condModuleSilent k ≠ c → t.slices[k].unreachable = s.slices[k].unreachable)
    (hgroups : ∀ k : ShelfId, condGroup k ≠ c → groupPresent t k = groupPresent s k) : FollowsBut c s t := by
  refine ⟨fun hs => ?_, fun d hd => .inr ⟨by rw [he],
    conditionNow_congr_of (p := fun d => d ≠ c) hgrades hinputs hslices hgroups d hd⟩⟩
  rw [latchesOk_iff, he]
  exact hs

theorem andThen {c : CondId} {s t u : State} (h : FollowsBut c s t) (g : EventsFollow t u) : FollowsBut c s u :=
  ⟨g.latches ∘ h.latches, fun d hd => (h.copies d hd).trans (g.copies d)⟩

/-- The change is told. -/
theorem told {c : CondId} {s t : State} (h : FollowsBut c s t) (hc : CopyFollows c s t) : EventsFollow s t :=
  ⟨h.latches, fun d => by
    by_cases hd : d = c
    · exact hd ▸ hc
    · exact h.copies d hd⟩

end FollowsBut

/-! ### Events at the Event Unit (R152 to R154) -/

/-- An event whose action keeps the latches legal keeps them so. -/
theorem eventStep_latchesOk (f : EventUnit → EventUnit) (hf : ∀ e : EventUnit, e.Legal → (f e).Legal) {s : State}
    (hs : LatchesOk s) : LatchesOk (eventStep f s) := by
  have hdecided : ∀ u : State, u.events.Legal → (sendDecision u).events.Legal := fun u hu => by
    have hframe := sendDecision_sameBut u
    obtain ⟨henables, hlevels, -⟩ := hframe .eventSettings (by decide)
    exact hu.congr (hframe .latches (by decide)) (hframe .conditions (by decide)) henables hlevels
  have hnews : ∀ (e : EventUnit) (b : Bool), e.Legal → ({ e with news := b } : EventUnit).Legal := fun e b he =>
    he.congr rfl rfl rfl rfl
  have hacted : (f { s.events with news := false }).Legal := hf _ (hnews _ _ hs)
  rw [latchesOk_iff]
  unfold eventStep
  dsimp only
  split
  · exact hdecided _ (hnews _ _ hacted)
  · exact hnews _ _ hacted

theorem raiseCondition_latchesOk (c : CondId) (b a : Bool) {s : State} (hs : LatchesOk s) :
    LatchesOk (raiseCondition c b a s) := by
  unfold raiseCondition
  split
  · exact hs
  · exact eventStep_latchesOk _ (fun _ he => he.condition c a) hs

/-- An edge occurrence tells no condition and moves none. -/
theorem EventsFollow.raiseEdge (l : LatchId) (s : State) : EventsFollow s (raiseEdge l s) := by
  have hframe := raiseEdge_sameBut l s
  exact ⟨eventStep_latchesOk _ fun _ he => he.occur l,
    fun c => .inr ⟨by rw [hframe .conditions (by decide)], hframe.conditionNow_eq c⟩⟩

/-- A condition occurrence keeps up with the conditions other than its own. -/
theorem raiseCondition_followsBut (c : CondId) (b a : Bool) (s : State) : FollowsBut c s (raiseCondition c b a s) := by
  refine ⟨raiseCondition_latchesOk c b a, fun d hd => .inr ⟨?_, (raiseCondition_sameBut c b a s).conditionNow_eq d⟩⟩
  rw [raiseCondition_copies]
  split
  · rfl
  · rw [getElem_set_fin, if_neg (Ne.symm hd)]

/-- The block tells the change of its condition, from before the event to after it (R153). -/
theorem FollowsBut.raised {c : CondId} {s u : State} (h : FollowsBut c s u) (hcopy : u.events.copies = s.events.copies)
    {b a : Bool} (hb : conditionNow s c = b) (ha : conditionNow u c = a) : EventsFollow s (raiseCondition c b a u) := by
  have hraised := raiseCondition_followsBut c b a u
  refine told ⟨hraised.latches ∘ h.latches, fun d hd => (h.copies d hd).trans (hraised.copies d hd)⟩ ?_
  unfold CopyFollows
  rw [(raiseCondition_sameBut c b a u).conditionNow_eq c, raiseCondition_copies, ha, hb, hcopy]
  split <;> rename_i hsame
  · exact .inr ⟨rfl, hsame.symm⟩
  · rw [getElem_set_fin, if_pos rfl]
    exact .inl rfl

/-- The engine hands the changed list of shelf k on (R78, R98, R154). -/
theorem FollowsBut.listTold {k : ShelfId} {s u : State} (h : FollowsBut (condGroup k) s u) :
    EventsFollow s (raiseListChange k u) := by
  have hframe := raiseListChange_sameBut k u
  refine told (c := condGroup k)
    ⟨fun hs => eventStep_latchesOk _ (fun _ he => he.regroup u k) (h.latches hs), fun d hd => ?_⟩ ?_
  · refine (h.copies d hd).trans (.inr ⟨?_, hframe.conditionNow_eq d⟩)
    unfold raiseListChange
    rw [eventStep_copies]
    exact EventUnit.regroup_copy u k _ d hd
  · left
    rw [raiseListChange_group, hframe.conditionNow_eq, conditionNow_group]

end Sys2Proof.Machine
end

section
/-! PROOFS. The operations of the blocks follow the conditions (O60). -/

namespace Sys2Proof.Machine

-- One theorem after the other: the joined text would otherwise ask for a thread per waiting proof.
set_option Elab.async false

/-! ### Candidates (R30, R154) -/

/-- Working GROUP out for a shelf brings its copy up to date (R154). -/
theorem EventUnit.regroup_group (s : State) (k : ShelfId) (e : EventUnit) :
    (e.regroup s k).copies[condGroup k] = groupPresent s k := by
  unfold EventUnit.regroup
  split <;> rename_i h
  · exact h
  · simp only [(EventUnit.condition_keeps (condGroup k) (groupPresent s k) e).1, getElem_set_fin, if_pos]

/-- The walk of a CAND_STATE occurrence over the shelves that hold slot n (R154). -/
def EventUnit.regroupHolding (s : State) (n : Slot) (e : EventUnit) : EventUnit :=
  (List.finRange 16).foldl (fun e k => if s.shelves[k].holds n then e.regroup s k else e) e

theorem raiseCandState_eq (n : Slot) (s : State) :
    raiseCandState n s = eventStep (fun e => (e.occur (candLatch 0 n)).regroupHolding s n) s := rfl

theorem EventUnit.Legal.regroupHolding {e : EventUnit} (he : e.Legal) (s : State) (n : Slot) :
    (e.regroupHolding s n).Legal := by
  refine foldl_keeps (fun k (e : EventUnit) => if s.shelves[k].holds n then e.regroup s k else e) EventUnit.Legal
    (fun k x hx => ?_) _ e he
  split
  · exact hx.regroup s k
  · exact hx

/-- The GROUP copies after the walk over the shelves that hold slot n. -/
theorem EventUnit.regroupHolding_copy (n : Slot) (s : State) (e : EventUnit) (k : ShelfId) :
    (e.regroupHolding s n).copies[condGroup k] =
      if s.shelves[k].holds n = true then groupPresent s k else e.copies[condGroup k] := by
  have hother : ∀ (i j : ShelfId) (x : EventUnit), i ≠ j →
      (if s.shelves[i].holds n then x.regroup s i else x).copies[condGroup j] = x.copies[condGroup j] :=
      fun i j x hij => by
    split
    · exact EventUnit.regroup_copy s i x _ fun h => hij (condGroup_inj h).symm
    · rfl
  refine (foldl_at (fun k e => if s.shelves[k].holds n then e.regroup s k else e) (fun k e => e.copies[condGroup k])
    (fun _ => True) (fun k x => x.copies[condGroup k] =
      if s.shelves[k].holds n = true then groupPresent s k else e.copies[condGroup k])
    (fun _ _ _ => trivial) (fun i j x _ => hother i j x) e (fun i x _ hx => ?_)
    (fun i j x _ hij hj => (hother i j x hij).trans hj) _ (List.nodup_finRange 16) trivial).2 k (List.mem_finRange k)
  split
  · exact EventUnit.regroup_group s i x
  · exact hx

theorem holds_eq_false {h : Shelf} {n : Slot} (hn : ¬h.holds n = true) (e : EntryId) : h.entries[e].slot ≠ n := by
  intro he
  refine hn (List.any_eq_true.2 ⟨e, List.mem_finRange e, ?_⟩)
  exact decide_eq_true he

/-- A shelf that does not hold the slot keeps its GROUP condition (R154). -/
theorem setCand_group_of_not_holds (n : Slot) (c : Cand) (s : State) (k : ShelfId) (h : ¬s.shelves[k].holds n = true) :
    groupPresent (s.setCand n c) k = groupPresent s k :=
  groupPresent_of_states k rfl fun e => by
    rw [State.setCand_cands_at, if_neg (holds_eq_false h e).symm]

namespace EventsFollow

/-- A state change is told with the GROUP condition of every shelf that holds the slot (R30, R154). -/
theorem raiseCandState (n : Slot) (c : Cand) (s : State) : EventsFollow s (raiseCandState n (s.setCand n c)) := by
  have hnow := fun d => (raiseCandState_sameBut n (s.setCand n c)).conditionNow_eq d
  refine ⟨fun hs => eventStep_latchesOk _ (fun _ he => (he.occur _).regroupHolding _ n) hs, fun d => ?_⟩
  unfold CopyFollows
  rw [hnow]
  by_cases hgroup : ∃ k, d = condGroup k
  · obtain ⟨k, rfl⟩ := hgroup
    have hcopy : (Machine.raiseCandState n (s.setCand n c)).events.copies[condGroup k] =
        if s.shelves[k].holds n = true then groupPresent (s.setCand n c) k else s.events.copies[condGroup k] := by
      rw [raiseCandState_eq, eventStep_copies, EventUnit.regroupHolding_copy, (EventUnit.occur_keeps _ _).1]
      rfl
    rw [hcopy, conditionNow_group, conditionNow_group]
    split <;> rename_i hholds
    · exact .inl rfl
    · exact .inr ⟨rfl, setCand_group_of_not_holds n c s k hholds⟩
  · have hd : ∀ k, d ≠ condGroup k := fun k hk => hgroup ⟨k, hk⟩
    exact .inr ⟨raiseCandState_copy n _ d hd, conditionNow_congr_of (s := s) (t := s.setCand n c)
      (p := fun d => ∀ k, d ≠ condGroup k) (fun _ _ => rfl) (fun _ _ => rfl) (fun _ _ => rfl)
      (fun k hk => absurd rfl (hk k)) d hd⟩

/-- A record with the same state. -/
theorem setCand (n : Slot) (c : Cand) (s : State) (h : c.state = s.cands[n].state) :
    EventsFollow s (s.setCand n c) := by
  refine of_still rfl (conditionNow_congr (fun _ => rfl) (fun _ => rfl) (fun _ => rfl) fun k => ?_)
  refine groupPresent_of_states k rfl fun e => ?_
  rw [State.setCand_cands_at]
  split <;> rename_i hn
  · rw [h]; exact congrArg (fun m : Slot => s.cands[m].state) hn
  · rfl

theorem requestListing (n : Slot) (s : State) : EventsFollow s (requestListing n s) :=
  of_sameBut (requestListing_sameBut n s)

theorem requestCascade (k : ShelfId) (s : State) : EventsFollow s (requestCascade k s) :=
  of_sameBut (requestCascade_sameBut k s)

theorem requestEvaluation (k : ShelfId) (m : Option Slot) (s : State) : EventsFollow s (requestEvaluation k m s) :=
  of_sameBut (requestEvaluation_sameBut k m s)

theorem setFlight (f : InFlight) (s : State) : EventsFollow s (s.setFlight f) := of_still rfl fun _ => rfl

theorem setLane (l : Lane) (s : State) : EventsFollow s (s.setLane l) := of_still rfl fun _ => rfl

theorem setEngine (e : Engine) (s : State) : EventsFollow s (s.setEngine e) := of_still rfl fun _ => rfl

theorem advanceTo (due : Nat) (s : State) : EventsFollow s (s.advanceTo due) := of_still rfl fun _ => rfl

theorem commitCand (n : Slot) (c : Cand) (b : Bool) (s : State) : EventsFollow s (commitCand n c b s) := by
  have htold := (raiseCandState n c s).trans (requestListing n _)
  unfold Machine.commitCand
  extract_lets old s1 s2
  split <;> rename_i hmoves
  · split
    · exact htold.trans (setFlight _ _)
    · exact htold
  · refine setCand n c s ?_
    rw [Bool.not_eq_true, Bool.or_eq_false_iff, decide_eq_false_iff_not, not_not] at hmoves
    exact hmoves.1.symm

/-! ### Grade records (R62, R71) -/

theorem setGrade (n : Slot) (g : GradeSlot) (s : State) (h : g.noticeLost = s.grades[n].noticeLost) :
    EventsFollow s (s.setGrade n g) := by
  refine of_still rfl (conditionNow_congr (fun m => ?_) (fun _ => rfl) (fun _ => rfl) fun _ => rfl)
  rw [State.setGrade_grades_at]
  split <;> rename_i hm
  · exact hm ▸ h
  · rfl

theorem regrade (n : Slot) (s : State) : EventsFollow s (regrade n s) := by
  have hset : EventsFollow s (s.setGrade n { s.grades[n] with eff := effectiveGrade s n }) := setGrade n _ s rfl
  have hrank := hset.ite (hset.trans (raiseEdge (candLatch 1 n) _))
    (c := (effectiveGrade s n).rank = s.grades[n].eff.rank)
  exact (refl s).ite ((hrank.trans (requestListing n _)).trans (of_sameBut (handGrade_sameBut n _)))

/-- NOTICE_LOST is judged anew when the record is committed (R62). -/
theorem commitGrade (n : Slot) (g : GradeSlot) (s : State) : EventsFollow s (commitGrade n g s) := by
  have hstored : FollowsBut (condNoticeLost n) s (s.setGrade n { g with eff := s.grades[n].eff }) := by
    refine .of_still rfl (fun m hm => ?_) (fun _ _ => rfl) (fun _ _ => rfl) fun _ _ => rfl
    rw [State.setGrade_grades_at, if_neg fun h => hm (congrArg condNoticeLost h.symm)]
  refine (hstored.andThen (regrade n _)).raised (regrade_sameBut n _ .conditions (by decide))
    (conditionNow_noticeLost s n) ?_
  rw [conditionNow_noticeLost, regrade_at, if_pos rfl, State.setGrade_grades_at, if_pos rfl]
  rfl

/-! ### Tick inputs (R46) -/

theorem setInput (n : Slot) (i : TickInput) (s : State) (h : i.freqFail = s.inputs[n].freqFail) :
    EventsFollow s (s.setInput n i) := by
  refine of_still rfl (conditionNow_congr (fun _ => rfl) (fun m => ?_) (fun _ => rfl) fun _ => rfl)
  rw [State.setInput_inputs_at]
  split <;> rename_i hm
  · exact hm ▸ h
  · rfl

/-- A record stored, with FREQ_FAIL still to be told (R46). -/
theorem setInput_but (n : Slot) (i : TickInput) (s : State) : FollowsBut (condFreqFail n) s (s.setInput n i) := by
  refine .of_still rfl (fun _ _ => rfl) (fun m hm => ?_) (fun _ _ => rfl) fun _ _ => rfl
  rw [State.setInput_inputs_at, if_neg fun h => hm (congrArg condFreqFail h.symm)]

theorem commitInput (n : Slot) (i : TickInput) (s : State) : EventsFollow s (commitInput n i s) := by
  have hinput : (s.setInput n i).inputs[n] = i := by rw [State.setInput_inputs_at, if_pos rfl]
  unfold Machine.commitInput
  dsimp only
  split
  · refine (setInput_but n i s).raised rfl (conditionNow_freqFail s n) ?_
    rw [conditionNow_freqFail, hinput]
  · refine ((setInput_but n i s).andThen (setFlight _ _)).raised rfl (conditionNow_freqFail s n) ?_
    rw [conditionNow_freqFail]
    exact congrArg TickInput.freqFail hinput

theorem loseTicks (n : Slot) (s : State) : EventsFollow s (loseTicks n s) :=
  ((advanceTo _ s).trans (commitInput n _ _)).ite (refl s)

theorem takeTick (n : Slot) (d : Nat) (s : State) : EventsFollow s (takeTick n d s) := by
  have hlost := (advanceTo (s.osc + d) s).trans ((loseTicks n _).ite (refl _)
    (c := ((s.advanceTo (s.osc + d)).inputs[n].active &&
      decide ((s.advanceTo (s.osc + d)).inputs[n].lastTick + Config.lossSpan < (s.advanceTo (s.osc + d)).osc)) = true))
  exact (hlost.trans (commitInput n _ _)).ite (advanceTo _ s)

/-- Watching that starts or stops leaves FREQ_FAIL absent (R36, R46). -/
theorem watchInput (n : Slot) (was now : Bool) (s : State) : EventsFollow s (watchInput n was now s) := by
  refine (refl s).ite ?_
  generalize hu : (if now = true then s else consumeReports n s) = u
  have hconsumed : u = s.setFlight u.flight := by rw [← hu]; split <;> rfl
  have hbut : FollowsBut (condFreqFail n) s (u.setInput n (s.inputs[n].watch now)) := by
    rw [hconsumed]
    exact (setInput_but n _ s).andThen (setFlight _ _)
  refine hbut.raised (by rw [hconsumed]; rfl) (conditionNow_freqFail s n) ?_
  rw [conditionNow_freqFail, State.setInput_inputs_at, if_pos rfl]
  unfold TickInput.freqFail
  cases now <;> rfl

/-! ### Slices (R110, R122) -/

theorem setSlice (k : ShelfId) (v : Slice) (s : State) (h : v.unreachable = s.slices[k].unreachable) :
    EventsFollow s (s.setSlice k v) := by
  refine of_still rfl (conditionNow_congr (fun _ => rfl) (fun _ => rfl) (fun j => ?_) fun _ => rfl)
  rw [State.setSlice_slices_at]
  split <;> rename_i hj
  · exact hj ▸ h
  · rfl

theorem sendDirective (k : ShelfId) (s : State) : EventsFollow s (sendDirective k s) := by
  have hframe := sendDirective_sameBut k s
  refine of_still hframe.events_eq (conditionNow_congr (fun n => ?_) (fun n => ?_) (fun j => ?_) fun j => ?_)
  · rw [hframe .grades (by decide)]
  · rw [hframe .inputs (by decide)]
  · rw [sendDirective_at]
    split <;> rename_i hj
    · exact hj ▸ rfl
    · rfl
  · exact groupPresent_congr j (by rw [hframe .shelves (by decide)]) (hframe .cands (by decide))

theorem retriple (k : ShelfId) (tell : Bool) (s : State) : EventsFollow s (retriple k tell s) :=
  (setSlice k { s.slices[k] with triple := sliceTriple s k } s rfl).trans (setFlight _ _)

end EventsFollow

theorem Slice.writeSettings_unreachable (now : Nat) (w : SliceSettings) (v : Slice) :
    (v.writeSettings now w).unreachable = v.unreachable := by
  unfold Slice.writeSettings
  dsimp only
  split <;> rfl

/-- From s to u slice k alone is stored anew, with its Directives sent and the clock advanced. -/
structure SliceStored (k : ShelfId) (s u : State) : Prop where
  frame : sameBut [.osc, .slices, .fabric] s u
  others : ∀ j : ShelfId, j ≠ k → u.slices[j] = s.slices[j]

namespace SliceStored

theorem trans {k : ShelfId} {s t u : State} (h : SliceStored k s t) (g : SliceStored k t u) : SliceStored k s u :=
  ⟨h.frame.trans g.frame, fun j hj => (g.others j hj).trans (h.others j hj)⟩

theorem setSlice (k : ShelfId) (v : Slice) (s : State) : SliceStored k s (s.setSlice k v) :=
  ⟨(setSlice_sameBut s k v).mono, fun j hj => by rw [State.setSlice_slices_at, if_neg (Ne.symm hj)]⟩

theorem expired (k : ShelfId) (due : Nat) (v : Slice) (s : State) :
    SliceStored k s ((s.advanceTo due).setSlice k v) :=
  SliceStored.trans (t := s.advanceTo due) ⟨(advanceTo_sameBut s due).mono, fun _ _ => rfl⟩ (setSlice k v _)

theorem sendDirective (k : ShelfId) (s : State) : SliceStored k s (sendDirective k s) :=
  ⟨(sendDirective_sameBut k s).mono, fun j hj => by rw [sendDirective_at, if_neg (Ne.symm hj)]⟩

theorem newDirective (k : ShelfId) (a : Action) (s : State) : SliceStored k s (newDirective k a s) :=
  (setSlice k _ s).trans (sendDirective k _)

/-- Only MODULE_SILENT of the slice can have moved. -/
theorem followsBut {k : ShelfId} {s u : State} (h : SliceStored k s u) : FollowsBut (condModuleSilent k) s u := by
  obtain ⟨hframe, hothers⟩ := h
  refine .of_still hframe.events_eq (fun n _ => ?_) (fun n _ => ?_) (fun j hj => ?_) fun j _ => ?_
  · rw [hframe .grades (by decide)]
  · rw [hframe .inputs (by decide)]
  · rw [hothers j fun h => hj (congrArg condModuleSilent h)]
  · exact groupPresent_congr j (by rw [hframe .shelves (by decide)]) (hframe .cands (by decide))

/-- The event at the slice closes, and MODULE_SILENT is told (R110, R122). -/
theorem closes {k : ShelfId} {s u : State} (h : SliceStored k s u) : EventsFollow s (closeSlice k s.slices[k] u) := by
  have hcopies : u.events.copies = s.events.copies := h.frame .conditions (by decide)
  have htimed := (EventsFollow.refl u).ite (EventsFollow.raiseEdge (shelfLatch 1 k) u)
    (c := u.slices[k].timing = s.slices[k].timing)
  have hframe := (sameBut.refl [.latches, .noticeState, .control] u).ite (raiseEdge_sameBut (shelfLatch 1 k) u)
    (c := u.slices[k].timing = s.slices[k].timing)
  have hsilent := (h.followsBut.andThen htimed).raised ((hframe .conditions (by decide)).trans hcopies)
    (conditionNow_moduleSilent s k)
    (by rw [hframe.conditionNow_eq, conditionNow_moduleSilent])
  exact (hsilent.trans (EventsFollow.retriple k _ _)).ite hsilent

end SliceStored

namespace EventsFollow

theorem takeTarget (k : ShelfId) (t : Option Slot) (s : State) : EventsFollow s (takeTarget k t s) := by
  have hdirected : ∀ a v w, SliceStored k s ((Machine.newDirective k a (s.setSlice k v)).setSlice k w) := fun a v w =>
    ((SliceStored.setSlice k v s).trans (.newDirective k a _)).trans (.setSlice k w _)
  cases t with
  | none => exact (refl s).ite (hdirected _ _ _).closes
  | some c => exact (refl s).ite (hdirected _ _ _).closes

theorem takeReport (k : ShelfId) (f : Frame) (s : State) : EventsFollow s (takeReport k f s) :=
  ite (ite ((SliceStored.setSlice k _ s).trans (.sendDirective k _)).closes (SliceStored.setSlice k _ s).closes)
    (refl s)

theorem takeLockReport (s : State) : EventsFollow s (takeLockReport s) := by
  unfold Machine.takeLockReport
  split
  · refine ite ?_ (refl s)
    dsimp only
    split
    · exact (setLane _ s).trans (takeReport _ _ _)
    · exact setLane _ s
  · exact refl s

theorem takeTargetGrade (k : ShelfId) (s : State) : EventsFollow s (takeTargetGrade k s) := by
  unfold Machine.takeTargetGrade
  split
  · exact refl s
  · exact ((setFlight _ s).trans (retriple k false _)).ite (setFlight _ s)

theorem expireLock (k : ShelfId) (s : State) : EventsFollow s (expireLock k s) := by
  unfold Machine.expireLock
  dsimp only
  split
  · rename_i due _ _
    have hstopped := (advanceTo due s).trans (setSlice k { s.slices[k] with lockTimer := none } _ rfl)
    exact (hstopped.trans (requestEvaluation k _ _)).trans (raiseEdge _ _)
  · exact refl s

theorem expireSettle (k : ShelfId) (s : State) : EventsFollow s (expireSettle k s) := by
  unfold Machine.expireSettle
  dsimp only
  split
  · exact (SliceStored.expired k _ _ s).closes
  · exact refl s

theorem expireReport (k : ShelfId) (s : State) : EventsFollow s (expireReport k s) := by
  unfold Machine.expireReport
  dsimp only
  split
  · exact (SliceStored.expired k _ _ s).closes
  · exact refl s

theorem exhaustBudget (k : ShelfId) (s : State) : EventsFollow s (exhaustBudget k s) := by
  unfold Machine.exhaustBudget
  split
  · exact ((advanceTo _ s).trans (setSlice k { s.slices[k] with exhausted := true } _ rfl)).trans (retriple k false _)
  · exact refl s

theorem writeSlice (k : ShelfId) (w : SliceSettings) (s : State) : EventsFollow s (writeSlice k w s) := by
  have hstored : EventsFollow s (s.setSlice k (s.slices[k].writeSettings s.osc w)) :=
    setSlice k _ s (Slice.writeSettings_unreachable _ _ _)
  have hsent := (hstored.trans (sendDirective k _)).ite hstored
    (c := (decide (w.module ≠ s.slices[k].cfg.module) && decide (s.slices[k].timing ≠ .parked)) = true)
  exact (hsent.trans (retriple k false _)).ite hsent

/-! ### The engine (R78 to R105) -/

theorem setShelf (k : ShelfId) (x : Shelf) (s : State) (h : x.entries = s.shelves[k].entries) :
    EventsFollow s (s.setShelf k x) := by
  refine of_still rfl (conditionNow_congr (fun _ => rfl) (fun _ => rfl) (fun _ => rfl) fun j => ?_)
  refine groupPresent_congr j ?_ rfl
  rw [State.setShelf_shelves_at]
  split <;> rename_i hj
  · exact hj ▸ h
  · rfl

/-- A changed list stored, with GROUP still to be told (R78, R154). -/
theorem setShelf_but (k : ShelfId) (x : Shelf) (s : State) : FollowsBut (condGroup k) s (s.setShelf k x) := by
  refine .of_still rfl (fun _ _ => rfl) (fun _ _ => rfl) (fun _ _ => rfl) fun j hj => ?_
  refine groupPresent_congr j ?_ rfl
  rw [State.setShelf_shelves_at, if_neg fun h => hj (congrArg condGroup h.symm)]

theorem changeTarget (k : ShelfId) (t : Option Target) (s : State) : EventsFollow s (changeTarget k t s) :=
  (((setShelf k { s.shelves[k] with target := t } s rfl).trans (takeTarget k _ _)).trans (raiseEdge _ _)).trans
    (requestCascade k _)

theorem applyMark (k : ShelfId) (m : Option Slot) (s : State) : EventsFollow s (applyMark k m s) := by
  cases m with
  | none => exact refl s
  | some c => exact (setShelf k { s.shelves[k] with failed := s.shelves[k].failed.set c true } s rfl).ite (refl s)

theorem dropManual (k : ShelfId) (s : State) : EventsFollow s (dropManual k s) :=
  (setShelf k { s.shelves[k] with command := .none } s rfl).trans (raiseEdge _ _)

theorem applyTarget (k : ShelfId) (t : Option Slot) (s : State) : EventsFollow s (applyTarget k t s) := by
  have hset : ∀ new, EventsFollow s (s.setShelf k { s.shelves[k] with target := new }) := fun new => setShelf k _ s rfl
  exact (refl s).ite (((hset _).trans (requestCascade k _)).ite (changeTarget k _ s))

theorem evaluate (k : ShelfId) (m : Option Slot) (s : State) : EventsFollow s (evaluate k m s) :=
  (refl s).ite (((applyMark k m s).trans ((dropManual k _).ite (refl _))).trans (applyTarget k _ _))

theorem serveEvaluation (s : State) : EventsFollow s (serveEvaluation s) := by
  unfold Machine.serveEvaluation
  split
  · exact refl s
  · exact (refl s).ite ((setEngine _ s).trans (evaluate _ _ _))

theorem takeRemoval (n : Slot) (s : State) : EventsFollow s (takeRemoval n s) := by
  unfold Machine.takeRemoval
  split
  · exact refl s
  · exact (setFlight _ s).trans (overShelves _
      (fun k t => setShelf k { t.shelves[k] with failed := t.shelves[k].failed.set n false } t rfl) _)

theorem withdrawTarget (k : ShelfId) (s : State) : EventsFollow s (withdrawTarget k s) := by
  unfold Machine.withdrawTarget
  split
  · exact refl s
  · exact ((setShelf k { s.shelves[k] with target := none } s rfl).trans (raiseEdge _ _)).trans (requestCascade k _)

/-- The write of an entry may drop the target before the changed list is told (R78). -/
theorem writeEntry (k : ShelfId) (e : EntryId) (w : Entry) (s : State) : EventsFollow s (writeEntry k e w s) := by
  have hstored := setShelf_but k { s.shelves[k] with entries := s.shelves[k].entries.set e w } s
  refine (refl s).ite (trans (FollowsBut.listTold (FollowsBut.andThen ?_ (setShelf k _ _ ?_)))
    (requestEvaluation k none _))
  · split
    · exact hstored.andThen (changeTarget k none _)
    · exact hstored
  · rfl

theorem setLockout (k : ShelfId) (e : EntryId) (on : Bool) (s : State) : EventsFollow s (setLockout k e on s) :=
  (refl s).ite ((setShelf_but k _ s).listTold.trans (requestEvaluation k none _))

theorem setCommand (k : ShelfId) (c : Command) (s : State) : EventsFollow s (setCommand k c s) :=
  (refl s).ite ((setShelf k { s.shelves[k] with command := c } s rfl).trans (requestEvaluation k none _))

theorem clearMarks (k : ShelfId) (s : State) : EventsFollow s (clearMarks k s) :=
  ((setShelf k { s.shelves[k] with failed := Vector.replicate 24 false } s rfl).trans
    (requestEvaluation k none _)).ite (refl s)

theorem writeSelection (k : ShelfId) (w : Selection) (s : State) : EventsFollow s (writeSelection k w s) :=
  (refl s).ite ((setShelf k { s.shelves[k] with sel := w } s rfl).trans (requestEvaluation k none _))

theorem parkBoth (k : ShelfId) (s : State) : EventsFollow s (parkBoth k s) := by
  have hengine : EventsFollow s (parkEngine k s) := (refl s).ite (withdrawTarget k s)
  exact hengine.trans ((refl _).ite (SliceStored.setSlice k _ _).closes)

theorem unparkSlice (k : ShelfId) (s : State) : EventsFollow s (unparkSlice k s) :=
  ite (((SliceStored.setSlice k _ s).trans (.newDirective k .hold _)).closes.trans (requestEvaluation k none _))
    (refl s)

theorem resetBoth (k : ShelfId) (s : State) : EventsFollow s (resetBoth k s) := by
  have hengine : EventsFollow s (resetEngineHalf k s) := (withdrawTarget k s).trans (setShelf k _ _ rfl)
  exact hengine.trans (ite ((SliceStored.setSlice k _ _).closes.trans (requestEvaluation k none _))
    (((SliceStored.setSlice k _ _).trans (.newDirective k .hold _)).closes.trans (requestEvaluation k none _)))

end EventsFollow

end Sys2Proof.Machine
end

section
/-! PROOFS. Every command follows the conditions, and the settled statement O60. -/

namespace Sys2Proof.Machine

-- One theorem after the other: the joined text would otherwise ask for a thread per waiting proof.
set_option Elab.async false

/-! ### What the writes store (R65, R66, R155) -/

/-- A remapped record keeps its code (R65, R66). -/
theorem GradeSlot.remap_noticeLost (line : Bool) (m : GradeMap) (g : GradeSlot) :
    (g.remap line m).noticeLost = g.noticeLost := by
  unfold GradeSlot.remap
  split <;> rfl

/-- No mode bit of an edge kind is stored (R155). -/
theorem nodeOf_levels (b : List Byte) : (nodeOf b).levels &&& ~~~conditionKinds = 0 := by
  show BitVec.ofNat 13 (numAt b 13 2) &&& conditionKinds &&& ~~~conditionKinds = 0
  rw [BitVec.and_assoc, show conditionKinds &&& ~~~conditionKinds = 0#13 from by decide]
  exact BitVec.and_zero

namespace EventsFollow

/-! ### Received frames, hand-overs and expiries -/

theorem joinToControl (f : Frame) (s : State) : EventsFollow s (joinToControl f s) := by
  rw [joinToControl_eq]
  exact (setLane _ s).ite (raiseEdge _ s)

theorem joinToFabric (f : Frame) (s : State) : EventsFollow s (joinToFabric f s) := by
  rw [joinToFabric_eq]
  exact (setLane _ s).ite (raiseEdge _ s)

theorem joinLocal (f : Frame) (s : State) : EventsFollow s (joinLocal f s) := by
  rw [joinLocal_eq]
  exact (setLane _ s).ite (((raiseEdge _ s).trans (joinToControl f _)).ite (raiseEdge _ s))

theorem joinRequests (f : Frame) (s : State) : EventsFollow s (joinRequests f s) := by
  rw [joinRequests_eq]
  exact (setLane _ s).ite (raiseEdge _ s)

theorem receiveFrame (port : LanePort) (f : Frame) (b : Bool) (s : State) :
    EventsFollow s (receiveFrame port f b s) := by
  refine (refl s).ite (ite ?_ (refl s))
  split
  · exact joinLocal f s
  · exact joinRequests f s
  · cases port with
    | fabric => exact joinToControl f s
    | control => exact joinToFabric f s
  · exact refl s

theorem processNotice (f : Frame) (s : State) : EventsFollow s (processNotice f s) := by
  have happlied : ∀ p, EventsFollow s
      (match boundLine s p with
        | some c => applyNotice c f s
        | none => s) := fun p => by
    split
    · exact commitGrade _ _ s
    · exact refl s
  unfold Machine.processNotice
  split
  · exact joinToControl f s
  · exact (happlied _).ite ((happlied _).trans (joinToControl f _))

theorem takeNotice (s : State) : EventsFollow s (takeNotice s) := by
  unfold Machine.takeNotice
  split
  · exact ((setLane _ s).trans (processNotice _ _)).ite (refl s)
  · exact refl s

theorem takeHealthReport (n : Slot) (s : State) : EventsFollow s (takeHealthReport n s) := by
  unfold Machine.takeHealthReport
  split
  · exact refl s
  · exact (setFlight _ s).trans (commitCand n _ false _)

theorem expireHoldOff (n : Slot) (s : State) : EventsFollow s (expireHoldOff n s) := by
  unfold Machine.expireHoldOff
  split
  · exact (advanceTo _ s).trans (commitCand n _ false _)
  · exact refl s

theorem expireWtr (n : Slot) (s : State) : EventsFollow s (expireWtr n s) := by
  unfold Machine.expireWtr
  split
  · exact (advanceTo _ s).trans (commitCand n _ false _)
  · exact refl s

theorem expireNotice (n : Slot) (s : State) : EventsFollow s (expireNotice n s) := by
  unfold Machine.expireNotice
  split
  · exact (advanceTo _ s).trans (commitGrade n _ _)
  · exact refl s

theorem takeTriple (k : ShelfId) (s : State) : EventsFollow s (takeTriple k s) := by
  unfold Machine.takeTriple
  split
  · exact refl s
  · rename_i r rest _
    have htaken : EventsFollow s
        { s with triples := s.triples.set k r.2, flight := { s.flight with triples := rest } } :=
      of_still rfl fun _ => rfl
    exact htaken.trans (overSlots _ (fun n t => (regrade n t).ite (refl t)) _)

/-! ### What the requests store -/

theorem writeCandidate (n : Slot) (bw : BindingWrite) (gw : GradeWrite) (fw : FrequencyWrite) (s : State) :
    EventsFollow s (writeCandidate n bw gw fw s) := by
  have hbinding : EventsFollow s (writeBinding n bw s) := (commitCand n _ _ s).trans (watchInput n _ _ _)
  exact (hbinding.trans (commitGrade n _ _)).trans (setInput n _ _ rfl)

theorem writeReceiveHalves (ports : Vector RxPort 256) (s : State) : EventsFollow s (writeReceiveHalves ports s) := by
  have hports : EventsFollow s { s with rxPorts := ports } := of_still rfl fun _ => rfl
  have hrebind : ∀ (n : Slot) (x y : Option PortId) (t : State), EventsFollow t (rebindPort n x y t) := fun n x y t =>
    (refl t).ite ((commitGrade n _ t).ite (refl t))
  exact hports.trans (overSlots _ (fun n t => hrebind n _ _ t) _)

theorem applyPorts (b : List Byte) (s : State) : EventsFollow s (applyPorts b s) :=
  (writeReceiveHalves _ s).trans
    (overPorts _ (fun p t => (of_sameBut (writeTransmitHalf_sameBut p _ t)).ite (refl t)) _)

theorem runWritePorts (r : Request) (s : State) : EventsFollow s (runWritePorts r s).state :=
  runWritePorts_keeps (EventsFollow s) (fun b _ h => h.trans (applyPorts b _)) r s (refl s)

theorem detachReceive (m : MapId) (s : State) : EventsFollow s (detachReceive m s) := by
  have hmap : EventsFollow s { s with rmaps := s.rmaps.set m { s.rmaps[m] with attached := false } } :=
    of_still rfl fun _ => rfl
  exact (hmap.trans (overSlots _
    (fun n t => (setGrade n { t.grades[n] with held := true } t rfl).ite (refl t)) _)).ite (refl s)

theorem attachReceive (m : MapId) (s : State) : EventsFollow s (attachReceive m s) := by
  have hmap : EventsFollow s { s with rmaps := s.rmaps.set m { s.rmaps[m] with attached := true } } :=
    of_still rfl fun _ => rfl
  have hremap := overSlots
    (fun n t =>
      if t.grades[n].rmap = m then
        t.setGrade n (t.grades[n].remap (decide (s.cands[n].kind = .line)) { s.rmaps[m] with attached := true })
      else t)
    (fun n t => (setGrade n _ t (GradeSlot.remap_noticeLost _ _ _)).ite (refl t))
    { s with rmaps := s.rmaps.set m { s.rmaps[m] with attached := true } }
  exact (refl s).ite ((hmap.trans hremap).trans (overSlots _ (fun n t => (regrade n t).ite (refl t)) _))

/-- The write moves no condition: only the triples of the slices, and the settings and latches of the Event Unit (R155,
R177). -/
theorem writeNode (b : List Byte) (s : State) : EventsFollow s (writeNode (nodeOf b) s) := by
  have hevents := (tagStored_sameBut (nodeOf b) s).events_eq
  have htag : EventsFollow s (tagStored (nodeOf b) s) := by
    have hslices : ∀ k : ShelfId, (tagStored (nodeOf b) s).slices[k].unreachable = s.slices[k].unreachable :=
        fun k => by
      obtain ⟨-, hnew, hsame, -⟩ := writeBaseTag_spec (nodeOf b).baseTag (scalarsStored (nodeOf b) s)
      by_cases htag : (nodeOf b).baseTag = s.baseTag
      · have hstays := congrArg (fun t : State => t.slices[k].unreachable) (hsame htag)
        exact hstays
      · have hretripled := congrArg Slice.unreachable (hnew htag k).2
        exact hretripled
    have hframe := (scalarsStored_sameBut (nodeOf b) s).andThen (tagStored_sameBut (nodeOf b) s)
      (rs := [.correction, .budget, .baseTag, .queue, .slices, .tripleHandovers, .noticeHandovers])
    refine of_still hevents (conditionNow_congr (fun n => ?_) (fun n => ?_) hslices fun k => ?_)
    · rw [hframe .grades (by decide)]
    · rw [hframe .inputs (by decide)]
    · exact groupPresent_congr k (by rw [hframe .shelves (by decide)]) (hframe .cands (by decide))
  have hwritten : EventsFollow (tagStored (nodeOf b) s) (nodeUndecided (nodeOf b) s) := by
    obtain ⟨-, -, -, -, -, hcopies, -⟩ := EventUnit.write_fields s.osc (nodeOf b) s.events
    refine ⟨fun hs => ?_, fun c => .inr ⟨?_, rfl⟩⟩
    · rw [latchesOk_iff, hevents] at hs
      exact hs.write s.osc (nodeOf b) (nodeOf_levels b)
    · rw [hevents]
      dsimp only
      rw [hcopies]
  rw [writeNode_eq]
  exact (htag.trans hwritten).trans (of_sameBut (sendDecision_sameBut _))

/-- Acknowledgements move latches only (R158). -/
theorem ackAll (ls : List LatchId) (s : State) : EventsFollow s (ackAll ls s) := by
  obtain ⟨hkeeps, -⟩ := foldl_ack ls s.events
  refine ⟨fun hs => foldl_keeps (fun l (e : EventUnit) => e.ack l) EventUnit.Legal (fun l _ he => he.ack l) ls s.events
      hs,
    fun c => .inr ⟨?_, rfl⟩⟩
  unfold Machine.ackAll
  rw [hkeeps]

theorem runCommand (c : Request → Command) (r : Request) (s : State) : EventsFollow s (runCommand c r s).state := by
  unfold Machine.runCommand
  split
  · exact refl s
  · exact setCommand _ _ s

theorem runUnranked {act : Request → State → State} (h : ∀ r t, EventsFollow t (act r t)) (r : Request) (s : State) :
    EventsFollow s (runUnranked act r s).state := by
  unfold Machine.runUnranked
  split
  · exact refl s
  · exact h r s

/-! ### Power-on and the restart (R162, R163) -/

/-- The part starts over with every latch CLEAR, the modes of condition kinds only, and every copy up to date. -/
theorem of_start {s t : State} (hlevels : LatchesOk s → t.events.levels &&& ~~~conditionKinds = 0)
    (hlatches : ∀ l : LatchId, t.events.latches[l] = .clear) (hcurrent : ConditionsCurrent t) : EventsFollow s t :=
  ⟨fun hs => ⟨hlevels hs, fun l => by rw [hlatches l]; exact EventUnit.LegalAt.clear t.events l⟩,
    fun c => .inl (hcurrent c)⟩

end EventsFollow

theorem powerOn_conditionsCurrent (now : Nat) (strap : Address) (level : Bool) (record : RestartRecord)
    (pending : List Instr) : ConditionsCurrent (State.powerOn now strap level record pending) := fun c => by
  have hcands : (State.powerOn now strap level record pending).cands = State.reset.cands := rfl
  have hinputs : (State.powerOn now strap level record pending).inputs = State.reset.inputs := rfl
  have hgrades : (State.powerOn now strap level record pending).grades = State.reset.grades := rfl
  have hshelves : (State.powerOn now strap level record pending).shelves = State.reset.shelves := rfl
  have hcopy : (State.powerOn now strap level record pending).events.copies[c] = false := Vector.getElem_replicate ..
  have hslices : ∀ k : ShelfId, (State.powerOn now strap level record pending).slices[k].unreachable =
      State.reset.slices[k].unreachable := fun k => by
    have hslice : (State.powerOn now strap level record pending).slices[k] = resetSlice now k := Vector.getElem_ofFn ..
    rw [hslice, reset_slices]
    rfl
  rw [hcopy, conditionNow_congr (fun n => by rw [hgrades]) (fun n => by rw [hinputs]) hslices
    (fun k => groupPresent_congr k (by rw [hshelves]) hcands) c, ← reset_conditionsCurrent c, reset_conditions]

theorem enterMissing_freqFail (i : TickInput) : i.enterMissing.freqFail = false := by
  unfold TickInput.freqFail TickInput.enterMissing
  dsimp only
  rw [Bool.and_false, Bool.false_and, Bool.false_and]

/-- After the restart no condition is present but GROUP, whose copies are worked out (R163). -/
theorem deviceRestart_conditionsCurrent (s : State) : ConditionsCurrent (deviceRestart s) := by
  have hframe := deviceRestart_directs s
  have hcopies : (deviceRestart s).events.copies = s.restarted.events.copies := hframe .conditions (by decide)
  obtain ⟨-, hslices⟩ := deviceRestart_sends s _ rfl
  have hbelow : ∀ c : CondId, c.val < 64 → (deviceRestart s).events.copies[c] = false := fun c hc => by
    rw [hcopies, restarted_conditions, dif_neg (by omega)]
  refine forall_condition (fun n => ?_) (fun n => ?_) (fun k => ?_) fun k => ?_
  · have hgrades : (deviceRestart s).grades = s.restarted.grades := hframe .grades (by decide)
    rw [hbelow _ (Nat.lt_of_lt_of_le n.isLt (show 24 ≤ 64 by decide)), conditionNow_noticeLost, hgrades,
      restarted_grades]
    rfl
  · have hinputs : (deviceRestart s).inputs = s.restarted.inputs := hframe .inputs (by decide)
    rw [hbelow _ (Nat.lt_trans (Nat.add_lt_add_left n.isLt 24) (show 24 + 24 < 64 by decide)), conditionNow_freqFail,
      hinputs, restarted_inputs, enterMissing_freqFail]
  · rw [hbelow _ (Nat.add_lt_add_left k.isLt 48), conditionNow_moduleSilent, hslices]
    rfl
  · rw [conditionNow_group]
    exact groupPresent_restarted hframe k

namespace EventsFollow

theorem powerOn (s : State) (now : Nat) (strap : Address) (level : Bool) (record : RestartRecord)
    (pending : List Instr) :
    EventsFollow s (State.powerOn now strap level record pending) :=
  of_start (fun _ => BitVec.zero_and) (fun _ => Vector.getElem_replicate ..)
    (powerOn_conditionsCurrent now strap level record pending)

theorem deviceRestart (s : State) : EventsFollow s (deviceRestart s) := by
  have hframe := deviceRestart_directs s
  have hlatches : (Machine.deviceRestart s).events.latches = s.restarted.events.latches := hframe .latches (by decide)
  obtain ⟨-, hlevels, -⟩ := hframe .eventSettings (by decide)
  refine of_start (fun hs => ?_) (fun l => by rw [hlatches, restarted_latches]) (deviceRestart_conditionsCurrent s)
  rw [hlevels]
  exact hs.1

/-! ### Every command -/

theorem of_next {c : Instr} {s t u : State} (hu : EventsFollow s u) (h : exec c s = .next t) (he : exec c s = .next u) :
    EventsFollow s t := exec_eq_of_next h he ▸ hu

theorem answered (s t : State) (h : sameBut answerParts s t) : EventsFollow s t := of_sameBut h

/-- A row of the agent, where its service follows the conditions. -/
theorem of_agent {c row : Instr} {check : Request → State → Option RefusalAnswer} {run : Request → State → Served}
    {s t : State} (h : exec c s = .next t) (hc : exec c s = .next (serveAgent row check run s))
    (hrun : ∀ r t, EventsFollow t (run r t).state) : EventsFollow s t :=
  exec_agent_keeps (EventsFollow s) (fun _ _ h ht => ht.trans (answered _ _ h)) h hc
    (fun r t ht => ht.trans (hrun r t)) (refl s)

/-- A row of the engine, where its service follows the conditions. -/
theorem of_engine {c row : Instr} {check : Request → State → Option RefusalAnswer} {run : Request → State → Served}
    {s t : State} (h : exec c s = .next t) (hc : exec c s = .next (serveEngine row check run s))
    (hrun : ∀ r t, EventsFollow t (run r t).state) : EventsFollow s t :=
  exec_eq_of_next h hc ▸
    serveEngine_keeps (EventsFollow s) (fun _ _ h ht => ht.trans (answered _ _ h))
      (fun _ ht => ht.trans (setEngine _ _)) (fun _ => True) (fun _ _ _ => trivial)
      (fun r t _ ht => ht.trans (hrun r t)) s (fun _ _ _ _ _ _ _ => trivial) (refl s)

theorem of_masked {c row : Instr} {check : Request → State → Option RefusalAnswer} {act : ShelfId → State → State}
    {s t : State} (h : exec c s = .next t) (hc : exec c s = .next (serveEngine row check (runMasked act) s))
    (hact : ∀ k t, EventsFollow t (act k t)) : EventsFollow s t :=
  of_engine h hc fun _ t => overMask _ act hact t

/-- A command whose frame names neither the Event Unit nor a part that holds conditions. -/
theorem of_frame {c : Instr} {s t : State} (h : exec c s = .next t)
    (hd : decide (∀ p ∈ [.latches, .conditions, .eventSettings] ++ conditionParts, p ∉ commandParts c) = true := by
      rfl) :
    EventsFollow s t := of_sameBut (exec_sameBut c s t h) (of_decide_eq_true hd)

end EventsFollow

/-- Every command follows the conditions. -/
theorem exec_eventsFollow (c : Instr) (s t : State) (h : exec c s = .next t) : EventsFollow s t := by
  cases c with
  | powerOn | resetLineReleased | transmissionEnd | deviceRestart =>
    exact exec_startsOver_keeps (EventsFollow s) (fun _ _ _ _ _ => .powerOn s ..)
      (fun u hu => hu.trans (.deviceRestart u)) (fun u l hu => hu.trans (.setLane l u)) rfl h (.refl s)
  | frameReceived port f b => exact (EventsFollow.receiveFrame port f b s).of_next h rfl
  | receivedGradeNotice => exact (EventsFollow.takeNotice s).of_next h rfl
  | lockReport => exact (EventsFollow.takeLockReport s).of_next h rfl
  | tick n d => exact (EventsFollow.takeTick n d s).of_next h rfl
  | tickLoss n => exact (EventsFollow.loseTicks n s).of_next h rfl
  | healthReport n => exact (EventsFollow.takeHealthReport n s).of_next h rfl
  | lockFailedRemoval n => exact (EventsFollow.takeRemoval n s).of_next h rfl
  | holdOffExpiry n => exact (EventsFollow.expireHoldOff n s).of_next h rfl
  | wtrExpiry n => exact (EventsFollow.expireWtr n s).of_next h rfl
  | noticeTimerExpiry n => exact (EventsFollow.expireNotice n s).of_next h rfl
  | tripleHandover k => exact (EventsFollow.takeTriple k s).of_next h rfl
  | targetGradeHandover k => exact (EventsFollow.takeTargetGrade k s).of_next h rfl
  | evaluation => exact (EventsFollow.serveEvaluation s).of_next h rfl
  | lockTimerExpiry k => exact (EventsFollow.expireLock k s).of_next h rfl
  | settleTimerExpiry k => exact (EventsFollow.expireSettle k s).of_next h rfl
  | reportTimerExpiry k => exact (EventsFollow.expireReport k s).of_next h rfl
  | holdoverBudgetExhausted k => exact (EventsFollow.exhaustBudget k s).of_next h rfl
  | writeCandidate => exact .of_agent h rfl fun _ t => .writeCandidate _ _ _ _ t
  | writeListEntry => exact .of_engine h rfl fun _ t => .overMask _ _ (fun k t => .writeEntry k _ _ t) t
  | writeShelf =>
    exact .of_engine h rfl fun _ t =>
      .overMask _ _ (fun k t => (EventsFollow.writeSelection k _ t).trans (.writeSlice k _ _)) t
  | writePorts => exact .of_agent h rfl EventsFollow.runWritePorts
  | detachReceiveMap => exact .of_agent h rfl fun _ t => .detachReceive _ t
  | attachReceiveMap => exact .of_agent h rfl fun _ t => .attachReceive _ t
  | writeNode => exact .of_agent h rfl fun _ t => .writeNode _ t
  | commandHold | commandForce | commandManual => exact .of_engine h rfl (EventsFollow.runCommand _)
  | commandClear => exact .of_engine h rfl (EventsFollow.runUnranked fun _ t => .setCommand _ _ t)
  | commandLockout => exact .of_engine h rfl (EventsFollow.runUnranked fun _ t => .setLockout _ _ _ t)
  | park => exact .of_masked h rfl EventsFollow.parkBoth
  | unpark => exact .of_masked h rfl EventsFollow.unparkSlice
  | sliceReset => exact .of_masked h rfl EventsFollow.resetBoth
  | clearMarks => exact .of_masked h rfl EventsFollow.clearMarks
  | ackEvents => exact .of_agent h rfl fun _ t => .ackAll _ t
  | _ => exact EventsFollow.of_frame h

/-! ### The settled statement -/

/-- Settles O60: every command keeps the latches legal and follows the conditions. -/
theorem stepKeepsLatchesLegal : Obligations.StepKeepsLatchesLegal :=
  ⟨step_keeps LatchesOk (fun c s t h => (exec_eventsFollow c s t h).latches) fun _ _ h => h,
    step_keeps ConditionsCurrent (fun c s t h => (exec_eventsFollow c s t h).conditionsCurrent) fun _ _ h => h⟩

end Sys2Proof.Machine
end

section
/-! PROOFS. The Event Unit's own events: its state at power-up (O5), the spacing and summary timers (O33), and
ACK_EVENTS (O50). -/

namespace Sys2Proof.Machine

-- One theorem after the other: the joined text would otherwise ask for a thread per waiting proof.
set_option Elab.async false

/-! ### Power-up (R162) -/

/-- Settles O5: the Event Unit is that of the power-on state, in which every copy is up to date. -/
theorem powerUpEventUnit : Obligations.PowerUpEventUnit := by
  intro s t h
  obtain ⟨straps, level, record, rfl⟩ := h.eq_powerOn
  have hcopies : ∀ c : CondId, (State.powerOn s.osc straps level record s.pending).events.copies[c] = false := fun _ =>
    Vector.getElem_replicate ..
  exact ⟨rfl, rfl, rfl, rfl, rfl, fun _ => Vector.getElem_replicate ..,
    fun c => ⟨hcopies c, (powerOn_conditionsCurrent _ _ _ _ _ c).symm.trans (hcopies c)⟩, rfl, rfl, rfl, startMs_s _ 10⟩

/-! ### The sending decision (R159) -/

theorem freshNotice_summaryTimer (s : State) : (freshNotice s).events.summaryTimer = s.events.summaryTimer := by
  unfold freshNotice
  split <;> rfl

/-- The sending decision leaves the summary timer as it is. -/
theorem sendDecision_summaryTimer (s : State) : (sendDecision s).events.summaryTimer = s.events.summaryTimer := by
  unfold sendDecision
  split
  · rfl
  · split
    · split
      · exact freshNotice_summaryTimer s
      · rfl
    · split
      · rfl
      · dsimp only
        split
        · exact freshNotice_summaryTimer _
        · rfl

/-- Without a destination, or during spacing, nothing is decided. -/
theorem sendingDecided.waits {s t : State} (h : sendingDecided s t)
    (hwaits : s.events.destination = 0 ∨ s.events.spacingTimer.isSome = true) : t = s := by
  unfold sendingDecided at h
  rw [if_pos hwaits] at h
  exact h

/-- Without news and resume point there is nothing to tell. -/
theorem sendingDecided.nothing {s t : State} (h : sendingDecided s t) (hnews : s.events.news = false)
    (hresume : s.events.resume = none) : t = s := by
  unfold sendingDecided at h
  rw [hresume, hnews] at h
  split at h
  · exact h
  · exact (if_neg Bool.false_ne_true).mp h

/-- With a destination, outside spacing, news alone makes a fresh notice due. -/
theorem sendingDecided.fresh {s t : State} (h : sendingDecided s t) (hdestination : s.events.destination ≠ 0)
    (hspacing : s.events.spacingTimer = none) (hresume : s.events.resume = none) (hnews : s.events.news = true) :
    freshDue s t := by
  unfold sendingDecided at h
  rw [if_neg (by rw [hspacing]; simpa using hdestination), hresume] at h
  exact (if_pos hnews).mp h

/-! ### The spacing timer -/

/-- The state with the clock at the expiry or later and the spacing timer stopped. -/
def State.spacingExpired (s : State) (due : Nat) : State :=
  { s with osc := max s.osc due, events := { s.events with spacingTimer := none } }

theorem spacingExpired_sameBut (s : State) (due : Nat) : sameBut [.osc, .noticeState] s (s.spacingExpired due) := by
  intro p hp; cases p <;> simp_all [Part.same, State.spacingExpired]

theorem exec_spacingTimerExpiry {s : State} {due : Nat} (h : s.events.spacingTimer = some due) :
    exec .spacingTimerExpiry s = .next (sendDecision (s.spacingExpired due)) := by
  have hrun : expireSpacing s = sendDecision (s.spacingExpired due) := by
    unfold expireSpacing
    rw [h]
    rfl
  exact congrArg Host.Outcome.next hrun

/-! ### The summary timer (R160) -/

/-- The state with the clock at the expiry or later and the summary timer running again. -/
def State.summaryExpired (s : State) (due : Nat) : State :=
  { s with
    osc := max s.osc due
    events := { s.events with summaryTimer := some (max s.osc due + s.events.summaryS * 125000000) } }

/-- The same with news, as a standing latch makes it. -/
def State.summaryDue (s : State) (due : Nat) : State :=
  { s with
    osc := max s.osc due
    events :=
      { s.events with
        summaryTimer := some (max s.osc due + s.events.summaryS * 125000000)
        news := true } }

theorem summaryExpired_sameBut (s : State) (due : Nat) :
    sameBut [.osc, .noticeState, .control] s (s.summaryExpired due) := by
  intro p hp; cases p <;> simp_all [Part.same, State.summaryExpired]

theorem summaryDue_sameBut (s : State) (due : Nat) : sameBut [.osc, .noticeState] s (s.summaryDue due) := by
  intro p hp; cases p <;> simp_all [Part.same, State.summaryDue]

theorem exec_summaryTimerExpiry {s : State} {due : Nat} (h : s.events.summaryTimer = some due) :
    exec .summaryTimerExpiry s =
      .next (if s.events.standing = [] then s.summaryExpired due else sendDecision (s.summaryDue due)) := by
  have hrun : expireSummary s =
      if s.events.standing = [] then s.summaryExpired due else sendDecision (s.summaryDue due) := by
    unfold expireSummary State.summaryExpired State.summaryDue
    rw [h]
    dsimp only
    rw [startMs_s]
    exact if_congr List.isEmpty_iff rfl rfl
  exact congrArg Host.Outcome.next hrun

/-- Settles O33: both timers end in the sending decision, the summary timer only with a latch standing. -/
theorem eventTimersExpire : Obligations.EventTimersExpire := by
  refine ⟨fun due s hdue => ?_, fun due s hdue => ?_⟩
  · have hexec := exec_spacingTimerExpiry hdue
    have hdecided := sendDecision_decided (s.spacingExpired due)
    have hframe : sameBut [.osc, .noticeState, .control] s (sendDecision (s.spacingExpired due)) :=
      (spacingExpired_sameBut s due).andThen (sendDecision_sameBut _)
    refine ⟨fun hdestination hresume hnews hstanding => ?_, fun hquiet => ?_, _, hexec, hdecided⟩
    · have hdue := hdecided.fresh hdestination rfl hresume hnews
      have hoffered : noticeOffered true s.events.standing (s.spacingExpired due)
          (sendDecision (s.spacingExpired due)) := by
        unfold freshDue at hdue
        exact (if_neg hstanding).mp hdue
      obtain ⟨hspacing, -, hsame, htold⟩ := hoffered
      refine ⟨_, hexec, hsame .osc (by decide), hspacing, ?_, hframe⟩
      by_cases hroom : s.lane.control.localQ.length < 8
      · rw [if_pos hroom]
        exact (if_pos hroom).mp htold
      · rw [if_neg hroom]
        obtain ⟨hcontrol, hkeepsNews, hkeepsResume⟩ := (if_neg hroom).mp htold
        exact ⟨hcontrol, hkeepsNews.trans hnews, hkeepsResume.trans hresume⟩
    · have hstops : sendDecision (s.spacingExpired due) = s.spacingExpired due := by
        rcases hquiet with hdestination | ⟨hnews, hresume⟩
        · exact hdecided.waits (.inl hdestination)
        · exact hdecided.nothing hnews hresume
      rw [hstops] at hexec
      exact ⟨_, hexec, rfl, rfl, rfl, spacingExpired_sameBut s due⟩
  · have hexec := exec_summaryTimerExpiry hdue
    by_cases hstanding : s.events.standing = []
    · rw [if_pos hstanding] at hexec
      exact ⟨_, hexec, rfl, rfl, fun _ => ⟨rfl, rfl, rfl, rfl⟩, fun hno => absurd hstanding hno,
        fun hno => absurd hstanding hno, summaryExpired_sameBut s due⟩
    · rw [if_neg hstanding] at hexec
      have hdecided := sendDecision_decided (s.summaryDue due)
      have hframe := sendDecision_sameBut (s.summaryDue due)
      refine ⟨_, hexec, hframe .osc (by decide), sendDecision_summaryTimer _, fun hno => absurd hno hstanding,
        fun _ hwaits => ?_, fun _ => hdecided, (summaryDue_sameBut s due).andThen hframe⟩
      rw [hdecided.waits hwaits]
      exact ⟨rfl, rfl, rfl⟩

/-! ### ACK_EVENTS (R158, R179) -/

/-- A body names every latch with a count of 0, and else the latches of its pairs (R158, R179). -/
theorem mem_ackLatches (b : List Byte) (l : LatchId) :
    l ∈ ackLatches b ↔
      byteAt b 0 = 0 ∨ ∃ i, i < byteAt b 0 ∧ latchOf (byteAt b (1 + 2 * i)) (byteAt b (2 + 2 * i)) = some l := by
  unfold ackLatches ackPairs
  by_cases hall : byteAt b 0 = 0
  · rw [if_pos hall]
    exact iff_of_true (List.mem_finRange l) (.inl hall)
  · rw [if_neg hall, or_iff_right hall]
    simp only [List.mem_filterMap, List.mem_map, List.mem_range]
    constructor
    · rintro ⟨q, ⟨i, hi, rfl⟩, hq⟩
      exact ⟨i, hi, hq⟩
    · rintro ⟨i, hi, hq⟩
      exact ⟨_, ⟨i, hi, rfl⟩, hq⟩

theorem ackAll_sameBut (ls : List LatchId) (s : State) : sameBut [.latches] s (ackAll ls s) := by
  obtain ⟨hkeeps, -⟩ := foldl_ack ls s.events
  intro p hp
  unfold ackAll
  rw [hkeeps]
  cases p <;> simp_all [Part.same]

/-- Settles O50: the acknowledgements in their order are one acknowledgement at each named latch. -/
theorem acknowledgementsApplied : Obligations.AcknowledgementsApplied := by
  intro r s htaken hcheck
  have hguard : unguarded (checkAckEvents r) = none := by rw [hcheck]; rfl
  have hexec : exec .ackEvents s = .next (answer r ⟨ackAll (ackLatches r.body) s, .done, []⟩) :=
    congrArg Host.Outcome.next (serveAgent_runs (fun r _ => unguarded (checkAckEvents r)) _ htaken hguard)
  obtain ⟨-, hlatches⟩ := foldl_ack (ackLatches r.body) s.events
  refine ⟨ackAll (ackLatches r.body) s, _, hexec, answer_answered r ⟨_, _, _⟩, fun l => ?_, ackAll_sameBut _ s⟩
  exact (hlatches l).trans (if_congr (and_congr_left' (mem_ackLatches _ _)) rfl rfl)

end Sys2Proof.Machine
end

section
/-! PROOFS. The management requests that the agent serves alone: the ones it does not apply (O35), IDENTIFY and the reads
(O37, O38), the semaphores (O45), RESTART and CLEAR_RESTART_RECORD (O51). -/

namespace Sys2Proof.Machine

-- One theorem after the other: the joined text would otherwise ask for a thread per waiting proof.
set_option Elab.async false

/-! ### The agent's service of a request (R164 to R166) -/

/-- A row that the agent serves answers a request that passes its checks with what the service leaves. -/
theorem agent_served {row : Instr} {check : Request → State → Option RefusalAnswer} {run : Request → State → Served}
    {r : Request} {s : State} (hrow : exec row s = .next (serveAgent row check run s)) (htaken : Taken row r s)
    (hcheck : check r s = none) {o : Served} (ho : run r s = o) :
    ∃ t, exec row s = .next t ∧ Answered r o.status o.body o.state t :=
  ⟨_, hrow.trans (congrArg Host.Outcome.next (serveAgent_runs check run htaken hcheck)), ho ▸ answer_answered r (run r s)⟩

/-- A body whose length, indexes and values are right passes its checks (R166). -/
theorem checkBody_passes {a b c : Bool} (ha : a = true) (hb : b = true) (hc : c = true) : checkBody a b c = none := by
  rw [ha, hb, hc]
  rfl

theorem checkEmpty_passes {r : Request} (h : r.body = []) : checkEmpty r = none :=
  checkBody_passes (decide_eq_true (congrArg List.length h)) rfl rfl

/-! ### Requests that are not applied (R166, R186) -/

/-- A frame with fewer than three body bytes is a REQUEST_TOO_SHORT (R186). -/
theorem requestRow_short {f : Frame} (h : (frameBody f).length < 3) : requestRow f = .requestTooShort := by
  unfold requestRow requestOf
  rw [if_pos h]

/-- The kind codes run from 0x01 to 0x13; any other is an UNKNOWN_KIND (R166, Section 10.5). -/
theorem requestRow_unknown {f : Frame} {r : Request} (hrequest : requestOf f = some r)
    (hkind : r.kind = 0 ∨ 0x13 < r.kind) : requestRow f = .unknownKind := by
  unfold requestRow
  rw [hrequest]
  dsimp only
  split
  any_goals omega
  rfl

/-- The service of a REQUEST_TOO_SHORT takes it from the request queue (R186). -/
theorem dropShortRequest_short {f : Frame} {rest : List Frame} {s : State} (hphase : s.agent.phase = .ready)
    (hrequests : s.lane.requests = f :: rest) (hshort : (frameBody f).length < 3) :
    dropShortRequest s = dequeueRequest .ready s := by
  simp only [dropShortRequest, hphase, hrequests, requestRow_short hshort, if_true]

/-- With the agent free, a request that leaves the queue changes nothing else. -/
theorem dequeueRequest_ready_sameBut {s : State} (hphase : s.agent.phase = .ready) :
    sameBut [.requests] s (dequeueRequest .ready s) := by
  intro p hp
  cases p <;> simp_all [Part.same, dequeueRequest]

/-- Settles O35: the short request is dropped, and the check of UNKNOWN_KIND refuses every request. -/
theorem unknownRequestsNotApplied : Obligations.UnknownRequestsNotApplied := by
  refine ⟨fun f rest s hphase hrequests hshort => ?_, fun f rest r s hphase hrequests hrequest hkind => ?_⟩
  · have hrun := dropShortRequest_short hphase hrequests hshort
    exact ⟨_, congrArg Host.Outcome.next hrun, congrArg List.tail hrequests, dequeueRequest_ready_sameBut hphase⟩
  · have htaken : Taken .unknownKind r s := ⟨hphase, f, rest, hrequests, requestRow_unknown hrequest hkind, hrequest⟩
    exact agent_refused (q := (.unknownKind, [])) rfl htaken rfl

/-! ### IDENTIFY (R170) -/

/-- Settles O37. -/
theorem identifyAnswersPart : Obligations.IdentifyAnswersPart := fun _ _ htaken hbody =>
  agent_served rfl htaken (unguarded_none (checkEmpty_passes hbody)) rfl

/-! ### READ_TABLE (R171) -/

theorem recordCount_eq {table size : Nat} (h : tableSize table = some size) (start count : Nat) :
    recordCount table start count = min count (min (size - start) (233 / recordLength table)) := by
  unfold recordCount
  rw [h]
  rfl

/-- A READ_TABLE of one to sixteen records, from a record that the table holds, passes its checks (R171). -/
theorem checkReadTable_passes {r : Request} {size : Nat} (hlength : r.body.length = 3)
    (hsize : tableSize (byteAt r.body 0) = some size) (hstart : byteAt r.body 1 < size) (hsome : 1 ≤ byteAt r.body 2)
    (hmost : byteAt r.body 2 ≤ 16) : checkReadTable r = none := by
  unfold checkReadTable
  rw [hsize]
  refine checkBody_passes (decide_eq_true hlength) (decide_eq_true hstart) ?_
  rw [decide_eq_true hsome, decide_eq_true hmost]
  rfl

/-! ### READ_STATUS (R172) -/

theorem statusRow_shelf_iff (object : Nat) : statusRow object = .readStatusShelf ↔ object = 1 := by
  unfold statusRow
  split_ifs <;> simp [*]

theorem statusRow_port_iff (object : Nat) : statusRow object = .readStatusPort ↔ object = 2 := by
  unfold statusRow
  split_ifs <;> simp [*]

/-- No action of COMMAND spells the status row of a shelf or of a port. -/
theorem commandRow_not_status (action : Nat) :
    ¬(commandRow action = .readStatusShelf ∨ commandRow action = .readStatusPort) := by
  unfold commandRow
  split_ifs <;> decide

theorem sliceRow_not_status (action : Nat) :
    ¬(sliceRow action = .readStatusShelf ∨ sliceRow action = .readStatusPort) := by
  unfold sliceRow
  split_ifs <;> decide

/-- Only the kind READ_STATUS spells the rows of a shelf's and of a port's status, by its object code (Table 10-9). -/
theorem requestRow_status {f : Frame} {r : Request} {row : Instr} (hrequest : requestOf f = some r)
    (hrow : requestRow f = row) (hstatus : row = .readStatusShelf ∨ row = .readStatusPort) :
    statusRow (byteAt r.body 0) = row := by
  unfold requestRow at hrow
  rw [hrequest] at hrow
  dsimp only at hrow
  split at hrow
  case h_3 => exact hrow
  case h_8 | h_10 | h_11 => split at hrow <;> exact absurd (hrow ▸ hstatus) (by decide)
  case h_14 => exact absurd (hrow ▸ hstatus) (commandRow_not_status _)
  case h_15 => exact absurd (hrow ▸ hstatus) (sliceRow_not_status _)
  all_goals exact absurd (hrow ▸ hstatus) (by decide)

theorem taken_status {row : Instr} {r : Request} {s : State} (htaken : Taken row r s)
    (hstatus : row = .readStatusShelf ∨ row = .readStatusPort) : statusRow (byteAt r.body 0) = row := by
  obtain ⟨-, f, -, -, hrow, hrequest⟩ := htaken
  exact requestRow_status hrequest hrow hstatus

/-- A READ_STATUS of an object that there is passes its checks (R172). -/
theorem checkReadStatus_passes {r : Request} (hlength : r.body.length = 2)
    (hobject : byteAt r.body 0 = 0 ∧ byteAt r.body 1 < 24 ∨ byteAt r.body 0 = 1 ∧ byteAt r.body 1 < 16 ∨
      byteAt r.body 0 = 2) : checkReadStatus r = none := by
  refine checkBody_passes (decide_eq_true hlength) ?_ (decide_eq_true (by omega))
  rcases hobject with ⟨hcode, hindex⟩ | ⟨hcode, hindex⟩ | hcode
  · rw [if_pos hcode, decide_eq_true hindex]
  · rw [if_neg (by omega), if_pos hcode, decide_eq_true hindex]
  · rw [if_neg (by omega), if_neg (by omega)]

/-- A READ_STATUS row answers a request that passes its checks with the object, the index and the object's fields. -/
theorem status_served {row : Instr} {size : Nat} [NeZero size] {fields : State → Fin size → List Byte} {r : Request}
    {s : State} {object : Nat} {x : Fin size}
    (hrow : exec row s = .next (serveStatus row (fun t i => fields t (Fin.ofNat size i)) s)) (htaken : Taken row r s)
    (hcheck : checkReadStatus r = none) (hobject : byteAt r.body 0 = object) (hindex : byteAt r.body 1 = x.val) :
    ∃ t, exec row s = .next t ∧ Answered r .done ([byteOf object, byteOf x.val] ++ fields s x) s t := by
  subst hobject
  refine agent_served hrow htaken (unguarded_none hcheck) (o := ⟨s, .done, _⟩) ?_
  dsimp only
  rw [hindex, Fin.ofNat_val_eq_self]

/-- Settles O38: the service of a read leaves the state as it is, and the object's code is told by the row. -/
theorem readsAnswerState : Obligations.ReadsAnswerState := by
  refine fun r s => ⟨fun size htaken hlength hsize hstart hsome hmost => ?_, fun n htaken hlength hobject hindex => ?_,
    fun k htaken hlength hindex => ?_, fun p htaken hlength hindex => ?_⟩
  · have hcheck := checkReadTable_passes hlength hsize hstart hsome hmost
    obtain ⟨t, hexec, hanswered⟩ := agent_served rfl htaken (unguarded_none hcheck) rfl
    exact ⟨t, _, hexec, recordCount_eq hsize _ _, hanswered⟩
  · have hcheck := checkReadStatus_passes hlength (.inl ⟨hobject, hindex ▸ n.isLt⟩)
    exact status_served (fields := candidateStatus) rfl htaken hcheck hobject hindex
  · have hobject := (statusRow_shelf_iff _).1 (taken_status htaken (.inl rfl))
    have hcheck := checkReadStatus_passes hlength (.inr (.inl ⟨hobject, hindex ▸ k.isLt⟩))
    exact status_served (fields := shelfStatus) rfl htaken hcheck hobject hindex
  · have hobject := (statusRow_port_iff _).1 (taken_status htaken (.inr rfl))
    have hcheck := checkReadStatus_passes hlength (.inr (.inr hobject))
    exact status_served (fields := portStatus) rfl htaken hcheck hobject hindex

/-! ### TAKE and RELEASE (R168) -/

/-- The byte that spells a bank (Table 10-9). -/
theorem bankByte_val {body : List Byte} {b : Fin 5} (h : body = [byteOf b.val]) : byteAt body 0 = b.val := by
  subst h
  exact Nat.mod_eq_of_lt (Nat.lt_trans b.isLt (by decide))

theorem bankByte_bank {body : List Byte} {b : Fin 5} (h : body = [byteOf b.val]) : Fin.ofNat 5 (byteAt body 0) = b := by
  rw [bankByte_val h, Fin.ofNat_val_eq_self]

theorem checkBank_passes {r : Request} {b : Fin 5} (h : r.body = [byteOf b.val]) : checkBank r = none :=
  checkBody_passes (decide_eq_true (congrArg List.length h)) rfl (decide_eq_true (bankByte_val h ▸ b.isLt))

/-- The state with the semaphore of bank b written. -/
def State.withSemaphore (s : State) (b : Fin 5) (holder : Option Address) : State :=
  s.setAgent { s.agent with sems := s.agent.sems.set b holder }

theorem withSemaphore_sameBut (s : State) (b : Fin 5) (holder : Option Address) :
    sameBut [.semaphores] s (s.withSemaphore b holder) := by
  intro p hp
  cases p <;> simp_all [Part.same, State.withSemaphore]

/-- TAKE of a FREE semaphore makes the requester its holder (R168). -/
theorem runTake_free {r : Request} {b : Fin 5} {s : State} (hbody : r.body = [byteOf b.val])
    (hfree : s.agent.sems[b] = none) : runTake r s = ⟨s.withSemaphore b (some r.source), .granted, []⟩ := by
  obtain rfl := bankByte_bank hbody
  unfold runTake
  dsimp only
  rw [hfree]
  rfl

/-- TAKE of a HELD semaphore leaves it and names its holder (R168). -/
theorem runTake_held {r : Request} {b : Fin 5} {s : State} {a : Address} (hbody : r.body = [byteOf b.val])
    (hheld : s.agent.sems[b] = some a) : runTake r s = ⟨s, .held, beBytes 2 a.toNat⟩ := by
  obtain rfl := bankByte_bank hbody
  unfold runTake
  dsimp only
  rw [hheld]

theorem runRelease_eq {r : Request} {b : Fin 5} (s : State) (hbody : r.body = [byteOf b.val]) :
    runRelease r s = ⟨s.withSemaphore b none, .done, []⟩ := by
  obtain rfl := bankByte_bank hbody
  rfl

/-- Settles O45. -/
theorem semaphoresTakenAndReleased : Obligations.SemaphoresTakenAndReleased := by
  intro r b s hbody
  have hcheck := unguarded_none (checkBank_passes hbody)
  refine ⟨fun htaken => ⟨fun hfree => ?_, fun a hheld => ?_⟩, fun htaken => ?_⟩
  · obtain ⟨t, hexec, hanswered⟩ := agent_served rfl htaken hcheck (runTake_free hbody hfree)
    exact ⟨_, t, hexec, hanswered, rfl, withSemaphore_sameBut s b _⟩
  · exact agent_served rfl htaken hcheck (runTake_held hbody hheld)
  · obtain ⟨t, hexec, hanswered⟩ := agent_served rfl htaken hcheck (runRelease_eq s hbody)
    exact ⟨_, t, hexec, hanswered, rfl, withSemaphore_sameBut s b _⟩

/-! ### RESTART and CLEAR_RESTART_RECORD (R180, R181) -/

/-- RESTART, on a request of its own that passes the checks, offers the answer that is marked (R181). -/
theorem serveRestart_runs {r : Request} {s : State} (htaken : Taken .restart r s)
    (hcheck : guarded bankNode (checkEmpty r) r s = none) :
    serveRestart s = placeAnswer ⟨answerFrame s r .done [], true⟩ s := by
  obtain ⟨hphase, f, rest, hqueue, hrow, hrequest⟩ := htaken
  simp [serveRestart, hphase, hqueue, hrow, hrequest, hcheck]

/-- The state with all three flags of the restart record clear. -/
def State.recordCleared (s : State) : State :=
  s.setAgent { s.agent with record := { powerOn := false, resetLine := false, restartRequest := false } }

theorem recordCleared_sameBut (s : State) : sameBut [.record] s s.recordCleared := by
  intro p hp
  cases p <;> simp_all [Part.same, State.recordCleared]

/-- Settles O51: the marked answer is placed or waits, as every answer. -/
theorem restartRequestAnswered : Obligations.RestartRequestAnswered := by
  intro r s hbody hunheld
  have hcheck := checkEmpty_passes hbody
  refine ⟨fun htaken => ?_, fun htaken => ?_⟩
  · have hrun := serveRestart_runs htaken (hcheck ▸ guarded_unheld hunheld)
    exact ⟨_, _, congrArg Host.Outcome.next hrun, rfl, rfl, placeAnswer_cases _ s⟩
  · obtain ⟨t, hexec, hanswered⟩ := guarded_served rfl htaken hcheck hunheld rfl
    exact ⟨s.recordCleared, t, hexec, hanswered, rfl, recordCleared_sameBut s⟩

end Sys2Proof.Machine
end
